-- ==== Sys2Proof/Word.lean ====
section
/-! DEFINITION. Word.lean: the fixed widths of the GC8's bytes, table items, sample words and counts. -/

namespace Sys2Proof

/-- One byte of a frame on the tone link (12_frame_and_record_formats.md, Table 12.1). -/
abbrev Byte := BitVec 8

/-- One 16-bit item of a table object, or one 16-bit sample word (R154, R28). -/
abbrev Item := BitVec 16

/-- A 32-bit field: a count, an event detail, a CRC (R45, R126, R177, R183). -/
abbrev Word32 := BitVec 32

/-- The items of one table object, numbered from 0 (R154). -/
abbrev Items := List Item

/-- The number of one head, and of its depth pipeline and head port (introduction, Names). -/
abbrev Head := Fin 8

end Sys2Proof
end

