-- ==== Sys2Proof/Config.lean ====
section
/-! DEFINITION. Config.lean: the numbers the manual fixes for the part, and the one value it leaves open. -/

namespace Sys2Proof.Config

/-- Capacity of the inbound frame buffer in bytes (R168). -/
def bufferBytes : Nat := 32768

/-- Length field above which a frame in reception is OVERSIZE (R167). -/
def oversizeLength : Nat := 1062

/-- Largest payload of any frame kind (R167, R183). -/
def largestPayload : Nat := 1056

/-- The link-loss interval in ticks (R165). -/
def linkLossTicks : Nat := 50000

/-- Ticks in one millisecond of the fill timeout (R79). -/
def ticksPerMs : Nat := 50000

/-- Ticks for which an input must hold a new level before it is taken (R88, R134). -/
def filterTicks : Nat := 4

/-- Entries of the request list (R69). -/
def requestEntries : Nat := 16

/-- Places of the COMMAND_REPLY queue (R173). -/
def replyPlaces : Nat := 8

/-- Places of the TABLE_DATA queue (R173). -/
def dataPlaces : Nat := 2

/-- Entries of one head's defect list (R125). -/
def defectEntries : Nat := 16

/-- Sample words of one column slot (R47). -/
def slotWords : Nat := 8192

/-- Shortest nominal cell interval of one phase, in ticks (R13). -/
def shortestInterval : Nat := 3125

/-- What a sample word that nothing has written reads as.
DESIGN CHOICE (assumption 6), unsafe: the manual gives sample words no value before they are received. -/
def unwrittenSample : Item := 0

/-- FREE VALUE (assumption 7), safe: the command code that the COMMAND_REPLY to a malformed COMMAND frame with an empty
payload carries in byte 1.
Table 12.5 says "command code of a COMMAND frame, as received", and none was received.
The argument is the number of such values already drawn (`Link.draws`). -/
opaque codeNotReceived : Nat → Byte

end Sys2Proof.Config
end

