-- ==== Sys2Proof/Syntax.lean ====
section
/-! DEFINITION. Syntax.lean: the frames of the downstream lane, and the commands the GC8 takes, one constructor of `Instr`
for each row of spec/opcode_table.json. -/

namespace Sys2Proof

/-- The two strobe phases (R97, R128). -/
inductive Phase where
  | a
  | b
  deriving DecidableEq, Repr

/-- One downstream frame without its start symbol, length field and CRC (Table 12.1).
The length field of a stored frame is the length of its payload (R167). -/
structure Frame where
  /-- Header byte 0. -/
  kind : Byte
  /-- Header byte 1. -/
  flags : Byte
  /-- Header byte 2. -/
  tag : Byte
  /-- Header byte 5. -/
  zero : Byte
  /-- The payload bytes. -/
  payload : List Byte
  deriving DecidableEq, Repr

/-- One segment of a column, as a COLUMN_DATA frame carries it (section 4.3, Table 12.3).
Its count is the number of its words. -/
structure Segment where
  /-- Request id, 0 for a preload. -/
  id : Byte
  /-- The LOCK flag. -/
  lock : Bool
  /-- Tile id, a 16-bit field. -/
  tile : Item
  /-- Column, a 16-bit field. -/
  column : Item
  /-- Index within the column of the first word carried. -/
  offset : Item
  /-- The sample words, in sample order. -/
  words : List Item
  deriving DecidableEq, Repr

/-- The levels of the FAULT and STEP_DONE inputs of the eight head ports when a reset ends, bit h for head h (R128, R134). -/
structure PortPins where
  fault : BitVec 8
  stepDone : BitVec 8
  deriving DecidableEq, Repr

/-- How the index input has stood: inactive for `low` ticks, and then active for `held` ticks, up to the tick of the command;
with `held` 0 it is inactive now (R88, assumption 5). -/
structure IndexLevels where
  low : Nat
  held : Nat
  deriving DecidableEq, Repr

/-- What LNK makes of a frame at the head of the inbound buffer (R169, R184). -/
inductive Inbound where
  /-- A COLUMN_DATA frame for CFU. -/
  | segment (sg : Segment)
  /-- A TABLE_WRITE frame for TLM. -/
  | tableWrite (tag kind copy : Byte) (start : Item) (items : Items)
  /-- A TABLE_READ frame for TLM. -/
  | tableRead (tag kind copy : Byte) (start count : Item)
  /-- A COMMAND frame of a known code, with the arguments its command reads; the arguments it does not read are 0. -/
  | command (tag code a : Byte) (b c : Item)
  /-- A frame LNK answers itself with UNKNOWN: its kind, its tag and the command code of a COMMAND frame
  (`none` where a COMMAND frame carries no byte of payload). -/
  | unknown (kind tag : Byte) (code : Option Byte)
  /-- A malformed COLUMN_DATA frame of the given size, dropped at dispatch. -/
  | badSegment (size : Nat)
  deriving DecidableEq, Repr

/-- The commands of the GC8, one for each row of spec/opcode_table.json.
Every command carries `tick`, the tick time of the 50 MHz reference at which it is taken (assumption 3).
A row that a downstream frame carries has the frame's tag and the fields that its command reads. -/
inductive Instr where
  /-- POWER_ON_RESET: RESET_N, with the levels of the FAULT and STEP_DONE inputs and of the index input when the reset ends
  (R88, R128, R163). -/
  | powerOnReset (pins : PortPins) (indexPin : Bool) (tick : Nat)
  /-- JOB_ARM (R143). -/
  | jobArm (tag : Byte) (tick : Nat)
  /-- JOB_START (R144). -/
  | jobStart (tag : Byte) (tick : Nat)
  /-- JOB_HALT (R146). -/
  | jobHalt (tag : Byte) (tick : Nat)
  /-- JOB_ABORT (R148). -/
  | jobAbort (tag : Byte) (tick : Nat)
  /-- JOB_CLEAR (R151). -/
  | jobClear (tag : Byte) (tick : Nat)
  /-- SOFT_RESET (R152, R153). -/
  | softReset (tag : Byte) (tick : Nat)
  /-- HEAD_STOP of the head of that number (R122). -/
  | headStop (tag head : Byte) (tick : Nat)
  /-- HEAD_ABORT (R123). -/
  | headAbort (tag head : Byte) (tick : Nat)
  /-- HEAD_RESUME (R124). -/
  | headResume (tag head : Byte) (tick : Nat)
  /-- TRIP_CLEAR (R138). -/
  | tripClear (tag head : Byte) (tick : Nat)
  /-- COMMIT of the GRAD and HEAD_CAL objects of the two masks (R160). -/
  | commit (tag gradMask calMask : Byte) (tick : Nat)
  /-- CACHE_LOCK of a key (R61). -/
  | cacheLock (tag : Byte) (tile column : Item) (tick : Nat)
  /-- CACHE_UNLOCK of a key (R63). -/
  | cacheUnlock (tag : Byte) (tile column : Item) (tick : Nat)
  /-- CACHE_INVALIDATE with any form byte but that of the all form; form 0 is the key form (R60, R64). -/
  | cacheInvalidateKey (tag form : Byte) (tile column : Item) (tick : Nat)
  /-- CACHE_INVALIDATE, all form (R65). -/
  | cacheInvalidateAll (tag : Byte) (tick : Nat)
  /-- CACHE_QUERY of the slot of that number (R66). -/
  | cacheQuery (tag slot : Byte) (tick : Nat)
  /-- TABLE_WRITE to an object kind with no row of its own, an unknown object kind among them (R155). -/
  | tableWrite (tag kind copy : Byte) (start : Item) (items : Items) (tick : Nat)
  /-- TABLE_WRITE to TILE (R67). -/
  | tileWrite (tag copy : Byte) (start : Item) (items : Items) (tick : Nat)
  /-- TABLE_WRITE to WEAR (R42). -/
  | wearWrite (tag copy : Byte) (start : Item) (items : Items) (tick : Nat)
  /-- TABLE_WRITE to ROUTE (R178). -/
  | routeWrite (tag copy : Byte) (start : Item) (items : Items) (tick : Nat)
  /-- TABLE_READ (R158). -/
  | tableRead (tag kind copy : Byte) (start count : Item) (tick : Nat)
  /-- COLUMN_DATA (R74). -/
  | columnData (sg : Segment) (tick : Nat)
  /-- FILL_EXPIRY: the oldest entry idle for longer than the fill timeout expires (R80). -/
  | fillExpiry (tick : Nat)
  /-- UNKNOWN_FRAME (R169). -/
  | unknownFrame (f : Frame) (tick : Nat)
  /-- MALFORMED_FRAME (R184). -/
  | malformedFrame (f : Frame) (tick : Nat)
  /-- FRAME_RECEIVED: a start symbol and the bytes that follow it on the downstream lane (R167). -/
  | frameReceived (bytes : List Byte) (tick : Nat)
  /-- LINK_TRAINING (R165). -/
  | linkTraining (tick : Nat)
  /-- FRAMING_ACQUIRED (R165). -/
  | framingAcquired (tick : Nat)
  /-- LINK_LOSS, with the tick of the last idle symbol seen on the downstream lane (R165, R166). -/
  | linkLoss (lastIdle tick : Nat)
  /-- TRANSMISSION_END (R174). -/
  | transmissionEnd (tick : Nat)
  /-- INDEX: the index input has been inactive and then active for the times of `levels` (R88, R95). -/
  | index (levels : IndexLevels) (tick : Nat)
  /-- INDEX_TIMEOUT (R94). -/
  | indexTimeout (tick : Nat)
  /-- CELL_STROBE of one phase (R98). -/
  | cellStrobe (phase : Phase) (tick : Nat)
  /-- STEP_DONE: the input has become active and held that for `held` ticks (R133, R134). -/
  | stepDone (head : Head) (held tick : Nat)
  /-- FAULT_EDGE: the input has become active and held that for `held` ticks (R134, R135). -/
  | faultEdge (head : Head) (held tick : Nat)
  /-- FAULT_RELEASE: the input has become inactive and held that for `held` ticks (R134). -/
  | faultRelease (head : Head) (held tick : Nat)
  /-- STEP_DONE_RELEASE: the input has become inactive and held that for `held` ticks (R134). -/
  | stepDoneRelease (head : Head) (held tick : Nat)
  deriving DecidableEq, Repr

end Sys2Proof
end

