-- ==== Sys2Proof/Machine/State.lean ====
section
/-! DEFINITION. Machine/State.lean: every piece of state the manual gives the GC8, block by block (Table I.2), the reasons a
step can stop, and the state after power-on reset. -/

namespace Sys2Proof.Machine

/-! ## Names -/

/-- The seven job states, in the order of their codes 0..6 (Table 8.1, R186). -/
inductive JobState where
  | idle | ready | running | halting | halted | complete | faulted
  deriving DecidableEq, Repr

/-- The four spindle states, codes 0..3 (Table 5.1, R186). -/
inductive SpindleState where
  | noSignal | measuring | locked | offSpeed
  deriving DecidableEq, Repr

/-- The nine head states, codes 0..8 (R105, R186). -/
inductive HeadState where
  | idle | ready | waiting | engraving | stopping | stopped | stalled | tripped | finished
  deriving DecidableEq, Repr

/-- The three slot states, codes 0..2 (R49, Table 12.5). -/
inductive SlotState where
  | empty | filling | resident
  deriving DecidableEq, Repr

/-- The three link states (R165). -/
inductive LinkState where
  | down | training | up
  deriving DecidableEq, Repr

/-- The two ways of a cache set (R47). -/
inductive Way where
  | zero | one
  deriving DecidableEq, Repr

/-- The causes of a DEFECT track end (R117, R125). -/
inductive DefectCause where
  | shortRev | aborted | tripped | cellsSuppressed | jobFault
  deriving DecidableEq, Repr

/-- The ten reasons for which arm validation fails (Table 1.5). -/
inductive ArmReason where
  | layoutRange | rate | laneTile | laneGeometry | laneExtent | laneOverlap | window | headRange | headOverlap | noHead
  deriving DecidableEq, Repr

/-- The outcome of the last arm validation (R11, R141). -/
inductive Validation where
  | empty
  | accepted
  | failed (reason : ArmReason) (object : Nat)
  deriving DecidableEq, Repr

/-- The 23 event kinds, in the order of their numbers 0..22 (Table 11.1). -/
inductive EventKind where
  | linkLoss | linkUp | crcError | rxOverrun | strayData | fillOrder | fillTimeout | cacheConflict
  | spinLocked | spinOffSpeed | spinNoSignal | shortRev | trackDone | trackDefect | idleRev | headStalled
  | headTrip | driveSaturated | headParked | jobState | commitApplied | defectListFull | cellSuppressed
  deriving DecidableEq, Repr

/-- The three routing actions (R176). -/
inductive RouteAction where
  | none | haltJob | abortJob
  deriving DecidableEq, Repr

/-- The result codes of a COMMAND_REPLY or TABLE_DATA, in the order of their codes 0..11 (section 12.3). -/
inductive Result where
  | accepted | partialWrite | clamped | busy | state | invalid | range | readOnly | spindle | conflict | absent | unknown
  deriving DecidableEq, Repr

/-! ## Upstream frames -/

/-- A COLUMN_REQUEST frame (R72, Table 12.5). -/
structure ColumnRequest where
  id : Byte
  tile : Nat
  column : Nat
  length : Nat
  deriving DecidableEq, Repr

/-- The record of a slot, as CACHE_QUERY returns it (R66, section 12.3). -/
structure SlotReport where
  slot : Nat
  state : SlotState
  /-- Tile id and column; absent when the slot is EMPTY. -/
  key : Option (Nat × Nat)
  lock : Bool
  pins : Nat
  lru : Way
  fill : Nat
  deriving DecidableEq, Repr

/-- The result data of a COMMAND_REPLY (section 12.3). -/
inductive ReplyData where
  | none
  /-- INVALID: the reason code and the object number. -/
  | invalid (reason : ArmReason) (object : Nat)
  /-- TABLE_WRITE: the number of items stored. -/
  | stored (items : Nat)
  /-- CACHE_INVALIDATE: the numbers invalidated and skipped. -/
  | counts (invalidated skipped : Nat)
  /-- CACHE_QUERY: the slot record. -/
  | slot (r : SlotReport)
  deriving DecidableEq, Repr

/-- A COMMAND_REPLY frame (Table 12.5). -/
structure CommandReply where
  tag : Byte
  /-- Kind code of the frame answered. -/
  kind : Byte
  /-- Command code of a COMMAND frame, 0 for any other frame. -/
  code : Byte
  result : Result
  /-- The clamp mark. -/
  mark : Bool
  data : ReplyData
  deriving DecidableEq, Repr

/-- A TABLE_DATA frame (Table 12.5). -/
structure TableData where
  tag : Byte
  result : Result
  kind : Byte
  copy : Byte
  start : Item
  items : Items
  deriving DecidableEq, Repr

/-- A REPORT frame (R179, Table 12.5). -/
structure Report where
  kind : EventKind
  level : Nat
  count : Nat
  mask : BitVec 8
  detail : Word32
  deriving DecidableEq, Repr

/-- An upstream frame of any class (R173); a FLOW frame carries HOLD (`true`) or RESUME (`false`). -/
inductive UpFrame where
  | flow (hold : Bool)
  | columnRequest (r : ColumnRequest)
  | commandReply (r : CommandReply)
  | tableData (d : TableData)
  | report (r : Report)
  deriving DecidableEq, Repr

/-- The frame in transmission, with the HOLD flag of its header as it stood when the frame began (R174, R185). -/
structure Sending where
  frame : UpFrame
  hold : Bool
  deriving DecidableEq, Repr

/-- Where the reply to an accepted SOFT_RESET is, while R172 suspends the watermark check for it. -/
inductive ResetReply where
  | none | waiting | sending
  deriving DecidableEq, Repr

/-! ## Table objects -/

/-- The kinds of table object (Table 9.1, Table 12.6). -/
inductive ObjKind where
  | layout | lane | tile | expand | headSetup | headCal | headCalActive | grad | gradActive | wear | route | defect
  | counters | status
  deriving DecidableEq, Repr

/-- A TABLE_READ that TLM has taken and not yet answered: its items are taken in events of their own (R158). -/
structure Reading where
  /-- The TABLE_DATA being formed, with the items taken so far. -/
  data : TableData
  object : ObjKind
  /-- The number of items that the TABLE_DATA will carry. -/
  total : Nat
  deriving DecidableEq, Repr

/-! ## The blocks -/

/-- LNK: Table 10.1, and the two pieces that R165 and R172 imply. -/
structure Link where
  state : LinkState
  /-- Tick of the last valid symbol on the downstream lane that a command has shown (R165). -/
  lastSymbol : Nat
  /-- Frame in reception: the bytes received so far. -/
  reception : Option (List Byte)
  /-- Inbound frame buffer, in arrival order. -/
  inbound : List Frame
  /-- HOLD state. -/
  hold : Bool
  /-- FLOW queue. -/
  flowQueue : Option Bool
  requestQueue : List ColumnRequest
  replyQueue : List CommandReply
  dataQueue : List TableData
  /-- Frame in transmission. -/
  sending : Option Sending
  /-- The reply to a SOFT_RESET that has not been sent (R172). -/
  resetReply : ResetReply
  /-- The MODEL's own: how many free values have been drawn (assumption 7). -/
  draws : Nat
  deriving DecidableEq, Repr

/-- JCU: the job state and the outcome of the last arm validation (R141). -/
structure Job where
  state : JobState
  validation : Validation
  deriving DecidableEq, Repr

/-- TLM: the objects of Table 9.1 that it holds itself, each as its array of items, and the commit-pending marks (R159).
The wear counts are 32-bit counts that two items view (R42). -/
structure Tables where
  layout : Items
  lanes : Vector Items 16
  tiles : Vector Items 32
  expands : Vector Items 4
  setups : Vector Items 8
  cals : Vector Items 8
  calsActive : Vector Items 8
  grads : Vector Items 8
  gradsActive : Vector Items 8
  wear : Vector Word32 8
  route : Items
  /-- Commit-pending mark of GRAD n in bit n. -/
  gradPending : BitVec 8
  /-- Commit-pending mark of HEAD_CAL n in bit n. -/
  calPending : BitVec 8
  /-- The TABLE_READ in progress (R158). -/
  reading : Option Reading
  deriving DecidableEq, Repr

/-- The strobed revolution in progress (R96). -/
structure Revolution where
  tIdx : Nat
  period : Nat
  cells : Nat
  /-- Next-cell position of phase A. -/
  posA : Nat
  /-- Next-cell position of phase B. -/
  posB : Nat
  deriving DecidableEq, Repr

/-- STU: Table 5.1, with the level of the index input (R88). -/
structure Spindle where
  state : SpindleState
  ring : Vector (Option Nat) 4
  writePtr : Fin 4
  valid : Nat
  tPrev : Option Nat
  run : Nat
  pAvg : Nat
  rev : Option Revolution
  /-- Filtered level of the index input (R88). -/
  index : Bool
  /-- Level of the index input itself, before the filter. -/
  indexPin : Bool
  deriving DecidableEq, Repr

/-- A column's key: tile id 0..31 and column 0..4,095 (R8). -/
structure Key where
  tile : Fin 32
  column : Fin 4096
  deriving DecidableEq, Repr

/-- A slot record but for its sample words (Table 3.1). -/
structure Slot where
  state : SlotState
  key : Option Key
  lock : Bool
  pins : Nat
  fill : Nat
  deriving DecidableEq, Repr

/-- CCA: the slots, one LRU mark per set, and the sample words of all slots, as (address, word) pairs in the canonical
form of `Samples.wf`; sample word i of slot n stands at address 8,192 × n + i (R47). -/
structure Cache where
  slots : Vector Slot 64
  lru : Vector Way 32
  samples : List (Nat × Item)
  deriving DecidableEq, Repr

/-- A request list entry (Table 4.1). -/
structure Request where
  id : Byte
  key : Key
  slot : Fin 64
  length : Nat
  next : Nat
  received : Nat
  lock : Bool
  active : Nat
  deriving DecidableEq, Repr

/-- CFU: the request list, oldest first, and the request id counter (R69, R71). -/
structure Fetch where
  requests : List Request
  counter : Byte
  deriving DecidableEq, Repr

/-- The kind of a track record, with the key and slot of an IMAGE record or the tone of a MARGIN record (Table 6.1). -/
inductive TrackBody where
  | image (key : Key) (slot : Option (Fin 64))
  | margin (tone : Nat)
  deriving DecidableEq, Repr

/-- A track record (Table 6.1); `active` is status ACTIVE, `suppressed` the defect mark CELLS_SUPPRESSED. -/
structure TrackRecord where
  track : Nat
  body : TrackBody
  active : Bool
  suppressed : Bool
  deriving DecidableEq, Repr

/-- A defect list entry (R125). -/
structure Defect where
  track : Nat
  cause : DefectCause
  deriving DecidableEq, Repr

/-- One head channel of TPL (Table 6.2). -/
structure Channel where
  state : HeadState
  nextTrack : Nat
  positioned : Bool
  wait : Nat
  complete : Bool
  queue : List TrackRecord
  defects : List Defect
  overflow : BitVec 16
  tracksDone : Word32
  tracksDefective : Word32
  idleRevs : Word32
  deriving DecidableEq, Repr

/-- One depth pipeline (R39, R45). -/
structure Pipe where
  wearTerm : Option Nat
  engraved : Word32
  suppressed : Word32
  saturations : Word32
  deriving DecidableEq, Repr

/-- One head port (Table 7.1), with its LOAD line (R140) and the levels of its two input pins (R134). -/
structure Port where
  phase : Phase
  /-- The STEP line is raised. -/
  step : Bool
  /-- Filtered FAULT level. -/
  fault : Bool
  /-- Filtered STEP_DONE level. -/
  stepDone : Bool
  /-- The cell word last delivered. -/
  word : BitVec 16
  /-- The pulses that the LOAD line has given since the last reset: one for each delivery (R140, assumption 23). -/
  loads : Nat
  /-- The tick of the strobe that the last LOAD pulse follows; `none` while LOAD has stayed inactive since the reset. -/
  loadTick : Option Nat
  /-- Level of the FAULT input itself, before the filter. -/
  faultPin : Bool
  /-- Level of the STEP_DONE input itself, before the filter. -/
  stepDonePin : Bool
  deriving DecidableEq, Repr

/-- A pending event record (Table 11.2). -/
structure Pending where
  count : Nat
  mask : BitVec 8
  detail : Word32
  deriving DecidableEq, Repr

/-- A routing action that an occurrence calls for and that has not been taken yet (R150). -/
structure DueAction where
  action : RouteAction
  kind : EventKind
  deriving DecidableEq, Repr

/-- EVR: one record per event kind, `none` when clear (R177), and the actions due within the event in progress. -/
structure Events where
  records : Vector (Option Pending) 23
  /-- The MODEL's own: actions called for and not yet taken; empty between commands (assumption 12). -/
  due : List DueAction
  deriving DecidableEq, Repr

/-- The state of the GC8. -/
structure State where
  lnk : Link
  jcu : Job
  tlm : Tables
  stu : Spindle
  cca : Cache
  cfu : Fetch
  heads : Vector Channel 8
  pipes : Vector Pipe 8
  ports : Vector Port 8
  evr : Events
  /-- Tick time of the latest command (the timing reference of the introduction). -/
  now : Nat
  /-- The MODEL's own: the commands waiting, first in, first out. -/
  pending : List Instr
  deriving DecidableEq, Repr

/-! ## Why a step can stop -/

/-- No step of this model faults: the manual names no condition that stops the GC8, and every command has an effect
(a refused command is answered by a COMMAND_REPLY, which is a next state).  Nothing raises a fault; that is safe. -/
inductive Fault : Type where
  deriving DecidableEq, Repr

/-- Why a command has no meaning in the model. -/
inductive Refusal where
  /-- Raised by `exec` alone, for a row that has no meaning yet; no row is in that case.  Safe. -/
  | notModelled (mnemonic : String)
  deriving DecidableEq, Repr

/-! ## Power-on values -/

/-- Table 1.1, by the item map of Table 12.6; P_nom 75,000,000 is 26,816 + 65,536 × 1,144 (R163). -/
def Tables.layoutReset : Items :=
  [0, 1, 16, 0, 0, 2, 8, 26816, 1144, 10, 50, 24576, 8192]

/-- Table 1.2 (R163). -/
def Tables.laneReset : Items := [0, 0, 0, 1, 1, 1, 1, 1, 1, 0, 0]

/-- Table 1.3 (R163). -/
def Tables.tileReset : Items := [0, 1, 1, 8, 0, 0, 0, 0]

/-- Entry t of an expansion table is t × 4 (R31, R163). -/
def Tables.expandReset : Items := (List.range 256).map fun t => BitVec.ofNat 16 (t * 4)

/-- Table 1.4 (R163). -/
def Tables.setupReset : Items := [0, 0, 0, 0, 0]

/-- Table 2.3 for one head; the wear interval 100,000 is 34,464 + 65,536 × 1 (R163). -/
def Tables.calReset (h : Head) : Items :=
  [BitVec.ofNat 16 h.val, 0, 0, 4096, 0, 0, 4095, 0, 34464, 1, 0, 0]

/-- Knot k of a gradation table is min(16 × k, 4,095) (R35, R163). -/
def Tables.gradReset : Items := (List.range 257).map fun k => BitVec.ofNat 16 (min (16 * k) 4095)

/-- Level 3 and action NONE for every kind (R163, R176). -/
def Tables.routeReset : Items := List.replicate 23 3

/-- TLM after power-on reset (R163). -/
def Tables.reset : Tables where
  layout := Tables.layoutReset
  lanes := Vector.replicate 16 Tables.laneReset
  tiles := Vector.replicate 32 Tables.tileReset
  expands := Vector.replicate 4 Tables.expandReset
  setups := Vector.replicate 8 Tables.setupReset
  cals := Vector.ofFn Tables.calReset
  calsActive := Vector.ofFn Tables.calReset
  grads := Vector.replicate 8 Tables.gradReset
  gradsActive := Vector.replicate 8 Tables.gradReset
  wear := Vector.replicate 8 0
  route := Tables.routeReset
  gradPending := 0
  calPending := 0
  reading := none

/-- LNK after power-on reset (Table 10.1). -/
def Link.reset : Link where
  state := .down
  lastSymbol := 0
  reception := none
  inbound := []
  hold := false
  flowQueue := none
  requestQueue := []
  replyQueue := []
  dataQueue := []
  sending := none
  resetReply := .none
  draws := 0

/-- JCU after power-on reset and SOFT_RESET (R141). -/
def Job.reset : Job where
  state := .idle
  validation := .empty

/-- STU after a power-on reset or SOFT_RESET that ends with the index input at the given level (Table 5.1, R88). -/
def Spindle.reset (indexPin : Bool) : Spindle where
  state := .noSignal
  ring := Vector.replicate 4 none
  writePtr := 0
  valid := 0
  tPrev := none
  run := 0
  pAvg := 0
  rev := none
  index := indexPin
  indexPin := indexPin

/-- An EMPTY slot (R49). -/
def Slot.empty : Slot where
  state := .empty
  key := none
  lock := false
  pins := 0
  fill := 0

/-- CCA after power-on reset: every slot EMPTY, every LRU mark naming way 0 (R68), no sample word written. -/
def Cache.reset : Cache where
  slots := Vector.replicate 64 Slot.empty
  lru := Vector.replicate 32 .zero
  samples := []

/-- CFU after power-on reset and SOFT_RESET (R70). -/
def Fetch.reset : Fetch where
  requests := []
  counter := 1

/-- A head channel after power-on reset and SOFT_RESET (Table 6.2). -/
def Channel.reset : Channel where
  state := .idle
  nextTrack := 0
  positioned := true
  wait := 0
  complete := false
  queue := []
  defects := []
  overflow := 0
  tracksDone := 0
  tracksDefective := 0
  idleRevs := 0

/-- A depth pipeline after power-on reset and SOFT_RESET (R39, R45). -/
def Pipe.reset : Pipe where
  wearTerm := none
  engraved := 0
  suppressed := 0
  saturations := 0

/-- A head port after a reset that ends with its inputs at the given levels (Table 7.1). -/
def Port.reset (faultPin stepDonePin : Bool) : Port where
  phase := .a
  step := false
  fault := faultPin
  stepDone := stepDonePin
  word := 0
  loads := 0
  loadTick := none
  faultPin := faultPin
  stepDonePin := stepDonePin

/-- EVR after power-on reset and SOFT_RESET: no pending record (R178). -/
def Events.reset : Events where
  records := Vector.replicate 23 none
  due := []

/-- The GC8 right after power-on reset, with every input inactive, at tick 0 (R163 and each block's chapter). -/
def State.reset : State where
  lnk := Link.reset
  jcu := Job.reset
  tlm := Tables.reset
  stu := Spindle.reset false
  cca := Cache.reset
  cfu := Fetch.reset
  heads := Vector.replicate 8 Channel.reset
  pipes := Vector.replicate 8 Pipe.reset
  ports := Vector.replicate 8 (Port.reset false false)
  evr := Events.reset
  now := 0
  pending := []

end Sys2Proof.Machine
end

