-- ==== Sys2Proof/Machine/Operands.lean ====
section
/-! DEFINITION. Machine/Operands.lean: the fields of the table objects, read from their items (Table 12.6, R186), and the
codes of Tables 12.1 to 12.7. -/

namespace Sys2Proof.Machine

/-! ## Items -/

/-- Item `i` of an object as a number. -/
def item (o : Items) (i : Nat) : Nat := (o.getD i 0).toNat

/-- A 32-bit field held in items `i` and `i + 1`, low item first (R154). -/
def wideItem (o : Items) (i : Nat) : Nat := item o i + 65536 * item o (i + 1)

/-- A flag item: 0 is off, any other item is on (R186). -/
def flagItem (o : Items) (i : Nat) : Bool := item o i != 0

/-- The two items of a 32-bit count, low item first (R154). -/
def itemsOfWord32 (w : Word32) : Items := [w.setWidth 16, (w >>> 16).setWidth 16]

/-- The 32-bit count of a low and a high item. -/
def word32OfItems (lo hi : Item) : Word32 := hi ++ lo

/-- A number as one item. -/
def toItem (n : Nat) : Item := BitVec.ofNat 16 n

/-- A flag as one item: 1 for on, 0 for off (R186). -/
def boolItem (b : Bool) : Item := if b then 1 else 0

/-- A saturating step of a count: it stops at its largest value (introduction, Arithmetic; R41, R45, R125, R126). -/
def satInc {w : Nat} (x : BitVec w) : BitVec w := if x = BitVec.allOnes w then x else x + 1

/-! ## LAYOUT (Table 1.1) -/

/-- Cells per revolution C. -/
def State.cells (s : State) : Nat := item s.tlm.layout 0
/-- Track count N_t. -/
def State.trackCount (s : State) : Nat := item s.tlm.layout 1
/-- Step window S. -/
def State.window (s : State) : Nat := item s.tlm.layout 2
/-- Stagger. -/
def State.stagger (s : State) : Bool := flagItem s.tlm.layout 3
/-- Default margin tone. -/
def State.defaultTone (s : State) : Nat := item s.tlm.layout 4
/-- Lookahead. -/
def State.lookahead (s : State) : Nat := item s.tlm.layout 5
/-- Wait limit. -/
def State.waitLimit (s : State) : Nat := item s.tlm.layout 6
/-- Nominal revolution period P_nom in ticks. -/
def State.nominal (s : State) : Nat := wideItem s.tlm.layout 7
/-- Tolerance in per mille. -/
def State.tolerance (s : State) : Nat := item s.tlm.layout 9
/-- Fill timeout in ticks (R79). -/
def State.fillTimeout (s : State) : Nat := item s.tlm.layout 10 * Config.ticksPerMs
/-- High watermark. -/
def State.highMark (s : State) : Nat := item s.tlm.layout 11
/-- Low watermark. -/
def State.lowMark (s : State) : Nat := item s.tlm.layout 12

/-! ## LANE (Table 1.2) -/

/-- Valid. -/
def laneValid (o : Items) : Bool := flagItem o 0
/-- Tile id, 0..31. -/
def laneTile (o : Items) : Fin 32 := Fin.ofNat 32 (item o 1)
/-- First track a. -/
def laneFirst (o : Items) : Nat := item o 2
/-- Across repeats Ka. -/
def laneAcross (o : Items) : Nat := item o 3
/-- Across pitch Pa. -/
def laneAcrossPitch (o : Items) : Nat := item o 4
/-- Across replication r_x. -/
def laneAcrossRep (o : Items) : Nat := item o 5
/-- Around repeats K. -/
def laneAround (o : Items) : Nat := item o 6
/-- Around pitch P. -/
def laneAroundPitch (o : Items) : Nat := item o 7
/-- Around replication r_u. -/
def laneAroundRep (o : Items) : Nat := item o 8
/-- Drop offset d. -/
def laneDrop (o : Items) : Nat := item o 9
/-- Margin tone. -/
def laneTone (o : Items) : Nat := item o 10

/-! ## TILE (Table 1.3) -/

/-- Valid. -/
def tileValid (o : Items) : Bool := flagItem o 0
/-- Width W in columns. -/
def tileColumns (o : Items) : Nat := item o 1
/-- Length L in samples. -/
def tileLength (o : Items) : Nat := item o 2
/-- Sample width w. -/
def tileSampleWidth (o : Items) : Nat := item o 3
/-- Justify is LEFT. -/
def tileJustifyLeft (o : Items) : Bool := flagItem o 4
/-- Fill mode code: 0 ZERO, 1 ONES_IF_NONZERO, 2 REPLICATE, 3 TABLE. -/
def tileFillMode (o : Items) : Nat := item o 5
/-- Expansion table, 0..3. -/
def tileExpand (o : Items) : Fin 4 := Fin.ofNat 4 (item o 6)
/-- Invert. -/
def tileInvert (o : Items) : Bool := flagItem o 7

/-! ## HEAD_SETUP (Table 1.4) -/

/-- Enable. -/
def State.enabled (s : State) (h : Head) : Bool := flagItem s.tlm.setups[h] 0
/-- First track of the head's range. -/
def State.firstTrack (s : State) (h : Head) : Nat := item s.tlm.setups[h] 1
/-- Last track of the head's range. -/
def State.lastTrack (s : State) (h : Head) : Nat := item s.tlm.setups[h] 2
/-- Trip mode is PER_CELL; otherwise it is LATCHED. -/
def State.perCell (s : State) (h : Head) : Bool := flagItem s.tlm.setups[h] 3
/-- Track-done prescale. -/
def State.prescale (s : State) (h : Head) : Nat := item s.tlm.setups[h] 4

/-! ## HEAD_CAL (Table 2.3) -/

/-- Gradation table id, 0..7. -/
def calGradation (o : Items) : Fin 8 := Fin.ofNat 8 (item o 0)
/-- Cut tone. -/
def calCut (o : Items) : Nat := item o 1
/-- Floor depth. -/
def calFloor (o : Items) : Nat := item o 2
/-- Gain. -/
def calGain (o : Items) : Nat := item o 3
/-- Offset, a signed 16-bit value (R44, R186). -/
def calOffset (o : Items) : Int := (o.getD 4 0).toInt
/-- drive_min. -/
def calDriveMin (o : Items) : Nat := item o 5
/-- drive_max. -/
def calDriveMax (o : Items) : Nat := item o 6
/-- Rest code. -/
def calRest (o : Items) : Nat := item o 7
/-- Wear interval. -/
def calWearInterval (o : Items) : Nat := wideItem o 8
/-- Wear step. -/
def calWearStep (o : Items) : Nat := item o 10
/-- Wear cap. -/
def calWearCap (o : Items) : Nat := item o 11

/-! ## Codes -/

/-- Job state codes (R186). -/
def JobState.code : JobState → Nat
  | .idle => 0 | .ready => 1 | .running => 2 | .halting => 3 | .halted => 4 | .complete => 5 | .faulted => 6

/-- Spindle state codes (R186). -/
def SpindleState.code : SpindleState → Nat
  | .noSignal => 0 | .measuring => 1 | .locked => 2 | .offSpeed => 3

/-- Head state codes (R186). -/
def HeadState.code : HeadState → Nat
  | .idle => 0 | .ready => 1 | .waiting => 2 | .engraving => 3 | .stopping => 4 | .stopped => 5 | .stalled => 6
  | .tripped => 7 | .finished => 8

/-- Slot state codes (section 12.3). -/
def SlotState.code : SlotState → Nat
  | .empty => 0 | .filling => 1 | .resident => 2

/-- The number of a way (R47). -/
def Way.num : Way → Nat
  | .zero => 0 | .one => 1

/-- The other way of a set. -/
def Way.other : Way → Way
  | .zero => .one | .one => .zero

/-- Defect cause codes (R186). -/
def DefectCause.code : DefectCause → Nat
  | .shortRev => 1 | .aborted => 2 | .tripped => 3 | .cellsSuppressed => 4 | .jobFault => 5

/-- Arm reason codes (Table 1.5). -/
def ArmReason.code : ArmReason → Nat
  | .layoutRange => 1 | .rate => 2 | .laneTile => 3 | .laneGeometry => 4 | .laneExtent => 5
  | .laneOverlap => 6 | .window => 7 | .headRange => 8 | .headOverlap => 9 | .noHead => 10

/-- The validation outcome item and the object number item of STATUS (R186). -/
def Validation.items : Validation → Items
  | .empty => [0, 0]
  | .accepted => [255, 0]
  | .failed r n => [toItem r.code, toItem n]

/-- Event kind numbers (Table 11.1). -/
def EventKind.num : EventKind → Fin 23
  | .linkLoss => 0 | .linkUp => 1 | .crcError => 2 | .rxOverrun => 3 | .strayData => 4 | .fillOrder => 5
  | .fillTimeout => 6 | .cacheConflict => 7 | .spinLocked => 8 | .spinOffSpeed => 9 | .spinNoSignal => 10
  | .shortRev => 11 | .trackDone => 12 | .trackDefect => 13 | .idleRev => 14 | .headStalled => 15
  | .headTrip => 16 | .driveSaturated => 17 | .headParked => 18 | .jobState => 19 | .commitApplied => 20
  | .defectListFull => 21 | .cellSuppressed => 22

/-- The event kinds in number order (Table 11.1). -/
def eventKinds : List EventKind :=
  [.linkLoss, .linkUp, .crcError, .rxOverrun, .strayData, .fillOrder, .fillTimeout, .cacheConflict, .spinLocked,
   .spinOffSpeed, .spinNoSignal, .shortRev, .trackDone, .trackDefect, .idleRev, .headStalled, .headTrip,
   .driveSaturated, .headParked, .jobState, .commitApplied, .defectListFull, .cellSuppressed]

/-- Result codes (section 12.3). -/
def Result.code : Result → Nat
  | .accepted => 0 | .partialWrite => 1 | .clamped => 2 | .busy => 3 | .state => 4 | .invalid => 5 | .range => 6
  | .readOnly => 7 | .spindle => 8 | .conflict => 9 | .absent => 10 | .unknown => 11

/-- The heads in head order 0 to 7. -/
def headOrder : List Head := [0, 1, 2, 3, 4, 5, 6, 7]

/-- The mark of one head in a head mask (Table 11.2). -/
def headMark (h : Head) : BitVec 8 := 1#8 <<< h.val

/-- The head of a head number byte; `none` above 7 (R121, R138). -/
def headOfByte (b : Byte) : Option Head := if h : b.toNat < 8 then some ⟨b.toNat, h⟩ else none

/-! ## Upstream payloads (Table 12.5) -/

/-- One byte of a number. -/
def toByte (n : Nat) : Byte := BitVec.ofNat 8 n

/-- The 12 bytes of result data; bytes that a reply does not use are 0 (section 12.3, R185). -/
def ReplyData.bytes : ReplyData → List Byte
  | .none => List.replicate 12 0
  | .invalid r n => [toByte r.code, 0, toByte n, toByte (n / 256)] ++ List.replicate 8 0
  | .stored n => [toByte n, toByte (n / 256)] ++ List.replicate 10 0
  | .counts i k => [toByte i, toByte (i / 256), toByte k, toByte (k / 256)] ++ List.replicate 8 0
  | .slot r =>
    [toByte r.slot, toByte r.state.code,
     match r.key with | some (t, _) => toByte t | Option.none => 0xFF,
     if r.lock then 1 else 0] ++
    (match r.key with | some (_, c) => [toByte c, toByte (c / 256)] | Option.none => [0xFF, 0xFF]) ++
    [toByte r.pins, toByte r.lru.num, toByte r.fill, toByte (r.fill / 256), 0, 0]

/-- The payload bytes of an upstream frame (Table 12.5). -/
def UpFrame.payload : UpFrame → List Byte
  | .flow hold => [if hold then 1 else 2, 0]
  | .columnRequest r =>
    [r.id, 0, toByte r.tile, toByte (r.tile / 256), toByte r.column, toByte (r.column / 256), toByte r.length,
     toByte (r.length / 256)]
  | .commandReply r =>
    [r.kind, r.code, toByte r.result.code, if r.mark then 1 else 0] ++ r.data.bytes
  | .tableData d =>
    [toByte d.result.code, d.kind, d.copy, 0, d.start.setWidth 8, (d.start >>> 8).setWidth 8,
     toByte d.items.length, toByte (d.items.length / 256)] ++
      d.items.flatMap fun (w : Item) => [w.setWidth 8, (w >>> 8).setWidth 8]
  | .report r =>
    [toByte r.kind.num.val, toByte r.level, toByte r.count, r.mask, r.detail.setWidth 8, (r.detail >>> 8).setWidth 8,
     (r.detail >>> 16).setWidth 8, (r.detail >>> 24).setWidth 8]

/-- The kind code of an upstream frame (Table 12.2). -/
def UpFrame.kind : UpFrame → Byte
  | .columnRequest _ => 0x81
  | .commandReply _ => 0x82
  | .tableData _ => 0x83
  | .flow _ => 0x84
  | .report _ => 0x85

/-- The tag of an upstream frame: that of the frame answered, or 0 (R185). -/
def UpFrame.tag : UpFrame → Byte
  | .commandReply r => r.tag
  | .tableData d => d.tag
  | .columnRequest _ => 0
  | .flow _ => 0
  | .report _ => 0

end Sys2Proof.Machine
end

