-- ==== Sys2Proof/Machine/Layout.lean ====
section
/-! DEFINITION. Machine/Layout.lean: cylinder layout and cell addressing (01_cylinder_layout_and_cell_addressing.md): arm
validation, the track-side mapping and the cell-side mapping. -/

namespace Sys2Proof.Machine

/-! ## Lanes -/

/-- The lanes in increasing number. -/
def laneOrder : List (Fin 16) := List.finRange 16

/-- The lane is in use (R3). -/
def State.laneOn (s : State) (n : Fin 16) : Bool := laneValid s.tlm.lanes[n]

/-- The tile directory entry that a lane names. -/
def State.tileOfLane (s : State) (n : Fin 16) : Items := s.tlm.tiles[laneTile s.tlm.lanes[n]]

/-- The track after the last track of a lane's extent (R4). -/
def laneEnd (o : Items) : Nat := laneFirst o + laneAcross o * laneAcrossPitch o

/-- The extent of a lane contains the track (R4). -/
def laneContains (o : Items) (k : Nat) : Bool := decide (laneFirst o ≤ k ∧ k < laneEnd o)

/-- Two extents have a track in common (R16). -/
def extentsMeet (o p : Items) : Bool := decide (laneFirst o < laneEnd p ∧ laneFirst p < laneEnd o)

/-- The position u = (c − d) mod C of a cell in a lane (R5, R22). -/
def cellPosition (o : Items) (cells c : Nat) : Nat := (((c : Int) - (laneDrop o : Int)) % (cells : Int)).toNat

/-- The cell is an image cell of the lane (R17). -/
def imageCell (lane tile : Items) (cells c : Nat) : Bool :=
  let u := cellPosition lane cells c
  decide (u < laneAround lane * laneAroundPitch lane ∧
    u % laneAroundPitch lane < tileLength tile * laneAroundRep lane)

/-! ## Arm validation (R11 to R19) -/

/-- What a failed check reports. -/
abbrev ArmFailure := ArmReason × Nat

/-- The first object of an order that fails a check (R11). -/
def firstFailure {n : Nat} (order : List (Fin n)) (r : ArmReason) (fails : Fin n → Bool) : Option ArmFailure :=
  (order.find? fails).map fun i => (r, i.val)

/-- LAYOUT_RANGE (R12). -/
def State.layoutRangeCheck (s : State) : Option ArmFailure :=
  if 256 ≤ s.cells ∧ s.cells ≤ 32768 ∧ 1 ≤ s.trackCount ∧ s.trackCount ≤ 65535 ∧ 16 ≤ s.window ∧ s.window ≤ 4096 ∧
      5000000 ≤ s.nominal ∧ s.nominal ≤ 200000000 ∧ 1 ≤ s.tolerance ∧ s.tolerance ≤ 50 ∧ s.window < s.cells
  then none else some (.layoutRange, 0)

/-- RATE (R13). -/
def State.rateCheck (s : State) : Option ArmFailure :=
  if s.nominal / s.cells < Config.shortestInterval then some (.rate, 0) else none

/-- LANE_TILE (R14). -/
def State.laneTileFails (s : State) (n : Fin 16) : Bool := s.laneOn n && !tileValid (s.tileOfLane n)

/-- LANE_GEOMETRY (R14). -/
def State.laneGeometryFails (s : State) (n : Fin 16) : Bool :=
  let o := s.tlm.lanes[n]
  let t := s.tileOfLane n
  s.laneOn n && decide (laneAcrossPitch o < tileColumns t * laneAcrossRep o ∨
    laneAroundPitch o < tileLength t * laneAroundRep o ∨
    s.cells < laneAround o * laneAroundPitch o ∨ s.cells ≤ laneDrop o)

/-- LANE_EXTENT (R15). -/
def State.laneExtentFails (s : State) (n : Fin 16) : Bool :=
  s.laneOn n && decide (s.trackCount < laneEnd s.tlm.lanes[n])

/-- LANE_OVERLAP (R16). -/
def State.laneOverlapFails (s : State) (n : Fin 16) : Bool :=
  s.laneOn n && laneOrder.any fun m =>
    decide (m < n) && s.laneOn m && extentsMeet s.tlm.lanes[n] s.tlm.lanes[m]

/-- WINDOW (R17): an image cell among C−S..C−1. -/
def State.windowFails (s : State) (n : Fin 16) : Bool :=
  s.laneOn n && (List.range s.window).any fun i =>
    imageCell s.tlm.lanes[n] (s.tileOfLane n) s.cells (s.cells - s.window + i)

/-- HEAD_RANGE (R18). -/
def State.headRangeFails (s : State) (h : Head) : Bool :=
  s.enabled h && decide (s.lastTrack h < s.firstTrack h ∨ s.trackCount ≤ s.lastTrack h)

/-- HEAD_OVERLAP (R18). -/
def State.headOverlapFails (s : State) (h : Head) : Bool :=
  s.enabled h && headOrder.any fun g =>
    decide (g < h) && s.enabled g &&
      decide (s.firstTrack h ≤ s.lastTrack g ∧ s.firstTrack g ≤ s.lastTrack h)

/-- NO_HEAD (R19). -/
def State.noHeadCheck (s : State) : Option ArmFailure :=
  if headOrder.any s.enabled then none else some (.noHead, 0)

/-- The ten checks in the order of Table 1.5; the first that fails is the answer (R11). -/
def State.armFailure (s : State) : Option ArmFailure :=
  s.layoutRangeCheck <|> s.rateCheck <|>
  firstFailure laneOrder .laneTile s.laneTileFails <|>
  firstFailure laneOrder .laneGeometry s.laneGeometryFails <|>
  firstFailure laneOrder .laneExtent s.laneExtentFails <|>
  firstFailure laneOrder .laneOverlap s.laneOverlapFails <|>
  firstFailure laneOrder .window s.windowFails <|>
  firstFailure headOrder .headRange s.headRangeFails <|>
  firstFailure headOrder .headOverlap s.headOverlapFails <|>
  s.noHeadCheck

/-! ## Track-side mapping (R20, R21) -/

/-- The valid lane whose extent contains the track; after a successful arm there is at most one (R20). -/
def State.laneOfTrack (s : State) (k : Nat) : Option (Fin 16) :=
  laneOrder.find? fun n => s.laneOn n && laneContains s.tlm.lanes[n] k

/-- The across arithmetic of R21 for a track in the extent of a lane. -/
def acrossBody (lane tile : Items) (k : Nat) : TrackBody :=
  let wx := (k - laneFirst lane) % laneAcrossPitch lane
  if tileColumns tile * laneAcrossRep lane ≤ wx then .margin (laneTone lane)
  else .image ⟨laneTile lane, Fin.ofNat 4096 (wx / laneAcrossRep lane)⟩ none

/-- The kind of a new track record and its key or margin tone (R20, R21). -/
def State.trackBody (s : State) (k : Nat) : TrackBody :=
  match s.laneOfTrack k with
  | none => .margin s.defaultTone
  | some n => acrossBody s.tlm.lanes[n] (s.tileOfLane n) k

/-! ## Cell-side mapping (R22 to R24) -/

/-- What a cell outside the step window carries. -/
inductive CellContent where
  /-- A margin tone (R24). -/
  | tone (t : Nat)
  /-- Sample word `i` of the record's slot (R23). -/
  | sample (i : Nat)
  deriving DecidableEq, Repr

/-- The around arithmetic of R22 and R23 for a cell of an image track. -/
def aroundContent (lane tile : Items) (cells c : Nat) : CellContent :=
  let u := cellPosition lane cells c
  if laneAround lane * laneAroundPitch lane ≤ u then .tone (laneTone lane)
  else
    let wu := u % laneAroundPitch lane
    if tileLength tile * laneAroundRep lane ≤ wu then .tone (laneTone lane)
    else .sample (wu / laneAroundRep lane)

/-- The content of a cell of an ACTIVE record (R22 to R24).
An IMAGE record's track lies in a lane while the job is armed (R22); where a state has none, the default margin tone
stands (assumption 20). -/
def State.cellContent (s : State) (r : TrackRecord) (c : Nat) : CellContent :=
  match r.body with
  | .margin t => .tone t
  | .image _ _ =>
    match s.laneOfTrack r.track with
    | none => .tone s.defaultTone
    | some n => aroundContent s.tlm.lanes[n] (s.tileOfLane n) s.cells c

end Sys2Proof.Machine
end

