-- ==== Sys2Proof/Decode.lean ====
section
/-! DEFINITION. Decode.lean: the byte order, the CRC, the layout of downstream frames and their decoding at dispatch
(12_frame_and_record_formats.md), the frames that the commands stand for, and the host's decodeTableWord. -/

namespace Sys2Proof

/-! ## Byte order: low byte first (R182) -/

/-- The low byte of a 16-bit field. -/
def loByte (w : Item) : Byte := w.setWidth 8

/-- The high byte of a 16-bit field. -/
def hiByte (w : Item) : Byte := (w >>> 8).setWidth 8

/-- The two bytes of a 16-bit field, low byte first (R182). -/
def bytesOfItem (w : Item) : List Byte := [loByte w, hiByte w]

/-- The 16-bit field of two bytes, the low byte given first (R182). -/
def itemOfBytes (lo hi : Byte) : Item := hi ++ lo

/-- The bytes of a run of 16-bit fields (R182). -/
def bytesOfItems : Items → List Byte
  | [] => []
  | w :: ws => loByte w :: hiByte w :: bytesOfItems ws

/-- The 16-bit fields of a run of bytes; an odd last byte belongs to none (R182). -/
def itemsOfBytes : List Byte → Items
  | lo :: hi :: rest => itemOfBytes lo hi :: itemsOfBytes rest
  | _ => []

/-- The four bytes of a 32-bit field, low byte first (R182). -/
def bytesOfWord32 (w : Word32) : List Byte :=
  [w.setWidth 8, (w >>> 8).setWidth 8, (w >>> 16).setWidth 8, (w >>> 24).setWidth 8]

/-! ## The CRC of a frame (R183) -/

/-- One shift of the CRC register with the reflected polynomial 0xEDB88320. -/
def crcShift (c : Word32) : Word32 :=
  if c.getLsbD 0 then (c >>> 1) ^^^ 0xEDB88320#32 else c >>> 1

/-- The CRC register after one more byte, its least significant bit first. -/
def crcByte (c : Word32) (b : Byte) : Word32 :=
  crcShift (crcShift (crcShift (crcShift (crcShift (crcShift (crcShift (crcShift (c ^^^ b.setWidth 32))))))))

/-- The CRC-32 of a run of bytes: register started at 0xFFFFFFFF and inverted at the end (R183). -/
def crc32 (bytes : List Byte) : Word32 := ~~~ (bytes.foldl crcByte 0xFFFFFFFF#32)

/-! ## Frames -/

/-- The size of a frame: its header, its payload and its CRC (R164). -/
def Frame.size (f : Frame) : Nat := 10 + f.payload.length

/-- The header and payload bytes of a frame, over which its CRC is taken (Table 12.1). -/
def Frame.covered (f : Frame) : List Byte :=
  [f.kind, f.flags, f.tag] ++ bytesOfItem (BitVec.ofNat 16 f.payload.length) ++ [f.zero] ++ f.payload

/-- The bytes of a frame as they cross the downstream lane after the start symbol (Table 12.1). -/
def Frame.bytes (f : Frame) : List Byte := f.covered ++ bytesOfWord32 (crc32 f.covered)

/-- What the receiver makes of the bytes that have followed a start symbol (R167). -/
inductive Reception where
  /-- The last CRC byte has not been taken yet. -/
  | incomplete
  /-- The length field is greater than 1,062. -/
  | oversize
  /-- The CRC computed differs from the CRC received; the number is the size of the frame. -/
  | badCrc (size : Nat)
  /-- The CRC agrees but the length is greater than 1,056. -/
  | badLength (size : Nat)
  /-- A valid frame. -/
  | valid (f : Frame)
  deriving DecidableEq, Repr

/-- The receiver's tests on the bytes after a start symbol, in the order of R167.
Bytes past the frame's last CRC byte belong to no frame and are ignored. -/
def receive : List Byte → Reception
  | kind :: flags :: tag :: l0 :: l1 :: zero :: rest =>
    let n := (itemOfBytes l0 l1).toNat
    let f : Frame := { kind, flags, tag, zero, payload := rest.take n }
    if n > Config.oversizeLength then .oversize
    else if rest.length < n + 4 then .incomplete
    else if (rest.drop n).take 4 ≠ bytesOfWord32 (crc32 f.covered) then .badCrc (10 + n)
    else if n > Config.largestPayload then .badLength (10 + n)
    else .valid f
  | _ => .incomplete

/-- Byte `i` of a payload, where it has that byte. -/
def Frame.byte (f : Frame) (i : Nat) : Byte := f.payload.getD i 0

/-- The 16-bit field at bytes `i`, `i + 1` of a payload. -/
def Frame.field (f : Frame) (i : Nat) : Item := itemOfBytes (f.byte i) (f.byte (i + 1))

/-- The payload length that Table 12.2 gives for a frame's kind, with the count taken from the payload;
`none` for a kind that is no downstream kind. -/
def Frame.expectedLength (f : Frame) : Option Nat :=
  if f.kind = 0x01 then some (32 + 2 * (f.field 8).toNat)
  else if f.kind = 0x02 then some (8 + 2 * (f.field 4).toNat)
  else if f.kind = 0x03 then some 6
  else if f.kind = 0x04 then some 6
  else none

/-- The layout tests of R184 for a frame of a downstream kind.
A payload too short to hold its count field is malformed by the length test: its missing bytes read as 0 here, and
32 or 8 bytes are then expected of fewer. -/
def Frame.malformed (f : Frame) : Bool :=
  match f.expectedLength with
  | none => false
  | some n =>
    f.zero != 0 || f.flags != 0 || f.payload.length != n ||
      (f.kind == 0x01 && (((f.payload.drop 10).take 22).any (· != 0) || (f.byte 1) &&& 0xFE != 0)) ||
      (f.kind == 0x02 && ((f.payload.drop 6).take 2).any (· != 0))

/-- The command codes of Table 12.4. -/
def knownCode (code : Byte) : Bool :=
  [0x01, 0x02, 0x03, 0x04, 0x05, 0x06, 0x10, 0x11, 0x12, 0x13, 0x20, 0x30, 0x31, 0x32, 0x33].contains code

/-- Argument A where Table 12.4 has the command read it, and 0 where it does not. -/
def argA (code a : Byte) : Byte :=
  if [0x10, 0x11, 0x12, 0x13, 0x20, 0x32, 0x33].contains code then a else 0

/-- Argument B where it is read; of COMMIT its low byte alone is read (Table 12.4). -/
def argB (code a : Byte) (b : Item) : Item :=
  if code = 0x20 then b &&& 0x00FF
  else if code = 0x30 ∨ code = 0x31 ∨ (code = 0x32 ∧ a ≠ 1) then b else 0

/-- Argument C where it is read (Table 12.4). -/
def argC (code a : Byte) (c : Item) : Item :=
  if code = 0x30 ∨ code = 0x31 ∨ (code = 0x32 ∧ a ≠ 1) then c else 0

/-- A frame whose kind names no downstream kind, or a COMMAND of good layout whose code names no command (R169). -/
def Frame.unknown (f : Frame) : Bool :=
  f.expectedLength.isNone || (f.kind == 0x04 && !f.malformed && !knownCode (f.byte 0))

/-- The command code that LNK's own answer echoes: that of a COMMAND frame as received, `none` where the frame has no
payload, and 0 for any other kind (Table 12.5). -/
def Frame.answeredCode (f : Frame) : Option Byte :=
  if f.kind = 0x04 then f.payload.head? else some 0

/-- The decoding of a frame at the head of the inbound buffer (R169, R184). -/
def decodeFrame (f : Frame) : Inbound :=
  if f.unknown then .unknown f.kind f.tag f.answeredCode
  else if f.malformed then
    if f.kind = 0x01 then .badSegment f.size else .unknown f.kind f.tag f.answeredCode
  else if f.kind = 0x01 then
    .segment { id := f.byte 0, lock := (f.byte 1).getLsbD 0, tile := f.field 2, column := f.field 4,
               offset := f.field 6, words := itemsOfBytes (f.payload.drop 32) }
  else if f.kind = 0x02 then
    .tableWrite f.tag (f.byte 0) (f.byte 1) (f.field 2) (itemsOfBytes (f.payload.drop 8))
  else if f.kind = 0x03 then
    .tableRead f.tag (f.byte 0) (f.byte 1) (f.field 2) (f.field 4)
  else
    .command f.tag (f.byte 0) (argA (f.byte 0) (f.byte 1)) (argB (f.byte 0) (f.byte 1) (f.field 2))
      (argC (f.byte 0) (f.byte 1) (f.field 4))

/-! ## The frames of the commands (Tables 12.2 to 12.4) -/

/-- The COMMAND frame of a code and its three arguments (Table 12.3). -/
def commandFrame (tag code a : Byte) (b c : Item) : Frame :=
  { kind := 0x04, flags := 0, tag, zero := 0, payload := [code, a] ++ bytesOfItem b ++ bytesOfItem c }

/-- The TABLE_WRITE frame of an object, a start index and its items (Table 12.3). -/
def tableWriteFrame (tag kind copy : Byte) (start : Item) (items : Items) : Frame :=
  { kind := 0x02, flags := 0, tag, zero := 0,
    payload := [kind, copy] ++ bytesOfItem start ++ bytesOfItem (BitVec.ofNat 16 items.length) ++ [0, 0] ++
      bytesOfItems items }

/-- The TABLE_READ frame of an object, a start index and a count (Table 12.3). -/
def tableReadFrame (tag kind copy : Byte) (start count : Item) : Frame :=
  { kind := 0x03, flags := 0, tag, zero := 0, payload := [kind, copy] ++ bytesOfItem start ++ bytesOfItem count }

/-- The COLUMN_DATA frame of a segment; its tag is not read (Table 12.3, R184). -/
def columnDataFrame (sg : Segment) : Frame :=
  { kind := 0x01, flags := 0, tag := 0, zero := 0,
    payload := [sg.id, if sg.lock then 1 else 0] ++ bytesOfItem sg.tile ++ bytesOfItem sg.column ++
      bytesOfItem sg.offset ++ bytesOfItem (BitVec.ofNat 16 sg.words.length) ++ List.replicate 22 0 ++
      bytesOfItems sg.words }

/-! ## The host's reading of opcode-table words -/

/-- The command that a word of spec/opcode_table.json's bits spells.
No row of the table gives bits (each row's "fields" is empty and none has "fixed"), so no word spells a command. -/
def decodeTableWord (nbits w : Nat) : Option Instr :=
  match nbits, w with
  | _, _ => none

end Sys2Proof
end

