-- ==== Sys2Proof/Machine/Ops.lean ====
section
/-! DEFINITION. Machine/Ops.lean: the named operations that the blocks share: time, the parts of State, the sample
memory, the upstream queues and the return-lane arbiter, the watermark check. -/

namespace Sys2Proof.Machine

/-! ## Time and the parts of State -/

/-- The command in hand is taken at `tick`; the reference never runs backward (assumption 3). -/
def State.at (s : State) (tick : Nat) : State := { s with now := max s.now tick }

/-- Change one head channel. -/
def State.modHead (s : State) (h : Head) (f : Channel → Channel) : State :=
  { s with heads := s.heads.set h (f s.heads[h]) }

/-- Change one depth pipeline. -/
def State.modPipe (s : State) (h : Head) (f : Pipe → Pipe) : State :=
  { s with pipes := s.pipes.set h (f s.pipes[h]) }

/-- Change one head port. -/
def State.modPort (s : State) (h : Head) (f : Port → Port) : State :=
  { s with ports := s.ports.set h (f s.ports[h]) }

/-- Change one slot record. -/
def State.modSlot (s : State) (n : Fin 64) (f : Slot → Slot) : State :=
  { s with cca := { s.cca with slots := s.cca.slots.set n (f s.cca.slots[n]) } }

/-- Change one LRU mark. -/
def State.setLru (s : State) (set : Fin 32) (w : Way) : State :=
  { s with cca := { s.cca with lru := s.cca.lru.set set w } }

/-- Take each head in head order 0 to 7 (R107, R118, R142). -/
def State.eachHead (s : State) (f : Head → State → State) : State :=
  headOrder.foldl (fun t h => f h t) s

/-! ## Sample memory (R47, R57) -/

/-- The address of sample word `i` of slot `n`. -/
def sampleAddress (n : Fin 64) (i : Nat) : Nat := Config.slotWords * n.val + i

/-- The word at an address; an unlisted address reads as `Config.unwrittenSample`. -/
def sampleRead : List (Nat × Item) → Nat → Item
  | [], _ => Config.unwrittenSample
  | (b, w) :: m, a => if a = b then w else sampleRead m a

/-- Write one word, keeping the canonical form: writing what an unlisted address reads as removes the entry. -/
def sampleWrite : List (Nat × Item) → Nat → Item → List (Nat × Item)
  | [], a, v => if v = Config.unwrittenSample then [] else [(a, v)]
  | (b, w) :: m, a, v =>
    if a < b then if v = Config.unwrittenSample then (b, w) :: m else (a, v) :: (b, w) :: m
    else if a = b then if v = Config.unwrittenSample then m else (a, v) :: m
    else (b, w) :: sampleWrite m a v

/-- Write a run of words at rising addresses (R57). -/
def sampleWriteAll (m : List (Nat × Item)) (a : Nat) : List Item → List (Nat × Item)
  | [] => m
  | v :: vs => sampleWriteAll (sampleWrite m a v) (a + 1) vs

/-- The canonical form: addresses strictly rising, and no entry equal to what an unlisted address reads as. -/
def samplesWf (m : List (Nat × Item)) : Bool :=
  decide (m.Pairwise fun p q => p.1 < q.1) && m.all fun p => p.2 != Config.unwrittenSample

/-! ## Routing entries and pending records (R176, R177) -/

/-- The level of a kind's routing entry: the low byte of its item. -/
def State.level (s : State) (k : EventKind) : Nat := item s.tlm.route k.num.val % 256

/-- The action of a kind's routing entry: the high byte of its item (R186). -/
def State.routeAction (s : State) (k : EventKind) : RouteAction :=
  match item s.tlm.route k.num.val / 256 with
  | 1 => .haltJob
  | 2 => .abortJob
  | _ => .none

/-- The better of two kinds for the next report: the one of higher level, the first on a tie (R179). -/
def State.better (s : State) (best : Option EventKind) (k : EventKind) : Option EventKind :=
  if s.evr.records[k.num] = none ∨ s.level k = 0 then best
  else match best with
    | none => some k
    | some b => if s.level b < s.level k then some k else some b

/-- The record EVR chooses: of the highest level, and of the lowest number among those (R179). -/
def State.chooseReport (s : State) : Option EventKind := eventKinds.foldl s.better none

/-! ## Upstream queues and the return-lane arbiter (R173, R174) -/

/-- The upstream lane is free: the link is UP and no frame is in transmission (R174). -/
def State.laneFree (s : State) : Bool := s.lnk.state == .up && s.lnk.sending.isNone

/-- A frame begins transmission, with the HOLD state of that moment in its header (R185). -/
def State.beginFrame (s : State) (f : UpFrame) : State :=
  { s with lnk := { s.lnk with sending := some ⟨f, s.lnk.hold⟩ } }

/-- EVR forms a REPORT from the record of a kind and clears the record (R179). -/
def State.beginReport (s : State) (k : EventKind) : State :=
  match s.evr.records[k.num] with
  | none => s
  | some p =>
    { s with evr := { s.evr with records := s.evr.records.set k.num none } }.beginFrame
      (.report { kind := k, level := s.level k, count := p.count, mask := p.mask, detail := p.detail })

/-- The arbiter's choice when the lane is free: the oldest frame of the first class that holds one (R174). -/
def State.arbitrate (s : State) : State :=
  if s.laneFree then
    match s.lnk.flowQueue, s.lnk.requestQueue, s.lnk.replyQueue, s.lnk.dataQueue with
    | some f, _, _, _ => { s with lnk := { s.lnk with flowQueue := none } }.beginFrame (.flow f)
    | none, r :: rs, _, _ => { s with lnk := { s.lnk with requestQueue := rs } }.beginFrame (.columnRequest r)
    | none, [], r :: rs, _ =>
      { s with lnk := { s.lnk with
          replyQueue := rs,
          resetReply := if s.lnk.resetReply = ResetReply.waiting then ResetReply.sending else s.lnk.resetReply } }.beginFrame
        (.commandReply r)
    | none, [], [], d :: ds => { s with lnk := { s.lnk with dataQueue := ds } }.beginFrame (.tableData d)
    | none, [], [], [] =>
      match s.chooseReport with
      | some k => s.beginReport k
      | none => s
  else s

/-- Queue a COLUMN_REQUEST (R72). -/
def State.queueRequest (s : State) (r : ColumnRequest) : State :=
  { s with lnk := { s.lnk with requestQueue := s.lnk.requestQueue ++ [r] } }.arbitrate

/-- Queue a COMMAND_REPLY (R142). -/
def State.queueReply (s : State) (r : CommandReply) : State :=
  { s with lnk := { s.lnk with replyQueue := s.lnk.replyQueue ++ [r] } }.arbitrate

/-- Queue a TABLE_DATA (R158). -/
def State.queueData (s : State) (d : TableData) : State :=
  { s with lnk := { s.lnk with dataQueue := s.lnk.dataQueue ++ [d] } }.arbitrate

/-- Queue a FLOW frame, or withdraw the opposite one that still waits, with the HOLD state back at the value before that
one was queued (R172). -/
def State.queueFlow (s : State) (hold : Bool) : State :=
  match s.lnk.flowQueue with
  | none => { s with lnk := { s.lnk with hold := hold, flowQueue := some hold } }.arbitrate
  | some waiting => { s with lnk := { s.lnk with hold := !waiting, flowQueue := none } }

/-- The COMMAND_REPLY to a COMMAND frame with no result data. -/
def commandReply (tag code : Byte) (r : Result) : CommandReply :=
  { tag, kind := 0x04, code, result := r, mark := false, data := .none }

/-- Answer a COMMAND with a bare result code. -/
def State.answer (s : State) (tag code : Byte) (r : Result) : State := s.queueReply (commandReply tag code r)

/-! ## The inbound buffer (R164, R168 to R171) -/

/-- The occupancy: the sum of the sizes of the stored frames (R164). -/
def State.occupancy (s : State) : Nat := (s.lnk.inbound.map Frame.size).sum

/-- The watermark check; none is made until the reply to a SOFT_RESET has been sent (R171, R172). -/
def State.watermarkCheck (s : State) : State :=
  if s.lnk.resetReply ≠ .none ∨ s.lnk.state ≠ .up then s
  else if s.lnk.hold = false ∧ s.highMark ≤ s.occupancy then s.queueFlow true
  else if s.lnk.hold = true ∧ s.occupancy ≤ s.lowMark then s.queueFlow false
  else s

/-- The bytes of a frame in transmission (Table 12.1, R183, R185). -/
def Sending.bytes (t : Sending) : List Byte :=
  let f : Frame := { kind := t.frame.kind, flags := if t.hold then 1 else 0, tag := t.frame.tag, zero := 0,
                     payload := t.frame.payload }
  f.bytes

end Sys2Proof.Machine
end

