-- ==== Sys2Proof/Machine/Depth.lean ====
section
/-! DEFINITION. Machine/Depth.lean: the tone-to-depth computation of one cell (02_tone_to_depth_computation.md), stage by
stage as Table 2.1 lists them. -/

namespace Sys2Proof.Machine

/-- Extract: the stored value t of a sample word of width w (R28). -/
def extract (w : Nat) (left : Bool) (word : Item) : Nat :=
  if left then word.toNat / 2 ^ (16 - w) else word.toNat % 2 ^ w

/-- Expand: the tone of a stored value, by fill mode code, with the tile's expansion table (R29 to R31). -/
def expand (w mode : Nat) (table : Items) (t : Nat) : Nat :=
  if w = 10 then t
  else match mode with
    | 0 => t * 2 ^ (10 - w)
    | 1 => if t = 0 then 0 else t * 2 ^ (10 - w) + (2 ^ (10 - w) - 1)
    | 2 => (t * 1023 + (2 ^ w - 1) / 2) / (2 ^ w - 1)
    | _ => item table t

/-- Invert (R32). -/
def invertTone (on : Bool) (t : Nat) : Nat := if on then 1023 - t else t

/-- The tone of a sample word under a tile directory entry (R28 to R32). -/
def sampleTone (tile table : Items) (word : Item) : Nat :=
  invertTone (tileInvert tile)
    (expand (tileSampleWidth tile) (tileFillMode tile) table
      (extract (tileSampleWidth tile) (tileJustifyLeft tile) word))

/-- Interpolate between the knots of a gradation table (R34). -/
def interpolate (g : Items) (t : Nat) : Nat :=
  (item g (t / 4) * (4 - t % 4) + item g (t / 4 + 1) * (t % 4) + 2) / 4

/-- Floor (R36). -/
def floorDepth (floor d : Nat) : Nat := if 0 < d ∧ d < floor then floor else d

/-- The depth of a tone after cut, interpolation and floor (R33 to R36). A tone equal to the cut is not cut, a margin tone
among them: DEDUCED from Table 2.4, which has a margin tone 0 with cut tone 0 engraved, and R33, against the last sentence of
R24 (assumption 26). -/
def depthOfTone (cal g : Items) (t : Nat) : Nat :=
  if t < calCut cal then 0 else floorDepth (calFloor cal) (interpolate g t)

/-- The drive code of a depth before clamping (R38). -/
def driveOf (cal : Items) (wearTerm d : Nat) : Int :=
  calOffset cal + (((d * calGain cal + 2048) / 4096 : Nat) : Int) + (wearTerm : Int)

/-- The wear term latched at a track start (R39). -/
def wearTermOf (cal : Items) (count : Word32) : Nat :=
  min (count.toNat / calWearInterval cal * calWearStep cal) (calWearCap cal)

/-- What the pipeline makes of a computed cell. -/
inductive CellResult where
  /-- Depth 0 (R37). -/
  | noCell
  /-- A cell with depth under FAULT in PER_CELL mode (R43). -/
  | suppressed
  /-- An engraved cell with its clamped drive code, and the limit that clamped it: `some true` for drive_max (R40). -/
  | engraved (code : Nat) (limit : Option Bool)
  deriving DecidableEq, Repr

/-- Clamp a drive code (R40). -/
def clampDrive (cal : Items) (v : Int) : CellResult :=
  if v < (calDriveMin cal : Int) then .engraved (calDriveMin cal) (some false)
  else if (calDriveMax cal : Int) < v then .engraved (calDriveMax cal) (some true)
  else .engraved v.toNat none

/-- The stages from depth on: no cell, per-cell suppression, drive and clamp (R37 to R40, R43). -/
def cellOfDepth (cal : Items) (wearTerm d : Nat) (suppress : Bool) : CellResult :=
  if d = 0 then .noCell
  else if suppress then .suppressed
  else clampDrive cal (driveOf cal wearTerm d)

/-- The tone with which a cell of an ACTIVE record enters the cut stage (R22 to R32). -/
def State.toneOfCell (s : State) (r : TrackRecord) (c : Nat) : Nat :=
  match s.cellContent r c, r.body with
  | .tone t, _ => t
  | .sample i, .image key (some n) =>
    let tile := s.tlm.tiles[key.tile]
    sampleTone tile s.tlm.expands[tileExpand tile] (sampleRead s.cca.samples (sampleAddress n i))
  | .sample _, _ => s.defaultTone

/-- The computation of one cell of a head's ACTIVE record (R26, R27). -/
def State.computeCell (s : State) (h : Head) (r : TrackRecord) (c : Nat) : CellResult :=
  let cal := s.tlm.calsActive[h]
  let d := depthOfTone cal s.tlm.gradsActive[calGradation cal] (s.toneOfCell r c)
  cellOfDepth cal ((s.pipes[h].wearTerm).getD 0) d (s.perCell h && s.ports[h].fault)

end Sys2Proof.Machine
end

