-- ==== Sys2Proof/Machine/Cache.lean ====
section
/-! DEFINITION. Machine/Cache.lean: the column cache (03_column_cache.md): sets, lookup, pins, LRU, victim choice. -/

namespace Sys2Proof.Machine

/-- The set of a key: (c + 7 × t) mod 32 (R48). -/
def keySet (k : Key) : Fin 32 := Fin.ofNat 32 (k.column.val + 7 * k.tile.val)

/-- The slot of a way of a set: 2 × set + way (R47). -/
def slotOf (set : Fin 32) (w : Way) : Fin 64 := ⟨2 * set.val + w.num, by cases w <;> simp [Way.num] <;> omega⟩

/-- The set of a slot (R47). -/
def setOfSlot (n : Fin 64) : Fin 32 := ⟨n.val / 2, by omega⟩

/-- The way of a slot within its set (R47). -/
def wayOfSlot (n : Fin 64) : Way := if n.val % 2 = 0 then .zero else .one

/-- The other slot of a slot's set. -/
def otherSlot (n : Fin 64) : Fin 64 := slotOf (setOfSlot n) (wayOfSlot n).other

/-- The slots in increasing number. -/
def slotOrder : List (Fin 64) := List.finRange 64

/-- The slot holds the key, FILLING or RESIDENT (R50). -/
def slotHolds (sl : Slot) (k : Key) : Bool := sl.state != .empty && sl.key == some k

/-- The lookup of a key in the two ways of its set (R50). -/
def State.lookup (s : State) (k : Key) : Option (Fin 64) :=
  if slotHolds s.cca.slots[slotOf (keySet k) .zero] k then some (slotOf (keySet k) .zero)
  else if slotHolds s.cca.slots[slotOf (keySet k) .one] k then some (slotOf (keySet k) .one)
  else none

/-- The way of a slot has been used: its set's LRU mark names the other way (R53). -/
def State.touch (s : State) (n : Fin 64) : State := s.setLru (setOfSlot n) (wayOfSlot n).other

/-- Pin a slot for one track record (R51, R53). -/
def State.pin (s : State) (n : Fin 64) : State :=
  (s.modSlot n fun sl => { sl with pins := sl.pins + 1 }).touch n

/-- Unpin a slot once (R52). -/
def State.unpin (s : State) (n : Fin 64) : State := s.modSlot n fun sl => { sl with pins := sl.pins - 1 }

/-- Unpin the slot that a track record names, if it names one (R52). -/
def State.unpinRecord (s : State) (r : TrackRecord) : State :=
  match r.body with
  | .image _ (some n) => s.unpin n
  | .image _ none => s
  | .margin _ => s

/-- The way is excluded from victim choice (R54). -/
def slotExcluded (sl : Slot) : Bool := decide (0 < sl.pins) || sl.lock || sl.state == .filling

/-- Victim choice in a set (R54, Table 3.3). -/
def State.victim (s : State) (set : Fin 32) : Option (Fin 64) :=
  let zero := s.cca.slots[slotOf set .zero]
  let one := s.cca.slots[slotOf set .one]
  match slotExcluded zero, slotExcluded one with
  | true, true => none
  | true, false => some (slotOf set .one)
  | false, true => some (slotOf set .zero)
  | false, false =>
    if zero.state = .empty then some (slotOf set .zero)
    else if one.state = .empty then some (slotOf set .one)
    else some (slotOf set s.cca.lru[set])

/-- Allocate a victim to a key, with the pins of its caller: 1 for a planned track, 0 for a preload (R55, R56). -/
def State.allocate (s : State) (n : Fin 64) (k : Key) (pins : Nat) : State :=
  (s.modSlot n fun _ => { state := .filling, key := some k, lock := false, pins, fill := 0 }).touch n

/-- Empty a slot: key absent, lock off, pin count 0, fill count 0 (R49). -/
def State.emptySlot (s : State) (n : Fin 64) : State := s.modSlot n fun _ => Slot.empty

/-- A RESIDENT slot with no pin, which an invalidation empties (R64). -/
def slotInvalid (sl : Slot) : Bool := sl.state == .resident && sl.pins == 0

/-- The number of slots in a state (R66). -/
def State.slotCount (s : State) (x : SlotState) : Nat := s.cca.slots.toList.countP fun sl => sl.state == x

/-- The record of a slot, as CACHE_QUERY returns it (R66). -/
def State.slotReport (s : State) (n : Fin 64) : SlotReport :=
  let sl := s.cca.slots[n]
  { slot := n.val
    state := sl.state
    key := if sl.state = .empty then none else sl.key.map fun k => (k.tile.val, k.column.val)
    lock := sl.lock
    pins := sl.pins
    lru := s.cca.lru[setOfSlot n]
    fill := sl.fill }

/-- A slot of tile `t` is FILLING or pinned (R67). -/
def State.tileBusy (s : State) (t : Fin 32) : Bool :=
  slotOrder.any fun n =>
    let sl := s.cca.slots[n]
    sl.key.any (·.tile == t) && (sl.state == .filling || decide (0 < sl.pins))

/-- A taken TILE write empties a RESIDENT slot of the tile (R67). -/
def State.emptyTileSlot (t : Fin 32) (s : State) (n : Fin 64) : State :=
  if s.cca.slots[n].state = .resident ∧ s.cca.slots[n].key.any (·.tile == t) then s.emptySlot n else s

/-- A taken TILE write empties every RESIDENT slot of the tile (R67). -/
def State.emptyTile (s : State) (t : Fin 32) : State := slotOrder.foldl (State.emptyTileSlot t) s

end Sys2Proof.Machine
end

