-- ==== Sys2Proof/Machine/Flags.lean ====
section
/-! DEFINITION. Machine/Flags.lean: the status records of the GC8: event details (Table 12.7) and what EVR does with an
occurrence (R177). -/

namespace Sys2Proof.Machine

/-! ## Event details (section 12.5) -/

/-- A field of `width` bits at bit `pos` of a detail. -/
def bitField (v pos width : Nat) : Nat := v % 2 ^ width * 2 ^ pos

/-- The causes of CRC_ERROR, codes 0..3 (section 12.5). -/
inductive CrcCause where
  | oversize | cut | crc | length
  deriving DecidableEq, Repr

/-- CRC_ERROR cause codes. -/
def CrcCause.code : CrcCause → Nat
  | .oversize => 0 | .cut => 1 | .crc => 2 | .length => 3

/-- The causes of JOB_STATE (R141); ROUTE carries the kind whose action caused the change. -/
inductive JobCause where
  | arm | start | halt | abort | clear
  | route (k : EventKind)
  | spindle | heads | reset
  deriving DecidableEq, Repr

/-- JOB_STATE cause codes (section 12.5). -/
def JobCause.code : JobCause → Nat
  | .arm => 1 | .start => 2 | .halt => 3 | .abort => 4 | .clear => 5 | .route _ => 6 | .spindle => 7 | .heads => 8
  | .reset => 9

/-- The kind number field of JOB_STATE: that of ROUTE, 0 otherwise (Table 12.7). -/
def JobCause.kindNumber : JobCause → Nat
  | .route k => k.num.val
  | .arm => 0 | .start => 0 | .halt => 0 | .abort => 0 | .clear => 0 | .spindle => 0 | .heads => 0 | .reset => 0

/-- The occasions of COMMIT_APPLIED (R160 to R162). -/
inductive Occasion where
  | command | index | jobChange
  deriving DecidableEq, Repr

/-- Commit occasion codes (section 12.5). -/
def Occasion.code : Occasion → Nat
  | .command => 1 | .index => 2 | .jobChange => 3

/-- The reasons of IDLE_REV and HEAD_STALLED (R114). -/
inductive IdleReason where
  | unresolved | notPositioned
  deriving DecidableEq, Repr

/-- Idle reason codes (section 12.5). -/
def IdleReason.code : IdleReason → Nat
  | .unresolved => 1 | .notPositioned => 2

/-- The causes of HEAD_TRIP (R135, R136). -/
inductive TripCause where
  | edge | level
  deriving DecidableEq, Repr

/-- Trip cause codes (section 12.5). -/
def TripCause.code : TripCause → Nat
  | .edge => 0 | .level => 1

/-- The causes of FILL_ORDER (R76). -/
inductive OrderCause where
  | offset | length
  deriving DecidableEq, Repr

/-- FILL_ORDER cause codes (section 12.5). -/
def OrderCause.code : OrderCause → Nat
  | .offset => 0 | .length => 1

/-- LINK_LOSS and LINK_UP, SPIN and SHORT_REV details: one number. -/
def plainDetail (n : Nat) : Word32 := BitVec.ofNat 32 n

/-- LINK_LOSS detail: frames discarded. -/
def linkLossDetail (discarded : Nat) : Word32 := plainDetail (bitField discarded 0 8)

/-- LINK_UP detail: occupancy. -/
def linkUpDetail (occupancy : Nat) : Word32 := plainDetail (bitField occupancy 0 16)

/-- CRC_ERROR detail: bytes received and cause. -/
def crcErrorDetail (received : Nat) (c : CrcCause) : Word32 :=
  plainDetail (bitField received 0 16 + bitField c.code 16 2)

/-- RX_OVERRUN detail: occupancy, frame size, frame kind modulo 32. -/
def rxOverrunDetail (occupancy size kind : Nat) : Word32 :=
  plainDetail (bitField occupancy 0 16 + bitField size 16 11 + bitField kind 27 5)

/-- STRAY_DATA detail: request id, tile id modulo 32, column modulo 4,096 (R75). -/
def strayDetail (id tile column : Nat) : Word32 :=
  plainDetail (bitField id 0 8 + bitField tile 8 5 + bitField column 13 12)

/-- FILL_ORDER detail: request id, tile id, column, cause. -/
def fillOrderDetail (id tile column : Nat) (c : OrderCause) : Word32 :=
  plainDetail (bitField id 0 8 + bitField tile 8 5 + bitField column 13 12 + bitField c.code 25 1)

/-- FILL_TIMEOUT detail: tile id, column, received count. -/
def fillTimeoutDetail (tile column received : Nat) : Word32 :=
  plainDetail (bitField tile 0 5 + bitField column 5 12 + bitField received 17 13)

/-- CACHE_CONFLICT detail: set number, tile id, column. -/
def conflictDetail (set tile column : Nat) : Word32 :=
  plainDetail (bitField set 0 5 + bitField tile 5 5 + bitField column 10 12)

/-- TRACK_DONE and HEAD_PARKED detail: track number. -/
def trackDetail (track : Nat) : Word32 := plainDetail (bitField track 0 16)

/-- TRACK_DEFECT and DEFECT_LIST_FULL detail: track number and cause. -/
def defectDetail (track : Nat) (c : DefectCause) : Word32 :=
  plainDetail (bitField track 0 16 + bitField c.code 16 3)

/-- IDLE_REV and HEAD_STALLED detail: next track and reason. -/
def idleDetail (track : Nat) (r : IdleReason) : Word32 :=
  plainDetail (bitField track 0 16 + bitField r.code 16 2)

/-- HEAD_TRIP detail: track number, cause, head state before the trip. -/
def tripDetail (track : Nat) (c : TripCause) (before : HeadState) : Word32 :=
  plainDetail (bitField track 0 16 + bitField c.code 16 1 + bitField before.code 17 4)

/-- DRIVE_SATURATED detail: track number, cell number, limit HIGH (R46). -/
def saturatedDetail (track cell : Nat) (high : Bool) : Word32 :=
  plainDetail (bitField track 0 16 + bitField cell 16 15 + bitField (if high then 1 else 0) 31 1)

/-- CELL_SUPPRESSED detail: track number and cell number (R46). -/
def suppressedDetail (track cell : Nat) : Word32 := plainDetail (bitField track 0 16 + bitField cell 16 15)

/-- JOB_STATE detail: previous state, new state, cause, kind number for ROUTE (R141). -/
def jobStateDetail (old new : JobState) (c : JobCause) : Word32 :=
  plainDetail (bitField old.code 0 3 + bitField new.code 3 3 + bitField c.code 6 4 + bitField c.kindNumber 10 5)

/-- COMMIT_APPLIED detail: GRAD mask, HEAD_CAL mask, occasion. -/
def commitDetail (grad cal : BitVec 8) (o : Occasion) : Word32 :=
  plainDetail (bitField grad.toNat 0 8 + bitField cal.toNat 8 8 + bitField o.code 16 2)

/-! ## What EVR does with an occurrence (R177) -/

/-- The record of a kind after one more occurrence (R177, Table 11.2). -/
def gather (r : Option Pending) (detail : Word32) (mask : BitVec 8) : Pending :=
  match r with
  | none => { count := 1, mask, detail }
  | some p => { p with count := min (p.count + 1) 255, mask := p.mask ||| mask }

/-- EVR records an occurrence whose kind has a level; a record that becomes pending makes the arbiter choose (R174, R177). -/
def State.recordEvent (s : State) (k : EventKind) (detail : Word32) (mask : BitVec 8) : State :=
  if s.level k = 0 then s
  else
    let before := s.evr.records[k.num]
    let t := { s with evr := { s.evr with records := s.evr.records.set k.num (some (gather before detail mask)) } }
    if before = none then t.arbitrate else t

/-- A block raises one occurrence: EVR records it, and its action, when it has one, is due (R150, R177). -/
def State.raise (s : State) (k : EventKind) (detail : Word32) (mask : BitVec 8) : State :=
  let t := s.recordEvent k detail mask
  if s.routeAction k = .none then t
  else { t with evr := { t.evr with due := t.evr.due ++ [⟨s.routeAction k, k⟩] } }

/-- An occurrence that names no head. -/
def State.raisePlain (s : State) (k : EventKind) (detail : Word32) : State := s.raise k detail 0

/-- An occurrence of one head. -/
def State.raiseHead (s : State) (h : Head) (k : EventKind) (detail : Word32) : State := s.raise k detail (headMark h)

end Sys2Proof.Machine
end

