-- ==== Sys2Proof/Machine/Tables.lean ====
section
/-! DEFINITION. Machine/Tables.lean: the table memory (09_table_loading_and_shadow_commit.md): the objects and their item
rules, TABLE_WRITE, TABLE_READ and the shadow commit. -/

namespace Sys2Proof.Machine

/-! ## Objects (Table 9.1, Table 12.6) -/

/-- When an object may be written (R154). -/
inductive Permission where
  | idle | any | readOnly
  deriving DecidableEq, Repr

/-- Object kind codes (Table 12.6). -/
def objOfCode (code : Byte) : Option ObjKind :=
  match code.toNat with
  | 1 => some .layout | 2 => some .lane | 3 => some .tile | 4 => some .expand | 5 => some .headSetup
  | 6 => some .headCal | 7 => some .headCalActive | 8 => some .grad | 9 => some .gradActive | 10 => some .wear
  | 11 => some .route | 12 => some .defect | 13 => some .counters | 14 => some .status
  | _ => none

/-- The number of copies of an object kind (Table 9.1). -/
def ObjKind.copies : ObjKind → Nat
  | .layout => 1 | .lane => 16 | .tile => 32 | .expand => 4 | .headSetup => 8 | .headCal => 8 | .headCalActive => 8
  | .grad => 8 | .gradActive => 8 | .wear => 8 | .route => 1 | .defect => 8 | .counters => 8 | .status => 1

/-- The length of an object in items (Table 9.1). -/
def ObjKind.length : ObjKind → Nat
  | .layout => 13 | .lane => 11 | .tile => 8 | .expand => 256 | .headSetup => 5 | .headCal => 12
  | .headCalActive => 12 | .grad => 257 | .gradActive => 257 | .wear => 2 | .route => 23 | .defect => 34
  | .counters => 12 | .status => 43

/-- The write permission of an object kind (Table 9.1). -/
def ObjKind.permission : ObjKind → Permission
  | .layout => .idle | .lane => .idle | .tile => .idle | .expand => .idle | .headSetup => .idle
  | .headCal => .any | .grad => .any | .wear => .any | .route => .any
  | .headCalActive => .readOnly | .gradActive => .readOnly | .defect => .readOnly | .counters => .readOnly
  | .status => .readOnly

/-! ## Views and storage -/

/-- The items of the defect list of a head (R154, R186). -/
def defectItems (c : Channel) : Items :=
  let entries := c.defects.flatMap fun d => [toItem d.track, toItem d.cause.code]
  [toItem c.defects.length, c.overflow] ++ entries ++ List.replicate (32 - entries.length) 0

/-- The items of the counters of a head, in the order of R154. -/
def counterItems (c : Channel) (p : Pipe) : Items :=
  itemsOfWord32 c.tracksDone ++ itemsOfWord32 c.tracksDefective ++ itemsOfWord32 p.engraved ++
    itemsOfWord32 p.suppressed ++ itemsOfWord32 p.saturations ++ itemsOfWord32 c.idleRevs

/-- The four items of a head in STATUS (Table 12.6). -/
def statusHead (c : Channel) : Items :=
  [toItem c.state.code, toItem c.nextTrack, boolItem c.positioned, toItem c.wait]

/-- The items of STATUS (R154, Table 12.6). -/
def State.statusItems (s : State) : Items :=
  [toItem s.jcu.state.code] ++ s.jcu.validation.items ++ [toItem s.stu.state.code] ++
    itemsOfWord32 (BitVec.ofNat 32 s.stu.pAvg) ++
    [toItem s.occupancy, toItem s.cfu.requests.length, toItem (s.slotCount .empty), toItem (s.slotCount .filling),
     toItem (s.slotCount .resident)] ++
    headOrder.flatMap fun h => statusHead s.heads[h]

/-- The element of a vector at a number, or a default past its end. -/
def vecGet {α : Type} {k : Nat} (v : Vector α k) (n : Nat) (d : α) : α := if h : n < k then v[n] else d

/-- The vector with one element replaced, where it has that element. -/
def vecSet {α : Type} {k : Nat} (v : Vector α k) (n : Nat) (x : α) : Vector α k :=
  if h : n < k then v.set n x else v

/-- The items of copy `n` of an object, as TLM answers a read (R158, R186). -/
def State.objItems (s : State) (k : ObjKind) (n : Nat) : Items :=
  match k with
  | .layout => s.tlm.layout
  | .lane => vecGet s.tlm.lanes n []
  | .tile => vecGet s.tlm.tiles n []
  | .expand => vecGet s.tlm.expands n []
  | .headSetup => vecGet s.tlm.setups n []
  | .headCal => vecGet s.tlm.cals n []
  | .headCalActive => vecGet s.tlm.calsActive n []
  | .grad => vecGet s.tlm.grads n []
  | .gradActive => vecGet s.tlm.gradsActive n []
  | .wear => itemsOfWord32 (vecGet s.tlm.wear n 0)
  | .route => s.tlm.route
  | .defect => defectItems (vecGet s.heads n Channel.reset)
  | .counters => counterItems (vecGet s.heads n Channel.reset) (vecGet s.pipes n Pipe.reset)
  | .status => s.statusItems

/-- TLM with the items of copy `n` of an object replaced; a read-only object is never replaced (R154). -/
def Tables.store (t : Tables) (k : ObjKind) (n : Nat) (o : Items) : Tables :=
  match k with
  | .layout => { t with layout := o }
  | .lane => { t with lanes := vecSet t.lanes n o }
  | .tile => { t with tiles := vecSet t.tiles n o }
  | .expand => { t with expands := vecSet t.expands n o }
  | .headSetup => { t with setups := vecSet t.setups n o }
  | .headCal => { t with cals := vecSet t.cals n o }
  | .grad => { t with grads := vecSet t.grads n o }
  | .wear => { t with wear := vecSet t.wear n (word32OfItems (o.getD 0 0) (o.getD 1 0)) }
  | .route => { t with route := o }
  | .headCalActive => t
  | .gradActive => t
  | .defect => t
  | .counters => t
  | .status => t

/-! ## Item rules (Tables 1.1 to 1.4, 2.3; R31, R35, R176, R186) -/

/-- What one item of an object may hold. -/
inductive ItemRule where
  /-- A numeric field, clamped into `lo`..`hi`. -/
  | num (lo hi : Nat)
  /-- A flag: any nonzero item stores 1, without CLAMPED. -/
  | flag
  /-- A select field: an item outside the list refuses the write with RANGE. -/
  | select (values : List Nat)
  /-- A signed field, clamped into `lo`..`hi`. -/
  | signed (lo hi : Int)
  /-- A routing entry: level byte clamped to 7, action byte a select field. -/
  | route
  /-- Half of a 32-bit field, or an item with no range of its own. -/
  | whole
  deriving DecidableEq, Repr

/-- The item rules of an object kind, in item order (Table 12.6). -/
def ObjKind.rules : ObjKind → List ItemRule
  | .layout =>
    [.num 256 32768, .num 1 65535, .num 16 4096, .flag, .num 0 1023, .num 1 3, .num 1 255, .whole, .whole, .num 1 50,
     .num 1 1000, .num 1 32768, .num 0 32767]
  | .lane =>
    [.flag, .num 0 31, .num 0 65534, .num 1 64, .num 1 65535, .select [1, 2, 4], .num 1 64, .num 1 32768,
     .select [1, 2, 4], .num 0 32767, .num 0 1023]
  | .tile =>
    [.flag, .num 1 4096, .num 1 8192, .select [6, 8, 10], .select [0, 1], .select [0, 1, 2, 3], .num 0 3, .flag]
  | .expand => List.replicate 256 (.num 0 1023)
  | .headSetup => [.flag, .num 0 65534, .num 0 65534, .select [0, 1], .num 0 15]
  | .headCal =>
    [.num 0 7, .num 0 1023, .num 0 4095, .num 0 8191, .signed (-2048) 2047, .num 0 4095, .num 0 4095, .num 0 4095,
     .whole, .whole, .num 0 63, .num 0 1023]
  | .grad => List.replicate 257 (.num 0 4095)
  | .wear => [.whole, .whole]
  | .route => List.replicate 23 .route
  | .headCalActive => []
  | .gradActive => []
  | .defect => []
  | .counters => []
  | .status => []

/-- The 32-bit field of an object kind that has a range: its first item, and the range (R2, R44). -/
def ObjKind.wideField : ObjKind → Option (Nat × Nat × Nat)
  | .layout => some (7, 5000000, 200000000)
  | .headCal => some (8, 1, 1048576)
  | .lane => none | .tile => none | .expand => none | .headSetup => none | .headCalActive => none | .grad => none
  | .gradActive => none | .wear => none | .route => none | .defect => none | .counters => none | .status => none

/-- The two items tested against one another: the first is brought down to the second less the gap (R2, R44). -/
def ObjKind.ordered : ObjKind → Option (Nat × Nat × Nat)
  | .layout => some (12, 11, 1)
  | .headCal => some (5, 6, 0)
  | .lane => none | .tile => none | .expand => none | .headSetup => none | .headCalActive => none | .grad => none
  | .gradActive => none | .wear => none | .route => none | .defect => none | .counters => none | .status => none

/-- The rule of item `i`. -/
def ObjKind.rule (k : ObjKind) (i : Nat) : ItemRule := k.rules.getD i .whole

/-- The item names a value of its select field, where it has one (R155 test 7). -/
def selectOk : ItemRule → Item → Bool
  | .select values, w => values.contains w.toNat
  | .route, w => decide (w.toNat / 256 ≤ 2)
  | .num _ _, _ => true
  | .flag, _ => true
  | .signed _ _, _ => true
  | .whole, _ => true

/-- A number brought into a range. -/
def clampNat (lo hi v : Nat) : Nat := if v < lo then lo else if hi < v then hi else v

/-- A signed number brought into a range. -/
def clampInt (lo hi v : Int) : Int := if v < lo then lo else if hi < v then hi else v

/-- An item as its rule stores it (R186). -/
def storedItem : ItemRule → Item → Item
  | .num lo hi, w => toItem (clampNat lo hi w.toNat)
  | .flag, w => if w = 0 then 0 else 1
  | .signed lo hi, w => BitVec.ofInt 16 (clampInt lo hi w.toInt)
  | .route, w => toItem (w.toNat / 256 * 256 + min (w.toNat % 256) 7)
  | .select _, w => w
  | .whole, w => w

/-- Storing the item changed its value to bring it into range; a flag is stored as 1 without CLAMPED (R2, R156). -/
def itemClamped (r : ItemRule) (w : Item) : Bool := r != .flag && storedItem r w != w

/-- An object being written, and whether a stored value has been brought into range. -/
structure Written where
  items : Items
  changed : Bool
  deriving DecidableEq, Repr

/-- Store a run of items from index `i` upward, each brought into its own range (R156). -/
def storeRun (k : ObjKind) : Written → Nat → Items → Written
  | o, _, [] => o
  | o, i, w :: ws =>
    storeRun k { items := o.items.set i (storedItem (k.rule i) w), changed := o.changed || itemClamped (k.rule i) w }
      (i + 1) ws

/-- Judge the 32-bit field at items `i`, `i + 1` on its whole value (R2, R44, R156). -/
def clampWide (o : Written) (i lo hi : Nat) : Written :=
  let v := wideItem o.items i
  let c := clampNat lo hi v
  { items := (o.items.set i (toItem (c % 65536))).set (i + 1) (toItem (c / 65536)), changed := o.changed || c != v }

/-- Bring item `i` down to item `j` less the gap when it stands above that (R2, R44). -/
def clampOrdered (o : Written) (i j gap : Nat) : Written :=
  if item o.items j < item o.items i + gap
  then { items := o.items.set i (toItem (item o.items j - gap)), changed := true }
  else o

/-- Item `i` is among `n` items from `start`. -/
def touches (start n i : Nat) : Bool := decide (start ≤ i ∧ i < start + n)

/-- An object after a write of a run that lies within it (R156). -/
def writeItems (k : ObjKind) (o : Items) (start : Nat) (run : Items) : Written :=
  let t := touches start run.length
  let a := storeRun k ⟨o, false⟩ start run
  let b := match k.wideField with
    | some (i, lo, hi) => if t i || t (i + 1) then clampWide a i lo hi else a
    | none => a
  match k.ordered with
  | some (i, j, gap) => if t i || t j then clampOrdered b i j gap else b
  | none => b

/-! ## TABLE_WRITE (R155, R156) -/

/-- The object is pending commit (R155 test 5, R160). -/
def State.commitPending (s : State) (k : ObjKind) (n : Nat) : Bool :=
  match k with
  | .grad => s.tlm.gradPending.getLsbD n
  | .headCal => s.tlm.calPending.getLsbD n
  | .layout => false | .lane => false | .tile => false | .expand => false | .headSetup => false
  | .headCalActive => false | .gradActive => false | .wear => false | .route => false | .defect => false
  | .counters => false | .status => false

/-- The items of a run that fall within an object (R156). -/
def withinObject (k : ObjKind) (start : Nat) (items : Items) : Items := items.take (k.length - start)

/-- Every select field that a run from index `i` writes names one of its values (R155 test 7). -/
def selectsOk (k : ObjKind) : Nat → Items → Bool
  | _, [] => true
  | i, w :: ws => selectOk (k.rule i) w && selectsOk k (i + 1) ws

/-- Tests 3 to 7 of R155, on an object and a start index that exist. -/
def State.writeRefusal (s : State) (k : ObjKind) (n start : Nat) (items : Items) : Option Result :=
  if k.permission = .readOnly then some .readOnly
  else if k.permission = .idle ∧ s.jcu.state ≠ .idle then some .state
  else if s.commitPending k n then some .busy
  else if k = .tile ∧ s.tileBusy (Fin.ofNat 32 n) then some .busy
  else if selectsOk k start (withinObject k start items) then none
  else some .range

/-- The tests of R155 in order: the refusal, or the object the write goes to. -/
def State.writeTests (s : State) (kind copy : Byte) (start : Nat) (items : Items) : Except Result ObjKind :=
  match objOfCode kind with
  | none => .error .unknown
  | some k =>
    if k.copies ≤ copy.toNat then .error .range
    else if k.length ≤ start ∨ items.length = 0 ∨ 512 < items.length then .error .range
    else match s.writeRefusal k copy.toNat start items with
      | some r => .error r
      | none => .ok k

/-- Clear the pending record of every kind from `i` on that a ROUTE write of `n` items has left at level 0 (R178). -/
def State.clearSilenced (s : State) (i : Nat) : Nat → State
  | 0 => s
  | n + 1 =>
    let t := if h : i < 23 then
        if item s.tlm.route i % 256 = 0
        then { s with evr := { s.evr with records := s.evr.records.set i none } } else s
      else s
    t.clearSilenced (i + 1) n

/-- What a taken write does beside storing its items: TILE empties the tile's slots, ROUTE clears silenced records
(R67, R178). -/
def State.writeEffect (s : State) (k : ObjKind) (n start stored : Nat) : State :=
  match k with
  | .tile => s.emptyTile (Fin.ofNat 32 n)
  | .route => s.clearSilenced start stored
  | .layout => s | .lane => s | .expand => s | .headSetup => s | .headCal => s | .headCalActive => s | .grad => s
  | .gradActive => s | .wear => s | .defect => s | .counters => s | .status => s

/-- The COMMAND_REPLY to a TABLE_WRITE (R155, R156, section 12.3). -/
def writeReply (tag : Byte) (r : Result) (mark : Bool) (stored : Nat) : CommandReply :=
  { tag, kind := 0x02, code := 0, result := r, mark, data := .stored stored }

/-- The result code of a taken write (R156). -/
def writeResult (discarded changed : Bool) : Result :=
  if discarded then .partialWrite else if changed then .clamped else .accepted

/-- A taken write, stored as one event and answered (R156). -/
def State.storeWrite (s : State) (tag : Byte) (k : ObjKind) (n start : Nat) (items : Items) : State :=
  let run := withinObject k start items
  let w := writeItems k (s.objItems k n) start run
  let discarded := decide (run.length < items.length)
  (({ s with tlm := s.tlm.store k n w.items }).writeEffect k n start run.length).queueReply
    (writeReply tag (writeResult discarded w.changed) (discarded && w.changed) run.length)

/-- TLM takes a TABLE_WRITE (R155, R156). -/
def State.tableWrite (s : State) (tag kind copy : Byte) (start : Item) (items : Items) : State :=
  match s.writeTests kind copy start.toNat items with
  | .error r => s.queueReply (writeReply tag r false 0)
  | .ok k => s.storeWrite tag k copy.toNat start.toNat items

/-! ## TABLE_READ (R158) -/

/-- The number of items taken in one event, from item `i` of an object on: a 32-bit field is taken whole, and the three slot
counts of STATUS are taken together (R158, Table 12.6). -/
def ObjKind.together (k : ObjKind) (i : Nat) : Nat :=
  match k with
  | .layout => if i = 7 then 2 else 1
  | .headCal => if i = 8 then 2 else 1
  | .headCalActive => if i = 8 then 2 else 1
  | .wear => if i = 0 then 2 else 1
  | .counters => if i % 2 = 0 then 2 else 1
  | .status => if i = 4 ∨ i = 9 then 2 else if i = 8 then 3 else 1
  | .lane => 1 | .tile => 1 | .expand => 1 | .headSetup => 1 | .grad => 1 | .gradActive => 1 | .route => 1 | .defect => 1

/-- A run of items of an object, as they stand now. -/
def State.itemsFrom (s : State) (k : ObjKind) (n i count : Nat) : Items :=
  (List.range count).map fun j => (s.objItems k n).getD (i + j) 0

/-- A read after one more event of its own: the next item, or the next items that are taken together (R158). -/
def State.takeItems (s : State) (r : Reading) : Reading :=
  let i := r.data.start.toNat + r.data.items.length
  let count := min (r.object.together i) (r.total - r.data.items.length)
  { r with data := { r.data with items := r.data.items ++ s.itemsFrom r.object r.data.copy.toNat i count } }

/-- One event of a read: items are taken, and the TABLE_DATA is queued with the last of them (R158). -/
def State.readEvent (s : State) (r : Reading) : State :=
  let r' := s.takeItems r
  if r'.data.items.length < r.total then { s with tlm := { s.tlm with reading := some r' } }
  else ({ s with tlm := { s.tlm with reading := none } }).queueData r'.data

/-- TLM takes a TABLE_READ: a refused read is answered, and of any other read the first items are taken (R158,
assumption 10). -/
def State.tableRead (s : State) (tag kind copy : Byte) (start count : Item) : State :=
  let data (r : Result) : TableData := { tag, result := r, kind, copy, start, items := [] }
  match objOfCode kind with
  | none => s.queueData (data .unknown)
  | some k =>
    if k.copies ≤ copy.toNat ∨ k.length ≤ start.toNat ∨ count.toNat = 0 ∨ 512 < count.toNat
    then s.queueData (data .range)
    else s.readEvent
      { data := data (if k.length < start.toNat + count.toNat then .partialWrite else .accepted)
        object := k
        total := min count.toNat (k.length - start.toNat) }

/-! ## COMMIT (R159 to R162) -/

/-- Copy the shadows named by two masks into their active copies and clear their marks (R159). -/
def Tables.copyShadows (t : Tables) (grad cal : BitVec 8) : Tables :=
  { t with
    gradsActive := Vector.ofFn fun n : Fin 8 => if grad.getLsbD n then t.grads[n] else t.gradsActive[n]
    calsActive := Vector.ofFn fun n : Fin 8 => if cal.getLsbD n then t.cals[n] else t.calsActive[n]
    gradPending := t.gradPending &&& ~~~grad
    calPending := t.calPending &&& ~~~cal }

/-- Copy the named objects and raise COMMIT_APPLIED; two empty masks do nothing (R160, R161). -/
def State.applyCommit (s : State) (grad cal : BitVec 8) (o : Occasion) : State :=
  if grad = 0 ∧ cal = 0 then s
  else ({ s with tlm := s.tlm.copyShadows grad cal }).raise .commitApplied (commitDetail grad cal o) cal

/-- Copy every pending object (R161, R162). -/
def State.applyPending (s : State) (o : Occasion) : State := s.applyCommit s.tlm.gradPending s.tlm.calPending o

/-- Set the commit-pending marks of the named objects (R160). -/
def State.markPending (s : State) (grad cal : BitVec 8) : State :=
  { s with tlm := { s.tlm with gradPending := s.tlm.gradPending ||| grad, calPending := s.tlm.calPending ||| cal } }

end Sys2Proof.Machine
end

