-- ==== Sys2Proof/Machine/Jobs.lean ====
section
/-! DEFINITION. Machine/Jobs.lean: the job state, its changes, and the check JCU makes on head states
(08_job_control.md, R141, R147, R162). -/

namespace Sys2Proof.Machine

/-- RUNNING or HALTING. -/
def JobState.inMotion (j : JobState) : Bool := j == .running || j == .halting

/-- HALTED, COMPLETE or FAULTED. -/
def JobState.ended (j : JobState) : Bool := j == .halted || j == .complete || j == .faulted

/-- JCU changes the job state: JOB_STATE is raised, and pending commits are applied when the job leaves RUNNING or HALTING
for HALTED, COMPLETE or FAULTED (R141, R162). The copy and its COMMIT_APPLIED come before TPL's effects on the heads: DESIGN
CHOICE (assumption 28). -/
def State.setJob (s : State) (new : JobState) (c : JobCause) : State :=
  let t := ({ s with jcu := { s.jcu with state := new } }).raisePlain .jobState (jobStateDetail s.jcu.state new c)
  if s.jcu.state.inMotion && new.ended then t.applyPending .jobChange else t

/-- Every job head is FINISHED; the job heads are the enabled heads (section 8.1, R147). -/
def State.allFinished (s : State) : Bool :=
  headOrder.all fun h => !s.enabled h || s.heads[h].state == .finished

/-- A head with a track in progress. -/
def HeadState.engaged (x : HeadState) : Bool := x == .engraving || x == .stopping

/-- No head is ENGRAVING or STOPPING (R147). -/
def State.noneEngaged (s : State) : Bool := headOrder.all fun h => !s.heads[h].state.engaged

/-- The check for a change caused by head states (R147). -/
def State.headsCheck (s : State) : State :=
  if s.jcu.state = .running then
    if s.allFinished then s.setJob .complete .heads else s
  else if s.jcu.state = .halting then
    if s.noneEngaged then s.setJob (if s.allFinished then .complete else .halted) .heads else s
  else s

/-- TPL passes JCU the change of a head's state, if `f` makes one, and JCU checks the head states (R105, R147).
The events that `f` raises go before the check: DESIGN CHOICE (assumption 15). -/
def State.withCheck (s : State) (h : Head) (f : State → State) : State :=
  let t := f s
  if t.heads[h].state = s.heads[h].state then t else t.headsCheck

end Sys2Proof.Machine
end

