-- ==== Sys2Proof/Machine/Planner.lean ====
section
/-! DEFINITION. Machine/Planner.lean: track records, the planning pass and the head channels
(06_track_planning_and_head_channels.md), with the request entry that an allocation creates (04_column_fetch.md, R71, R72). -/

namespace Sys2Proof.Machine

/-! ## Records and queues -/

/-- The ACTIVE record, first in the queue when the head has one (R103). -/
def Channel.activeRecord (c : Channel) : Option TrackRecord :=
  match c.queue with
  | [] => none
  | r :: _ => if r.active then some r else none

/-- The record is ready to start: MARGIN, or IMAGE with a RESIDENT slot (R102). -/
def State.readyToStart (s : State) (r : TrackRecord) : Bool :=
  match r.body with
  | .margin _ => true
  | .image _ none => false
  | .image _ (some n) => s.cca.slots[n].state == .resident

/-- A head that is planned for and extended: WAITING or ENGRAVING (R107). -/
def HeadState.moving (x : HeadState) : Bool := x == .waiting || x == .engraving

/-- Set a head's state. -/
def State.setHeadState (s : State) (h : Head) (x : HeadState) : State := s.modHead h fun c => { c with state := x }

/-- Remove every PLANNED record of a head, each unpinning its slot once (R52, R103). -/
def State.dropPlanned (s : State) (h : Head) : State :=
  ((s.heads[h].queue.filter fun r => !r.active).foldl State.unpinRecord s).modHead h fun c =>
    { c with queue := c.queue.filter fun r => r.active }

/-- Remove every record of a head, each unpinning its slot once; the latched wear term goes with an ACTIVE one
(R39, R112). -/
def State.clearQueue (s : State) (h : Head) : State :=
  ((s.heads[h].queue.foldl State.unpinRecord s).modHead h fun c => { c with queue := [] }).modPipe h fun p =>
    { p with wearTerm := none }

/-! ## The request entry of an allocation (R71, R72) -/

/-- The request id after one: 255 is followed by 1 (R71). -/
def nextId (c : Byte) : Byte := if c = 255 then 1 else c + 1

/-- The first id from `c` on that no entry holds, among at most `n` steps (R71). -/
def freeId (held : List Byte) : Nat → Byte → Byte
  | 0, c => c
  | n + 1, c => if held.contains c then freeId held n (nextId c) else c

/-- CFU creates the entry of a requested fill and queues its COLUMN_REQUEST (R71, R72). -/
def State.createRequest (s : State) (k : Key) (n : Fin 64) : State :=
  let id := freeId (s.cfu.requests.map (·.id)) Config.requestEntries s.cfu.counter
  let length := tileLength s.tlm.tiles[k.tile]
  let entry : Request :=
    { id, key := k, slot := n, length, next := 0, received := 0, lock := false, active := s.now }
  ({ s with cfu := { requests := s.cfu.requests ++ [entry], counter := nextId id } }).queueRequest
    { id, tile := k.tile.val, column := k.column.val, length }

/-! ## The planning pass (R106 to R109) -/

/-- The track to append: after the tail, or the next track when the queue is empty (R107). -/
def Channel.planTrack (c : Channel) : Nat :=
  match c.queue.getLast? with
  | some r => r.track + 1
  | none => c.nextTrack

/-- A new PLANNED record for a track (R107, R20, R21). -/
def State.newRecord (s : State) (k : Nat) : TrackRecord :=
  { track := k, body := s.trackBody k, active := false, suppressed := false }

/-- Append one record at the tail (R107). -/
def State.appendRecord (s : State) (h : Head) : State :=
  s.modHead h fun c => { c with queue := c.queue ++ [s.newRecord c.planTrack] }

/-- Extend a head's queue while it is short of 1 + lookahead records and the track is not beyond last (R107). -/
def State.extendQueue (h : Head) : Nat → State → State
  | 0, s => s
  | n + 1, s =>
    if s.heads[h].queue.length < 1 + s.lookahead ∧ s.heads[h].planTrack ≤ s.lastTrack h
    then State.extendQueue h n (s.appendRecord h)
    else s

/-- First stage of a pass for one head (R107). -/
def State.extendHead (h : Head) (s : State) : State :=
  if s.heads[h].state.moving then State.extendQueue h (1 + s.lookahead) s else s

/-- Write a slot into a record of a head's queue (R51). -/
def State.setRecordSlot (s : State) (h : Head) (j : Nat) (k : Key) (n : Fin 64) : State :=
  s.modHead h fun c => { c with queue := c.queue.modify j fun r => { r with body := .image k (some n) } }

/-- Resolve one record of a head's queue (R108). -/
def State.resolveRecord (h : Head) (s : State) (j : Nat) : State :=
  match s.heads[h].queue[j]?.map TrackRecord.body with
  | some (.image k none) =>
    match s.lookup k with
    | some n => (s.pin n).setRecordSlot h j k n
    | none =>
      if s.cfu.requests.length < Config.requestEntries then
        match s.victim (keySet k) with
        | some n => ((s.allocate n k 1).createRequest k n).setRecordSlot h j k n
        | none => s.raiseHead h .cacheConflict (conflictDetail (keySet k).val k.tile.val k.column.val)
      else s
  | some (.image _ (some _)) => s
  | some (.margin _) => s
  | none => s

/-- Second stage of a pass for one head, its records nearest first (R108). -/
def State.resolveHead (h : Head) (s : State) : State :=
  if s.heads[h].state.moving then (List.range s.heads[h].queue.length).foldl (State.resolveRecord h) s else s

/-- A planning pass (R106 to R108). -/
def State.planningPass (s : State) : State := (s.eachHead State.extendHead).eachHead State.resolveHead

/-! ## Track start (R113, R114) -/

/-- The first start condition that fails, as the reason of the idle revolution; `none` when both hold (R113, R114). -/
def State.startFailure (s : State) (h : Head) : Option IdleReason :=
  match s.heads[h].queue with
  | [] => some .unresolved
  | r :: _ =>
    if s.readyToStart r then if s.heads[h].positioned then none else some .notPositioned else some .unresolved

/-- The first record of a queue becomes ACTIVE. -/
def activateFirst : List TrackRecord → List TrackRecord
  | [] => []
  | r :: rs => { r with active := true } :: rs

/-- A head's track starts, and the depth pipeline latches its wear term (R39, R113). -/
def State.startTrack (s : State) (h : Head) : State :=
  (s.modHead h fun c => { c with state := .engraving, wait := 0, queue := activateFirst c.queue }).modPipe h fun p =>
    { p with wearTerm := some (wearTermOf s.tlm.calsActive[h] s.tlm.wear[h]) }

/-- An idle revolution of a head, which stalls it when the wait count passes the wait limit (R114). -/
def State.idleRevolution (s : State) (h : Head) (r : IdleReason) : State :=
  let d := idleDetail s.heads[h].nextTrack r
  let t := (s.modHead h fun c => { c with wait := c.wait + 1, idleRevs := satInc c.idleRevs }).raiseHead h .idleRev d
  if s.waitLimit < s.heads[h].wait + 1
  then ((t.setHeadState h .stalled).dropPlanned h).raiseHead h .headStalled d
  else t

/-- The start conditions applied to a WAITING head at an index (R113, R114). -/
def State.testStart (s : State) (h : Head) : State :=
  match s.startFailure h with
  | none => s.startTrack h
  | some r => s.idleRevolution h r

/-! ## Steps (R115, R132) -/

/-- TPL asks the head port for a step (R132). -/
def State.raiseStep (s : State) (h : Head) : State := s.modPort h fun p => { p with step := true }

/-- The end of the ACTIVE track will owe a step: it is not the last and no step was issued for it (R117). -/
def State.owesStep (s : State) (h : Head) : Bool :=
  match s.heads[h].activeRecord with
  | none => false
  | some r => decide (r.track < s.lastTrack h ∧ s.heads[h].nextTrack = r.track)

/-! ## Track end (R117, R125, R126, R181) -/

/-- A DONE end counts, and raises TRACK_DONE when the prescale admits it (R117, R181). -/
def State.countDone (s : State) (h : Head) (track : Nat) : State :=
  let before := s.heads[h].tracksDone
  let t := s.modHead h fun c => { c with tracksDone := satInc c.tracksDone }
  if s.prescale h ≠ 0 ∧ before ≠ BitVec.allOnes 32 ∧ (satInc before).toNat % s.prescale h = 0
  then t.raiseHead h .trackDone (trackDetail track)
  else t

/-- Add an entry to the defect list, or count an overflow and raise DEFECT_LIST_FULL (R125). -/
def State.addDefect (s : State) (h : Head) (track : Nat) (c : DefectCause) : State :=
  if s.heads[h].defects.length < Config.defectEntries
  then s.modHead h fun x => { x with defects := x.defects ++ [⟨track, c⟩] }
  else (s.modHead h fun x => { x with overflow := satInc x.overflow }).raiseHead h .defectListFull
    (defectDetail track c)

/-- A DEFECT end counts, enters the defect list and raises TRACK_DEFECT (R117). -/
def State.countDefect (s : State) (h : Head) (track : Nat) (c : DefectCause) : State :=
  ((s.modHead h fun x => { x with tracksDefective := satInc x.tracksDefective }).addDefect h track c).raiseHead h
    .trackDefect (defectDetail track c)

/-- The count of a track end by its outcome: DONE, or DEFECT with a cause (R117). -/
def State.countEnd (s : State) (h : Head) (track : Nat) : Option DefectCause → State
  | none => s.countDone h track
  | some c => s.countDefect h track c

/-- The ACTIVE record leaves the queue and unpins its slot, and the wear term ceases to exist (R117 step 1). -/
def State.removeActive (s : State) (h : Head) (r : TrackRecord) : State :=
  ((s.unpinRecord r).modHead h fun c => { c with queue := c.queue.tail }).modPipe h fun p => { p with wearTerm := none }

/-- Steps 4 and 5 of R117: range complete at the last track, and a step owed. -/
def State.closeTrack (s : State) (h : Head) (track : Nat) (owed : Bool) : State :=
  let t := if track = s.lastTrack h then s.modHead h fun c => { c with complete := true } else s
  if owed then t.modHead h fun c => { c with nextTrack := track + 1, positioned := false } else t

/-- A track end with an outcome (R117). -/
def State.endTrack (s : State) (h : Head) (outcome : Option DefectCause) : State :=
  match s.heads[h].activeRecord with
  | none => s
  | some r => (((s.removeActive h r).countEnd h r.track outcome).closeTrack h r.track (s.owesStep h))

/-- The outcome of an end at the index (R117). -/
def TrackRecord.indexOutcome (r : TrackRecord) : Option DefectCause :=
  if r.suppressed then some .cellsSuppressed else none

/-- The head becomes FINISHED and raises HEAD_PARKED (R111, R118, R124). -/
def State.park (s : State) (h : Head) (track : Nat) : State :=
  ((s.setHeadState h .finished).dropPlanned h).raiseHead h .headParked (trackDetail track)

/-- The head becomes STOPPED and its PLANNED records are removed. -/
def State.stopNow (s : State) (h : Head) : State := (s.setHeadState h .stopped).dropPlanned h

/-- The head becomes WAITING with wait count 0, with a step owed raised at once (R118, R119). -/
def State.waitAfterEnd (s : State) (h : Head) (owed : Bool) : State :=
  let t := s.modHead h fun c => { c with state := .waiting, wait := 0 }
  if owed then t.raiseStep h else t

/-- The next state of a head whose track has ended at an index or by a short revolution: FINISHED, STOPPED or WAITING
(R118, R119). -/
def State.afterEnd (s : State) (h : Head) (track : Nat) (stopping owed : Bool) : State :=
  if track = s.lastTrack h then s.park h track
  else if stopping then s.stopNow h
  else s.waitAfterEnd h owed

/-- What TPL does with one head at an index: its track end, its next state and any track start (R113, R114, R118). -/
def State.indexHead (h : Head) (s : State) : State :=
  if s.heads[h].state.engaged then
    match s.heads[h].activeRecord with
    | none => s
    | some r =>
      let t := (s.endTrack h r.indexOutcome).afterEnd h r.track (s.heads[h].state == .stopping) (s.owesStep h)
      if t.heads[h].state = .waiting then t.testStart h else t
  else if s.heads[h].state = .waiting then s.testStart h
  else s

/-- What a short-revolution notice does with one head: a head ENGRAVING or STOPPING on a phase that dropped cells ends its
track as SHORT_REV (R119). -/
def State.shortRevHead (droppedA droppedB : Bool) (h : Head) (s : State) : State :=
  let hit := match s.ports[h].phase with | .a => droppedA | .b => droppedB
  if s.heads[h].state.engaged && hit then
    match s.heads[h].activeRecord with
    | none => s
    | some r => (s.endTrack h (some .shortRev)).afterEnd h r.track (s.heads[h].state == .stopping) (s.owesStep h)
  else s

/-! ## Head operations of the head and job commands (R110 to R112, R120 to R124, R135, R136) -/

/-- HEAD_STOP's effect on a head, in the states that take it (R122). -/
def State.stopHead (h : Head) (s : State) : State :=
  match s.heads[h].state with
  | .engraving => s.setHeadState h .stopping
  | .waiting => s.stopNow h
  | .stalled => s.stopNow h
  | .idle => s | .ready => s | .stopping => s | .stopped => s | .tripped => s | .finished => s

/-- The effect of HEAD_ABORT (cause ABORTED) or of a job fault (cause JOB_FAULT) on a head (R112, R120, R123). -/
def State.haltHead (c : DefectCause) (h : Head) (s : State) : State :=
  match s.heads[h].state with
  | .engraving => (s.endTrack h (some c)).stopNow h
  | .stopping => (s.endTrack h (some c)).stopNow h
  | .waiting => s.stopNow h
  | .stalled => s.stopNow h
  | .idle => s | .ready => s | .stopped => s | .tripped => s | .finished => s

/-- The head states that a LATCHED trip finds (R135). -/
def HeadState.trips (x : HeadState) : Bool := x == .waiting || x == .engraving || x == .stopping || x == .stalled

/-- The track number in the detail of HEAD_TRIP: the track that ends, or the next track (R135). -/
def Channel.tripTrack (c : Channel) : Nat :=
  match c.activeRecord with
  | some r => r.track
  | none => c.nextTrack

/-- The head's changes at a LATCHED trip (R135, R120). -/
def State.tripHead (s : State) (h : Head) : State :=
  ((s.endTrack h (some .tripped)).setHeadState h .tripped).dropPlanned h

/-- HEAD_TRIP, raised after the head's changes (R135). -/
def State.raiseTrip (s : State) (h : Head) (before : Channel) (cause : TripCause) : State :=
  s.raiseHead h .headTrip (tripDetail before.tripTrack cause before.state)

/-- The head has become WAITING at JOB_START or HEAD_RESUME: the step owed is raised, and a LATCHED head whose FAULT level
is active trips (R111, R124, R136). -/
def State.setWaiting (h : Head) (s : State) : State :=
  let t := s.modHead h fun c => { c with state := .waiting, wait := 0 }
  let t := if !t.heads[h].positioned && !t.ports[h].step then t.raiseStep h else t
  if !t.perCell h && t.ports[h].fault then (t.tripHead h).raiseTrip h t.heads[h] .level else t

/-- A READY, STOPPED or STALLED head is started: WAITING, or FINISHED when its range is complete (R111, R124, R144). -/
def State.resumeHead (h : Head) (s : State) : State :=
  if s.heads[h].complete then s.park h (s.lastTrack h) else s.setWaiting h

/-- JOB_START's effect on a head (R111). -/
def State.startHead (h : Head) (s : State) : State :=
  match s.heads[h].state with
  | .ready => s.resumeHead h
  | .stopped => s.resumeHead h
  | .idle => s | .waiting => s | .engraving => s | .stopping => s | .stalled => s | .tripped => s | .finished => s

/-- JOB_ARM's effect on a head: the channel, its defect list and all six counters (R45, R110, R126). -/
def State.armHead (h : Head) (s : State) : State :=
  (s.modHead h fun c =>
    let c := { c with defects := [], overflow := 0, tracksDone := 0, tracksDefective := 0, idleRevs := 0 }
    if s.enabled h then
      { c with state := .ready, nextTrack := s.firstTrack h, positioned := !s.ports[h].step, wait := 0,
               complete := false }
    else { c with state := .idle }).modPipe h fun p => { p with engraved := 0, suppressed := 0, saturations := 0 }

/-- JOB_CLEAR's effect on a head (R112, R151). -/
def State.clearHead (h : Head) (s : State) : State := (s.setHeadState h .idle).clearQueue h

end Sys2Proof.Machine
end

