-- ==== Sys2Proof/Machine/Transitions.lean ====
section
/-! DEFINITION. Machine/Transitions.lean: the job transitions, each in the order of R142, and the routing actions (R150). -/

namespace Sys2Proof.Machine

/-- The transition of JOB_HALT and of the action HALT_JOB (R146). -/
def State.haltJob (s : State) (c : JobCause) : State := ((s.setJob .halting c).eachHead State.stopHead).headsCheck

/-- The transition of JOB_ABORT and of the action ABORT_JOB (R148). -/
def State.abortJob (s : State) (c : JobCause) : State :=
  ((s.setJob .halted c).eachHead (State.haltHead .aborted)).headsCheck

/-- The transition of a spindle fault (R149). -/
def State.faultJob (s : State) : State := ((s.setJob .faulted .spindle).eachHead (State.haltHead .jobFault)).headsCheck

/-- The transition of an accepted JOB_START (R144). -/
def State.startJob (s : State) : State :=
  (((s.setJob .running .start).eachHead State.startHead).planningPass).headsCheck

/-- The transition of a JOB_ARM that passes validation (R143). -/
def State.armJob (s : State) : State := ((s.setJob .ready .arm).eachHead State.armHead).headsCheck

/-- The transition of an accepted JOB_CLEAR (R151). -/
def State.clearJob (s : State) : State := ((s.setJob .idle .clear).eachHead State.clearHead).headsCheck

/-- JCU takes one routing action: HALT_JOB in RUNNING, ABORT_JOB in RUNNING or HALTING, nothing otherwise (R150). -/
def State.routeEffect (s : State) (a : DueAction) : State :=
  match a.action with
  | .haltJob => if s.jcu.state = .running then s.haltJob (.route a.kind) else s
  | .abortJob => if s.jcu.state.inMotion then s.abortJob (.route a.kind) else s
  | .none => s

/-- The state with the given actions due. -/
def State.setDue (s : State) (d : List DueAction) : State := { s with evr := { s.evr with due := d } }

/-- Take actions in the order their occurrences were raised; those that one action's transition calls for are taken when
that transition is complete, before the next (R142 step 5, R150).
A transition by an action takes RUNNING to HALTING at the earliest and HALTING to HALTED, so a depth of 3 reaches every
action that can move the job. -/
def State.takeActions : Nat → List DueAction → State → State
  | 0, _, s => s
  | n + 1, acts, s =>
    acts.foldl (fun t a =>
      let u := (t.setDue []).routeEffect a
      State.takeActions n u.evr.due (u.setDue [])) s

/-- Run one part of an event and then take the actions that its own occurrences called for; actions due from an earlier
part of the event stay due (R150). -/
def State.within (s : State) (f : State → State) : State :=
  let t := f (s.setDue [])
  (State.takeActions 3 t.evr.due (t.setDue [])).setDue s.evr.due

end Sys2Proof.Machine
end

