-- ==== Sys2Proof/Machine/Fetch.lean ====
section
/-! DEFINITION. Machine/Fetch.lean: segments, completion, expiry and preload (04_column_fetch.md). -/

namespace Sys2Proof.Machine

/-- The entry describes the fill of that request id and key. -/
def Request.isFor (r : Request) (id : Byte) (k : Key) : Bool := r.id == id && r.key == k

/-- The key of two 16-bit fields, when they lie within 0..31 and 0..4,095 (R60, R74). -/
def keyOf (tile column : Item) : Option Key :=
  if h : tile.toNat < 32 ∧ column.toNat < 4096 then some ⟨⟨tile.toNat, h.1⟩, ⟨column.toNat, h.2⟩⟩ else none

/-- The entry that holds a segment's request id, tile id and column (R74). -/
def State.matchEntry (s : State) (sg : Segment) : Option Request :=
  match keyOf sg.tile sg.column with
  | none => none
  | some k => s.cfu.requests.find? fun r => r.isFor sg.id k

/-- Replace an entry of the list by itself changed; no two entries hold one key (R69). -/
def State.modRequest (s : State) (k : Key) (f : Request → Request) : State :=
  { s with cfu := { s.cfu with requests := s.cfu.requests.map fun r => if r.key = k then f r else r } }

/-- Remove an entry, and withdraw a COLUMN_REQUEST of it that still waits (R73). -/
def State.removeRequest (s : State) (r : Request) : State :=
  { s with
    cfu := { s.cfu with requests := s.cfu.requests.filter fun q => q.key != r.key }
    lnk := { s.lnk with requestQueue := s.lnk.requestQueue.filter fun q => r.id == 0 || q.id != r.id } }

/-- A stray segment: dropped, STRAY_DATA raised (R75). -/
def State.strayData (s : State) (sg : Segment) : State :=
  s.raisePlain .strayData (strayDetail sg.id.toNat sg.tile.toNat sg.column.toNat)

/-- A segment dropped with FILL_ORDER (R76, R82). -/
def State.fillOrder (s : State) (sg : Segment) (c : OrderCause) : State :=
  s.raisePlain .fillOrder (fillOrderDetail sg.id.toNat sg.tile.toNat sg.column.toNat c)

/-- Lock at completion, unless the other way of the set is locked, which raises CACHE_CONFLICT (R62, R78). -/
def State.lockAtCompletion (s : State) (r : Request) : State :=
  if s.cca.slots[otherSlot r.slot].lock
  then s.raisePlain .cacheConflict (conflictDetail (setOfSlot r.slot).val r.key.tile.val r.key.column.val)
  else s.modSlot r.slot fun sl => { sl with lock := true }

/-- CFU's part of a completion: the slot RESIDENT and locked where asked, the entry removed (R78 steps 1 to 3). -/
def State.completeFill (s : State) (r : Request) : State :=
  let t := s.modSlot r.slot fun sl => { sl with state := .resident }
  let t := if r.lock then t.lockAtCompletion r else t
  t.removeRequest r

/-- An entry after an accepted segment (R77). -/
def Request.accept (r : Request) (sg : Segment) (now : Nat) : Request :=
  { r with
    next := r.next + sg.words.length
    received := r.received + sg.words.length
    lock := r.lock || sg.lock
    active := now }

/-- The words of an accepted segment are stored in the slot and the fill count advances (R57, R77). -/
def State.storeSegment (s : State) (n : Fin 64) (sg : Segment) : State :=
  let t := s.modSlot n fun sl => { sl with fill := sl.fill + sg.words.length }
  { t with cca := { t.cca with
      samples := sampleWriteAll t.cca.samples (sampleAddress n sg.offset.toNat) sg.words } }

/-- An accepted segment; one that brings the received count to L completes the fill, and a planning pass follows
(R77, R78). -/
def State.acceptSegment (s : State) (r : Request) (sg : Segment) : State :=
  let r' := r.accept sg s.now
  let t := (s.storeSegment r.slot sg).modRequest r.key fun _ => r'
  if r'.received = r.length then (t.within fun u => u.completeFill r').within State.planningPass else t

/-- The cause for which a matched segment is out of order, if it is; OFFSET before LENGTH (R76). -/
def Request.orderFault (r : Request) (sg : Segment) : Option OrderCause :=
  if sg.offset.toNat ≠ r.next then some .offset
  else if r.length < sg.offset.toNat + sg.words.length ∨ sg.words.length = 0 then some .length
  else none

/-- A matched segment (R76, R77). -/
def State.matchedSegment (s : State) (r : Request) (sg : Segment) : State :=
  match r.orderFault sg with
  | some c => s.within fun u => u.fillOrder sg c
  | none => s.acceptSegment r sg

/-- The conflict of a preload that finds no entry or no victim (R82 tests 4 and 5). -/
def State.preloadConflict (s : State) (k : Key) : State :=
  s.raisePlain .cacheConflict (conflictDetail (keySet k).val k.tile.val k.column.val)

/-- The entry of a preload (R82). -/
def State.preloadEntry (s : State) (k : Key) (n : Fin 64) : Request :=
  { id := 0, key := k, slot := n, length := tileLength s.tlm.tiles[k.tile], next := 0, received := 0, lock := false,
    active := s.now }

/-- The first segment of a preload: the tests of R82 in order, and its admission (R56, R82). -/
def State.preloadSegment (s : State) (sg : Segment) : State :=
  match keyOf sg.tile sg.column with
  | none => s.within fun u => u.strayData sg
  | some k =>
    let tile := s.tlm.tiles[k.tile]
    if tileValid tile = false ∨ tileColumns tile ≤ k.column.val then s.within fun u => u.strayData sg
    else if tileLength tile < sg.words.length ∨ sg.words.length = 0 then s.within fun u => u.fillOrder sg .length
    else if (s.lookup k).isSome then s.within fun u => u.strayData sg
    else if Config.requestEntries ≤ s.cfu.requests.length then s.within fun u => u.preloadConflict k
    else match s.victim (keySet k) with
      | none => s.within fun u => u.preloadConflict k
      | some n =>
        let t := s.allocate n k 0
        let r := s.preloadEntry k n
        ({ t with cfu := { t.cfu with requests := t.cfu.requests ++ [r] } }).acceptSegment r sg

/-- CFU takes a segment and classifies it by Table 4.2 (R74). A segment of id 0 and offset 0 whose key is FILLING under
another preload matches that preload's entry, so that it is out of order and not stray: DESIGN CHOICE (assumption 25), R74
against R83 and the last case of R75. -/
def State.takeSegment (s : State) (sg : Segment) : State :=
  match s.matchEntry sg with
  | some r => s.matchedSegment r sg
  | none =>
    if sg.id = 0 ∧ sg.offset = 0 then s.preloadSegment sg else s.within fun u => u.strayData sg

/-- A record that names the slot reverts to unresolved (R59). -/
def TrackRecord.revert (n : Fin 64) (r : TrackRecord) : TrackRecord :=
  match r.body with
  | .image k (some m) => if m = n then { r with body := .image k none } else r
  | .image _ none => r
  | .margin _ => r

/-- Every record of every queue that names the slot reverts (R59). -/
def State.revertRecords (s : State) (n : Fin 64) : State :=
  s.eachHead fun h t => t.modHead h fun c => { c with queue := c.queue.map (TrackRecord.revert n) }

/-- The fill has been idle for longer than the fill timeout (R79). -/
def State.expired (s : State) (r : Request) : Bool := decide (s.fillTimeout < s.now - r.active)

/-- CFU's part of an expiry (R59, R80 steps 1 to 3). -/
def State.expireFill (s : State) (r : Request) : State :=
  (((s.removeRequest r).emptySlot r.slot).revertRecords r.slot).raisePlain .fillTimeout
    (fillTimeoutDetail r.key.tile.val r.key.column.val r.received)

/-- One expiry: the oldest entry that has expired, if one has, and the planning pass that follows (R80). -/
def State.fillExpiry (s : State) : State :=
  match s.cfu.requests.find? s.expired with
  | none => s
  | some r => (s.within fun u => u.expireFill r).within State.planningPass

end Sys2Proof.Machine
end

