-- ==== Sys2Proof/Machine/Ports.lean ====
section
/-! DEFINITION. Machine/Ports.lean: the head ports (07_head_ports_and_trips.md): the cell word, the strobe at a head, the
step handshake, the FAULT input. -/

namespace Sys2Proof.Machine

/-- A cell word of its four fields (R131, Table 12.8). -/
def cellWord (code : Nat) (cell : Bool) (phase : Phase) (first : Bool) : BitVec 16 :=
  BitVec.ofNat 16 (code % 4096 + (if cell then 4096 else 0) +
    (match phase with | .a => 0 | .b => 8192) + (if first then 16384 else 0))

/-- The head port delivers a word, and its LOAD line gives one pulse for it, an equal word or not (R131, R140). -/
def State.deliver (s : State) (h : Head) (w : BitVec 16) : State :=
  s.modPort h fun p => { p with word := w, loads := p.loads + 1, loadTick := some s.now }

/-- FIRST: the word of cell 0 while the head has an ACTIVE record (R131). -/
def State.firstMark (s : State) (h : Head) (c : Nat) : Bool := c == 0 && s.heads[h].activeRecord.isSome

/-- The rest word: the rest code of the active calibration with CELL = 0 (R41, R131). -/
def State.restWord (s : State) (h : Head) (ph : Phase) (c : Nat) : BitVec 16 :=
  cellWord (calRest s.tlm.calsActive[h]) false ph (s.firstMark h c)

/-- The word of an engraved cell (R41, R131). -/
def State.engravedWord (s : State) (h : Head) (ph : Phase) (c code : Nat) : BitVec 16 :=
  cellWord code true ph (s.firstMark h c)

/-- An engraved cell: the wear count and the cells-engraved counter advance, and the word is delivered (R41). -/
def State.engraveCell (s : State) (h : Head) (ph : Phase) (c code : Nat) : State :=
  (({ s with tlm := { s.tlm with wear := s.tlm.wear.set h (satInc s.tlm.wear[h]) } }).modPipe h fun p =>
    { p with engraved := satInc p.engraved }).deliver h (s.engravedWord h ph c code)

/-- A clamped cell is one drive saturation (R40, R46). -/
def State.saturateCell (s : State) (h : Head) (track c : Nat) (high : Bool) : State :=
  (s.modPipe h fun p => { p with saturations := satInc p.saturations }).raiseHead h .driveSaturated
    (saturatedDetail track c high)

/-- Set the defect mark of the first record of a queue (R43, R102). -/
def markSuppressed : List TrackRecord → List TrackRecord
  | [] => []
  | r :: rs => { r with suppressed := true } :: rs

/-- A suppressed cell: counted, the ACTIVE track marked, the rest word delivered, CELL_SUPPRESSED raised (R43, R46). -/
def State.suppressCell (s : State) (h : Head) (ph : Phase) (track c : Nat) : State :=
  (((s.modPipe h fun p => { p with suppressed := satInc p.suppressed }).modHead h fun x =>
    { x with queue := markSuppressed x.queue }).deliver h (s.restWord h ph c)).raiseHead h .cellSuppressed
    (suppressedDetail track c)

/-- The strobe of a computed cell of a head's ACTIVE record (R26, R37 to R43). -/
def State.strobeCell (s : State) (h : Head) (ph : Phase) (r : TrackRecord) (c : Nat) : State :=
  match s.computeCell h r c with
  | .noCell => s.deliver h (s.restWord h ph c)
  | .suppressed => s.suppressCell h ph r.track c
  | .engraved code limit =>
    let t := s.engraveCell h ph c code
    match limit with
    | none => t
    | some high => t.saturateCell h r.track c high

/-- The window start of a track: STEP is raised unless the track is the last (R115). -/
def State.windowStart (s : State) (h : Head) (track : Nat) : State :=
  if track < s.lastTrack h then
    (s.raiseStep h).modHead h fun c => { c with nextTrack := track + 1, positioned := false }
  else s

/-- The cell where the step window begins (R1, R115). -/
def State.windowCell (s : State) : Nat := s.cells - s.window

/-- The strobe of a cell at a head that is ENGRAVING or STOPPING (R25, R26, R115). -/
def State.strobeEngaged (s : State) (h : Head) (ph : Phase) (c : Nat) : State :=
  match s.heads[h].activeRecord with
  | none => s.deliver h (s.restWord h ph c)
  | some r =>
    if c < s.windowCell then s.strobeCell h ph r c
    else
      let t := s.deliver h (s.restWord h ph c)
      if c = s.windowCell then t.windowStart h r.track else t

/-- A strobe at one head: its port takes the strobes of its own phase, and delivers nothing in IDLE (R130, Table 7.2). -/
def State.strobeHead (ph : Phase) (c : Nat) (h : Head) (s : State) : State :=
  if s.ports[h].phase ≠ ph ∨ s.heads[h].state = .idle then s
  else if s.heads[h].state.engaged then s.strobeEngaged h ph c
  else s.deliver h (s.restWord h ph c)

/-- The head port sets its phase at an index, from stagger and the parity of the head's track (R129). -/
def State.setPhase (h : Head) (s : State) : State :=
  let track := match s.heads[h].activeRecord with
    | some r => r.track
    | none => s.heads[h].nextTrack
  s.modPort h fun p => { p with phase := if s.stagger && track % 2 == 1 then .b else .a }

/-- A new level held for `held` ticks is taken (R134). -/
def levelTaken (held : Nat) : Bool := decide (Config.filterTicks ≤ held)

/-- The STEP_DONE input becomes active: a STEP_DONE while STEP is raised lowers it and sets positioned true
(R116, R133, R134). -/
def State.stepDoneActive (s : State) (h : Head) (held : Nat) : State :=
  let t := s.modPort h fun p => { p with stepDonePin := true }
  if levelTaken held && !s.ports[h].stepDone then
    let t := t.modPort h fun p => { p with stepDone := true }
    if s.ports[h].step then
      (t.modPort h fun p => { p with step := false }).modHead h fun c => { c with positioned := true }
    else t
  else t

/-- The STEP_DONE input becomes inactive (R133, R134). -/
def State.stepDoneInactive (s : State) (h : Head) (held : Nat) : State :=
  s.modPort h fun p => { p with stepDonePin := false, stepDone := p.stepDone && !levelTaken held }

/-- The FAULT input becomes inactive (R134). -/
def State.faultInactive (s : State) (h : Head) (held : Nat) : State :=
  s.modPort h fun p => { p with faultPin := false, fault := p.fault && !levelTaken held }

/-- A fault edge: in LATCHED mode it trips the head in the states of R135, and otherwise sets the level alone
(R134, R135). TRACK_DEFECT, DEFECT_LIST_FULL and HEAD_TRIP are raised before JCU's check of the passed
change, and their actions taken after it: DESIGN CHOICE (R147, R150, assumption 15). -/
def State.faultTaken (s : State) (h : Head) : State :=
  let t := s.modPort h fun p => { p with fault := true }
  if !s.perCell h && s.heads[h].state.trips
  then t.within fun u => u.withCheck h fun v => (v.tripHead h).raiseTrip h s.heads[h] .edge
  else t

/-- The FAULT input becomes active (R134, R135). -/
def State.faultActive (s : State) (h : Head) (held : Nat) : State :=
  let t := s.modPort h fun p => { p with faultPin := true }
  if levelTaken held && !s.ports[h].fault then t.faultTaken h else t

end Sys2Proof.Machine
end

