-- ==== Sys2Proof/Machine/Owners.lean ====
section
/-! DEFINITION. Machine/Owners.lean: what the owner of a COMMAND frame does when it takes one: JCU (R143 to R153), TPL
(R121 to R124, R138), TLM (R160) and CCA (R60 to R66).  The reply is queued before the command's effects, as R142 has it of
a job command and R60 of a cache command; of a head command and COMMIT that is the model's choice (assumption 27). -/

namespace Sys2Proof.Machine

/-! ## JCU: the job commands (08_job_control.md) -/

/-- JCU takes JOB_ARM (R143). -/
def State.takeJobArm (s : State) (tag : Byte) : State :=
  if s.jcu.state = .idle then
    match s.armFailure with
    | some (r, n) =>
      ({ s with jcu := { s.jcu with validation := .failed r n } }).queueReply
        { commandReply tag 0x01 .invalid with data := .invalid r n }
    | none =>
      (({ s with jcu := { s.jcu with validation := .accepted } }).answer tag 0x01 .accepted).within State.armJob
  else s.answer tag 0x01 .state

/-- The job states in which JOB_START may be accepted (R144). -/
def JobState.startable (j : JobState) : Bool := j == .ready || j == .halted || j == .faulted

/-- JCU takes JOB_START (R144). -/
def State.takeJobStart (s : State) (tag : Byte) : State :=
  if s.jcu.state.startable then
    if s.stu.state = .locked then (s.answer tag 0x02 .accepted).within State.startJob
    else s.answer tag 0x02 .spindle
  else s.answer tag 0x02 .state

/-- JCU takes JOB_HALT (R146). -/
def State.takeJobHalt (s : State) (tag : Byte) : State :=
  if s.jcu.state = .running then (s.answer tag 0x03 .accepted).within fun u => u.haltJob .halt
  else s.answer tag 0x03 .state

/-- JCU takes JOB_ABORT (R148). -/
def State.takeJobAbort (s : State) (tag : Byte) : State :=
  if s.jcu.state.inMotion then (s.answer tag 0x04 .accepted).within fun u => u.abortJob .abort
  else s.answer tag 0x04 .state

/-- The job states in which JOB_CLEAR is accepted (R151). -/
def JobState.clearable (j : JobState) : Bool := j == .ready || j == .halted || j == .complete || j == .faulted

/-- JCU takes JOB_CLEAR (R151). -/
def State.takeJobClear (s : State) (tag : Byte) : State :=
  if s.jcu.state.clearable then (s.answer tag 0x05 .accepted).within State.clearJob
  else s.answer tag 0x05 .state

/-- LNK's upstream queues at SOFT_RESET: emptied, a waiting FLOW frame withdrawn with the HOLD state back at its value
before that frame was queued, and watermark checks suspended (R152, R172). -/
def Link.emptyQueues (l : Link) : Link :=
  { l with
    flowQueue := none
    requestQueue := []
    replyQueue := []
    dataQueue := []
    hold := match l.flowQueue with | some waiting => !waiting | none => l.hold
    resetReply := .waiting }

/-- The blocks after SOFT_RESET: TLM, the link, the sample words and the input pins are kept (R153),
and each filter takes the level of its input without a change (R88, R134). -/
def State.resetBlocks (s : State) : State :=
  { s with
    jcu := Job.reset
    stu := Spindle.reset s.stu.indexPin
    cca := { Cache.reset with samples := s.cca.samples }
    cfu := Fetch.reset
    heads := Vector.replicate 8 Channel.reset
    pipes := Vector.replicate 8 Pipe.reset
    ports := s.ports.map fun p => Port.reset p.faultPin p.stepDonePin
    evr := Events.reset }

/-- JOB_STATE with cause RESET, when the job was not IDLE before the reset (R153). -/
def State.raiseReset (s : State) (before : JobState) : State :=
  if before = .idle then s
  else s.within fun u => u.raisePlain .jobState (jobStateDetail before .idle .reset)

/-- JCU takes SOFT_RESET (R152, R153). -/
def State.takeSoftReset (s : State) (tag : Byte) : State :=
  if s.jcu.state.inMotion then s.answer tag 0x06 .state
  else
    ((({ s with lnk := s.lnk.emptyQueues }).answer tag 0x06 .accepted).resetBlocks).raiseReset s.jcu.state

/-! ## TPL: the head commands (R121 to R124, R138) -/

/-- The head that a head command names, or RANGE (R121, R138). -/
def State.forHead (s : State) (tag code head : Byte) (f : Head → State) : State :=
  match headOfByte head with
  | none => s.answer tag code .range
  | some h => f h

/-- The head states that HEAD_STOP accepts (R122). -/
def HeadState.stoppable (x : HeadState) : Bool := x == .engraving || x == .waiting || x == .stalled

/-- TPL takes HEAD_STOP; the reply goes first (R121, R122, assumption 27). -/
def State.takeHeadStop (s : State) (tag head : Byte) : State :=
  s.forHead tag 0x10 head fun h =>
    if s.heads[h].state.stoppable
    then (s.answer tag 0x10 .accepted).within fun u => u.withCheck h (State.stopHead h)
    else s.answer tag 0x10 .state

/-- The head states that HEAD_ABORT accepts (R123). -/
def HeadState.abortable (x : HeadState) : Bool :=
  x == .engraving || x == .stopping || x == .waiting || x == .stalled

/-- TPL takes HEAD_ABORT; the reply goes before the events it raises: DESIGN CHOICE (R121, R123, assumption 27). The action
of its TRACK_DEFECT or DEFECT_LIST_FULL is taken after JCU's check of the head's change: DESIGN CHOICE (R147, R150,
assumption 15). -/
def State.takeHeadAbort (s : State) (tag head : Byte) : State :=
  s.forHead tag 0x11 head fun h =>
    if s.heads[h].state.abortable
    then (s.answer tag 0x11 .accepted).within fun u => u.withCheck h (State.haltHead .aborted h)
    else s.answer tag 0x11 .state

/-- HEAD_RESUME is accepted (R124). -/
def State.resumable (s : State) (h : Head) : Bool :=
  s.jcu.state == .running && (s.heads[h].state == .stopped || s.heads[h].state == .stalled)

/-- The effect of an accepted HEAD_RESUME: the head's change, and a planning pass unless its range is complete
(R124, R136). The actions of its HEAD_PARKED or HEAD_TRIP are taken after JCU's check of the head's change: DESIGN CHOICE,
and before the planning pass: DEDUCED (R147, R150, assumption 15). -/
def State.resumeEffect (s : State) (h : Head) : State :=
  let t := s.within fun u => u.withCheck h (State.resumeHead h)
  if s.heads[h].complete then t else t.within State.planningPass

/-- TPL takes HEAD_RESUME; the reply goes before its events and requests: DESIGN CHOICE (R121, R124, assumption 27). -/
def State.takeHeadResume (s : State) (tag head : Byte) : State :=
  s.forHead tag 0x12 head fun h =>
    if s.resumable h then (s.answer tag 0x12 .accepted).resumeEffect h else s.answer tag 0x12 .state

/-- TPL takes TRIP_CLEAR; the reply goes first (R138, assumption 27). -/
def State.takeTripClear (s : State) (tag head : Byte) : State :=
  s.forHead tag 0x13 head fun h =>
    if s.heads[h].state = .tripped ∧ s.ports[h].fault = false
    then (s.answer tag 0x13 .accepted).within fun u => u.withCheck h fun v => v.setHeadState h .stopped
    else s.answer tag 0x13 .state

/-! ## TLM: COMMIT (R160) -/

/-- TLM takes COMMIT; the reply goes before COMMIT_APPLIED: DESIGN CHOICE (R160, assumption 27). -/
def State.takeCommit (s : State) (tag gradMask calMask : Byte) : State :=
  let t := s.answer tag 0x20 .accepted
  if s.jcu.state.inMotion then t.markPending gradMask calMask
  else t.within fun u => u.applyCommit gradMask calMask .command

/-! ## CCA: the cache commands (R60 to R66) -/

/-- The slot in which a key is RESIDENT (R61, R63). -/
def State.residentSlot (s : State) (k : Key) : Option (Fin 64) :=
  match s.lookup k with
  | none => none
  | some n => if s.cca.slots[n].state = .resident then some n else none

/-- Set a slot's lock. -/
def State.setLock (s : State) (n : Fin 64) (on : Bool) : State := s.modSlot n fun sl => { sl with lock := on }

/-- CACHE_LOCK on a key: the tests of R61 in order. -/
def State.lockKey (s : State) (k : Key) : State × Result :=
  match s.residentSlot k with
  | none => (s, .absent)
  | some n =>
    if s.cca.slots[n].lock then (s, .accepted)
    else if s.cca.slots[otherSlot n].lock then (s, .conflict)
    else (s.setLock n true, .accepted)

/-- CACHE_UNLOCK on a key (R63). -/
def State.unlockKey (s : State) (k : Key) : State × Result :=
  match s.residentSlot k with
  | none => (s, .absent)
  | some n => (s.setLock n false, .accepted)

/-- What CACHE_INVALIDATE makes of one slot, with the numbers invalidated and skipped so far (R64, R65). -/
def State.invalidateSlot (t : State × Nat × Nat) (n : Fin 64) : State × Nat × Nat :=
  if t.1.cca.slots[n].state = .empty then t
  else if slotInvalid t.1.cca.slots[n] then (t.1.emptySlot n, t.2.1 + 1, t.2.2)
  else (t.1, t.2.1, t.2.2 + 1)

/-- CACHE_INVALIDATE on a key (R64). -/
def State.invalidateKey (s : State) (k : Key) : State × Nat × Nat :=
  match s.lookup k with
  | none => (s, 0, 0)
  | some n => State.invalidateSlot (s, 0, 0) n

/-- CACHE_INVALIDATE on all slots, in increasing slot number (R65). -/
def State.invalidateAll (s : State) : State × Nat × Nat := slotOrder.foldl State.invalidateSlot (s, 0, 0)

/-- The COMMAND_REPLY of CACHE_INVALIDATE (section 12.3). -/
def countsReply (tag : Byte) (invalidated skipped : Nat) : CommandReply :=
  { commandReply tag 0x32 .accepted with data := .counts invalidated skipped }

/-- The COMMAND_REPLY to a CACHE_INVALIDATE that names neither a key within range nor the all form (R60).
Its counts are 0. -/
def countsRefusal (tag : Byte) : CommandReply := commandReply tag 0x32 .range

/-- The planning pass that follows every cache command, whatever its result (R60). -/
def State.afterCache (s : State) : State := s.within State.planningPass

/-- CCA takes CACHE_LOCK (R60, R61). -/
def State.takeCacheLock (s : State) (tag : Byte) (tile column : Item) : State :=
  match keyOf tile column with
  | none => (s.answer tag 0x30 .range).afterCache
  | some k => ((s.lockKey k).1.answer tag 0x30 (s.lockKey k).2).afterCache

/-- CCA takes CACHE_UNLOCK (R60, R63). -/
def State.takeCacheUnlock (s : State) (tag : Byte) (tile column : Item) : State :=
  match keyOf tile column with
  | none => (s.answer tag 0x31 .range).afterCache
  | some k => ((s.unlockKey k).1.answer tag 0x31 (s.unlockKey k).2).afterCache

/-- CCA takes the all form of CACHE_INVALIDATE (R65). -/
def State.takeInvalidateAll (s : State) (tag : Byte) : State :=
  let t := s.invalidateAll
  (t.1.queueReply (countsReply tag t.2.1 t.2.2)).afterCache

/-- CCA takes a CACHE_INVALIDATE of the key form, or of a form that is neither key nor all (R60, R64). -/
def State.takeInvalidateKey (s : State) (tag form : Byte) (tile column : Item) : State :=
  if form = 0 then
    match keyOf tile column with
    | none => (s.queueReply (countsRefusal tag)).afterCache
    | some k =>
      let t := s.invalidateKey k
      (t.1.queueReply (countsReply tag t.2.1 t.2.2)).afterCache
  else (s.queueReply (countsRefusal tag)).afterCache

/-- The slot of a slot number byte; `none` above 63 (R60). -/
def slotOfByte (b : Byte) : Option (Fin 64) := if h : b.toNat < 64 then some ⟨b.toNat, h⟩ else none

/-- CCA takes CACHE_QUERY (R60, R66). -/
def State.takeCacheQuery (s : State) (tag slot : Byte) : State :=
  match slotOfByte slot with
  | none => (s.answer tag 0x33 .range).afterCache
  | some n =>
    (s.queueReply { commandReply tag 0x33 .accepted with data := .slot (s.slotReport n) }).afterCache

end Sys2Proof.Machine
end

