-- ==== Sys2Proof/Machine/Link.lean ====
section
/-! DEFINITION. Machine/Link.lean: the tone link (10_tone_link.md): reception, the inbound buffer, dispatch, the link
states, and how a command row that is a downstream frame reaches its owner. -/

namespace Sys2Proof.Machine

/-! ## Reception and store (R167, R168) -/

/-- CRC_ERROR with its cause and the bytes received (R167, R184). -/
def State.crcError (s : State) (received : Nat) (c : CrcCause) : State :=
  s.within fun u => u.raisePlain .crcError (crcErrorDetail received c)

/-- The frame fits in the inbound buffer (R168). -/
def State.fits (s : State) (f : Frame) : Bool := decide (s.occupancy + f.size ≤ Config.bufferBytes)

/-- Store a frame at the tail of the inbound buffer. -/
def State.store (s : State) (f : Frame) : State := { s with lnk := { s.lnk with inbound := s.lnk.inbound ++ [f] } }

/-- A valid frame is offered to the inbound buffer (R168). -/
def State.offer (s : State) (f : Frame) : State :=
  if s.fits f then (s.store f).watermarkCheck
  else s.within fun u => u.raisePlain .rxOverrun (rxOverrunDetail s.occupancy f.size f.kind.toNat)

/-- Set the frame in reception. -/
def State.setReception (s : State) (r : Option (List Byte)) : State := { s with lnk := { s.lnk with reception := r } }

/-- What the receiver does with the bytes that have followed a start symbol (R167). -/
def State.takeReception (s : State) (bytes : List Byte) : State :=
  match receive bytes with
  | .incomplete => s.setReception (some bytes)
  | .oversize => s.crcError 6 .oversize
  | .badCrc size => s.crcError size .crc
  | .badLength size => s.crcError size .length
  | .valid f => s.offer f

/-- A start symbol cuts a frame in reception (R167). -/
def State.cutReception (s : State) : State :=
  match s.lnk.reception with
  | none => s
  | some bs => (s.setReception none).crcError bs.length .cut

/-- The receiver has seen a valid symbol (R165). -/
def State.seeSymbol (s : State) (tick : Nat) : State :=
  { s with lnk := { s.lnk with lastSymbol := max s.lnk.lastSymbol tick } }

/-- Valid symbols are seen on the downstream lane (R165). -/
def State.train (s : State) : State :=
  let t := s.seeSymbol s.now
  match s.lnk.state with
  | .down => { t with lnk := { t.lnk with state := .training } }
  | .training => t
  | .up => t

/-- A start symbol and the bytes after it, on a link in any state; in DOWN and TRAINING they are valid symbols and no frame
(R165, R167). -/
def State.receiveFrame (s : State) (bytes : List Byte) : State :=
  match s.lnk.state with
  | .down => s.train
  | .training => s.train
  | .up => ((s.seeSymbol s.now).cutReception).takeReception bytes

/-- What the receiver does with a whole frame, as `takeReception` does with its bytes (R167, R168). -/
def State.takeWhole (s : State) (f : Frame) : State :=
  if f.payload.length ≤ Config.largestPayload then s.offer f
  else if f.payload.length ≤ Config.oversizeLength then s.crcError f.size .length
  else s.crcError 6 .oversize

/-- A whole frame has just crossed the downstream lane, on a link in any state (R165, R167). -/
def State.receiveWhole (s : State) (f : Frame) : State :=
  match s.lnk.state with
  | .down => s.train
  | .training => s.train
  | .up => ((s.seeSymbol s.now).cutReception).takeWhole f

/-! ## Dispatch (R169, R170, R184) -/

/-- The answer to a frame has no room in its queue (R170). -/
def State.answerFull (s : State) : Inbound → Bool
  | .segment _ => false
  | .badSegment _ => false
  | .tableRead _ _ _ _ _ => decide (Config.dataPlaces ≤ s.lnk.dataQueue.length)
  | .tableWrite _ _ _ _ _ => decide (Config.replyPlaces ≤ s.lnk.replyQueue.length)
  | .command _ _ _ _ _ => decide (Config.replyPlaces ≤ s.lnk.replyQueue.length)
  | .unknown _ _ _ => decide (Config.replyPlaces ≤ s.lnk.replyQueue.length)

/-- The frame is not dispatched: TLM has not taken a TABLE_READ whole yet, or the frame's answer has no room (R169, R170). -/
def State.blocked (s : State) (i : Inbound) : Bool := s.tlm.reading.isSome || s.answerFull i

/-- The head frame leaves the buffer, and LNK makes the watermark check (R169). -/
def State.popInbound (s : State) : State :=
  ({ s with lnk := { s.lnk with inbound := s.lnk.inbound.tail } }).watermarkCheck

/-- The head frame is a TABLE_READ that the TABLE_DATA queue has no room for (R170). -/
def State.readWaits (s : State) : Bool :=
  match s.lnk.inbound.head?.map decodeFrame with
  | some (.tableRead tag kind copy start count) => s.answerFull (.tableRead tag kind copy start count)
  | _ => false

/-- A TABLE_READ at the head of the buffer is dispatched to TLM, when it has room (R169, R170). -/
def State.dispatchRead (s : State) : State :=
  match s.lnk.inbound.head?.map decodeFrame with
  | some (.tableRead tag kind copy start count) =>
    if s.blocked (.tableRead tag kind copy start count) then s else s.popInbound.tableRead tag kind copy start count
  | _ => s

/-- JCU takes SOFT_RESET, and a TABLE_READ behind it that waited for the TABLE_DATA queue, which the reset empties, is
dispatched in the same event (R152, R153, R170). -/
def State.softReset (s : State) (tag : Byte) : State :=
  if s.readWaits then (s.takeSoftReset tag).dispatchRead else s.takeSoftReset tag

/-- The owner of a COMMAND frame takes it, by its code (R169, Table 12.4); LNK hands over known codes alone. -/
def State.takeCommand (s : State) (tag code a : Byte) (b c : Item) : State :=
  match code.toNat with
  | 0x01 => s.takeJobArm tag
  | 0x02 => s.takeJobStart tag
  | 0x03 => s.takeJobHalt tag
  | 0x04 => s.takeJobAbort tag
  | 0x05 => s.takeJobClear tag
  | 0x06 => s.softReset tag
  | 0x10 => s.takeHeadStop tag a
  | 0x11 => s.takeHeadAbort tag a
  | 0x12 => s.takeHeadResume tag a
  | 0x13 => s.takeTripClear tag a
  | 0x20 => s.takeCommit tag a (b.setWidth 8)
  | 0x30 => s.takeCacheLock tag b c
  | 0x31 => s.takeCacheUnlock tag b c
  | 0x32 => if a = 1 then s.takeInvalidateAll tag else s.takeInvalidateKey tag a b c
  | 0x33 => s.takeCacheQuery tag a
  | _ => s

/-- LNK answers a frame itself with UNKNOWN (R169, R184); of a COMMAND frame with no payload the code echoed is a free
value (assumption 7). -/
def State.takeUnknown (s : State) (kind tag : Byte) (code : Option Byte) : State :=
  match code with
  | some c => s.queueReply { tag, kind, code := c, result := .unknown, mark := false, data := .none }
  | none =>
    ({ s with lnk := { s.lnk with draws := s.lnk.draws + 1 } }).queueReply
      { tag, kind, code := Config.codeNotReceived s.lnk.draws, result := .unknown, mark := false, data := .none }

/-- The owner of a dispatched frame takes it (R169, R184). -/
def State.takeInbound (s : State) : Inbound → State
  | .segment sg => s.takeSegment sg
  | .tableWrite tag kind copy start items => s.tableWrite tag kind copy start items
  | .tableRead tag kind copy start count => s.tableRead tag kind copy start count
  | .command tag code a b c => s.takeCommand tag code a b c
  | .unknown kind tag code => s.takeUnknown kind tag code
  | .badSegment size => s.crcError size .length

/-- The frame at the head of the buffer is dispatched, when there is one and its queue has room (R169, R170). -/
def State.dispatchHead (s : State) : State :=
  match s.lnk.inbound with
  | [] => s
  | f :: _ => if s.blocked (decodeFrame f) then s else s.popInbound.takeInbound (decodeFrame f)

/-- The head frame waits for room (R170). -/
def State.headWaits (s : State) : Bool :=
  match s.lnk.inbound with
  | [] => false
  | f :: _ => s.blocked (decodeFrame f)

/-- A part of an event that may free a place: the head frame that waited for that place is dispatched in the same event
(R170). -/
def State.freeing (s : State) (f : State → State) : State :=
  if s.headWaits then (f s).dispatchHead else f s

/-- What the part does on its own: TLM takes the next items of a read in progress (R158); with no read in progress, LNK
dispatches the frame at the head of its buffer when that frame has room (R169), and otherwise the part idles. -/
def State.advance (s : State) : State :=
  match s.tlm.reading with
  | some r => s.readEvent r
  | none => s.dispatchHead

/-! ## Command rows that are downstream frames (assumption 4) -/

/-- The head of the buffer is a frame that says the same. -/
def State.headSays (s : State) (f : Frame) : Bool :=
  match s.lnk.inbound with
  | [] => false
  | g :: _ => decodeFrame g == decodeFrame f

/-- The frame of a command row: the one at the head of the buffer when that says the same, and otherwise one that has just
crossed the downstream lane (assumption 4). -/
def State.arrive (s : State) (f : Frame) : State := if s.headSays f then s else s.receiveWhole f

/-- A command row that is a downstream frame: the frame is dispatched to its owner when it stands at the head of the buffer
and its answer has room, and waits in the buffer otherwise (R169, R170). -/
def State.present (s : State) (f : Frame) (take : State → State) : State :=
  let t := s.arrive f
  if t.headSays f && !t.headWaits then take t.popInbound else t

/-! ## Link states (R165, R166) -/

/-- The link enters UP: LINK_UP, the watermark check, and the arbiter's choice (R166, R174). -/
def State.enterUp (s : State) : State :=
  let t := { s with lnk := { s.lnk with state := .up } }
  ((t.within fun u => u.raisePlain .linkUp (linkUpDetail u.occupancy)).watermarkCheck).arbitrate

/-- Framing is acquired in TRAINING (R165). -/
def State.acquireFraming (s : State) : State :=
  match s.lnk.state with
  | .training => s.freeing State.enterUp
  | .down => s
  | .up => s

/-- The upstream frames that a link loss discards, the abandoned frame included (R166). -/
def Link.upstream (l : Link) : Nat :=
  (if l.sending.isSome then 1 else 0) + (if l.flowQueue.isSome then 1 else 0) + l.requestQueue.length +
    l.replyQueue.length + l.dataQueue.length

/-- LNK after a link loss (R166). -/
def Link.lose (l : Link) : Link :=
  { l with
    state := .down
    reception := none
    sending := none
    flowQueue := none
    requestQueue := []
    replyQueue := []
    dataQueue := []
    hold := false
    resetReply := .none }

/-- Entering DOWN from UP (R166). -/
def State.loseLink (s : State) : State :=
  ({ s with lnk := s.lnk.lose }).within fun u => u.raisePlain .linkLoss (linkLossDetail s.lnk.upstream)

/-- The interval since the last valid symbol has passed the link-loss interval (R165). -/
def State.silent (s : State) : Bool := decide (Config.linkLossTicks < s.now - s.lnk.lastSymbol)

/-- The link-loss interval is examined, with the tick of the last idle symbol (R165, R166). -/
def State.linkLoss (s : State) (lastIdle : Nat) : State :=
  let t := s.seeSymbol (min lastIdle s.now)
  if t.silent then
    match t.lnk.state with
    | .down => t
    | .training => { t with lnk := { t.lnk with state := .down } }
    | .up => t.freeing State.loseLink
  else t

/-! ## The end of a transmission (R172, R174) -/

/-- The frame in transmission has been sent. -/
def State.endSending (s : State) : State :=
  let t := { s with lnk := { s.lnk with sending := none } }
  if s.lnk.resetReply = .sending
  then (({ t with lnk := { t.lnk with resetReply := .none } }).watermarkCheck).arbitrate
  else t.arbitrate

/-- A transmission ends, where a frame is in transmission (R174). -/
def State.endTransmission (s : State) : State :=
  if s.lnk.sending.isSome then s.freeing State.endSending else s

end Sys2Proof.Machine
end

