-- ==== Sys2Proof/Machine/CacheRows.lean ====
section
/-! DEFINITION. Machine/CacheRows.lean: the rows of the cache commands (R60 to R66). -/

namespace Sys2Proof.Machine

/-- CACHE_LOCK (R60, R61). -/
def execCacheLock (tag : Byte) (tile column : Item) (tick : Nat) (s : State) : Host.Outcome State Fault Refusal :=
  .next ((s.at tick).present (commandFrame tag 0x30 0 tile column) fun u => u.takeCacheLock tag tile column)

/-- CACHE_UNLOCK (R60, R63). -/
def execCacheUnlock (tag : Byte) (tile column : Item) (tick : Nat) (s : State) : Host.Outcome State Fault Refusal :=
  .next ((s.at tick).present (commandFrame tag 0x31 0 tile column) fun u => u.takeCacheUnlock tag tile column)

/-- CACHE_INVALIDATE in a form other than the all form (R60, R64). -/
def execCacheInvalidateKey (tag form : Byte) (tile column : Item) (tick : Nat) (s : State) : Host.Outcome State Fault Refusal :=
  .next ((s.at tick).present (commandFrame tag 0x32 form tile column) fun u => u.takeInvalidateKey tag form tile column)

/-- CACHE_INVALIDATE, all form (R60, R65). -/
def execCacheInvalidateAll (tag : Byte) (tick : Nat) (s : State) : Host.Outcome State Fault Refusal :=
  .next ((s.at tick).present (commandFrame tag 0x32 1 0 0) fun u => u.takeInvalidateAll tag)

/-- CACHE_QUERY (R60, R66). -/
def execCacheQuery (tag slot : Byte) (tick : Nat) (s : State) : Host.Outcome State Fault Refusal :=
  .next ((s.at tick).present (commandFrame tag 0x33 slot 0 0) fun u => u.takeCacheQuery tag slot)

end Sys2Proof.Machine
end

