-- ==== Sys2Proof/Machine/FetchRows.lean ====
section
/-! DEFINITION. Machine/FetchRows.lean: the rows of the column fetch unit (R74 to R82). -/

namespace Sys2Proof.Machine

/-- COLUMN_DATA (R74 to R82). -/
def execColumnData (sg : Segment) (tick : Nat) (s : State) : Host.Outcome State Fault Refusal :=
  .next ((s.at tick).present (columnDataFrame sg) fun u => u.takeSegment sg)

/-- FILL_EXPIRY (R79, R80). -/
def execFillExpiry (tick : Nat) (s : State) : Host.Outcome State Fault Refusal :=
  .next (s.at tick).fillExpiry

end Sys2Proof.Machine
end

