-- ==== Sys2Proof/Machine/HeadRows.lean ====
section
/-! DEFINITION. Machine/HeadRows.lean: the rows of the head commands (R121 to R124, R138). -/

namespace Sys2Proof.Machine

/-- HEAD_STOP (R121, R122). -/
def execHeadStop (tag head : Byte) (tick : Nat) (s : State) : Host.Outcome State Fault Refusal :=
  .next ((s.at tick).present (commandFrame tag 0x10 head 0 0) fun u => u.takeHeadStop tag head)

/-- HEAD_ABORT (R121, R123). -/
def execHeadAbort (tag head : Byte) (tick : Nat) (s : State) : Host.Outcome State Fault Refusal :=
  .next ((s.at tick).present (commandFrame tag 0x11 head 0 0) fun u => u.takeHeadAbort tag head)

/-- HEAD_RESUME (R121, R124). -/
def execHeadResume (tag head : Byte) (tick : Nat) (s : State) : Host.Outcome State Fault Refusal :=
  .next ((s.at tick).present (commandFrame tag 0x12 head 0 0) fun u => u.takeHeadResume tag head)

/-- TRIP_CLEAR (R138). -/
def execTripClear (tag head : Byte) (tick : Nat) (s : State) : Host.Outcome State Fault Refusal :=
  .next ((s.at tick).present (commandFrame tag 0x13 head 0 0) fun u => u.takeTripClear tag head)

end Sys2Proof.Machine
end

