-- ==== Sys2Proof/Machine/JobRows.lean ====
section
/-! DEFINITION. Machine/JobRows.lean: the rows of reset and of the job commands (R142 to R153, R163). -/

namespace Sys2Proof.Machine

/-- The state that RESET_N leaves: every power-on value, with the input pins as they stand; the tick and the queue of commands
are not the part's own (assumption 8). -/
def State.powerOn (s : State) (pins : PortPins) (indexPin : Bool) : State :=
  { State.reset with
    stu := Spindle.reset indexPin
    ports := Vector.ofFn fun h : Head => Port.reset (pins.fault.getLsbD h) (pins.stepDone.getLsbD h)
    now := s.now
    pending := s.pending }

/-- POWER_ON_RESET (R163, and the reset values of every chapter). -/
def execPowerOnReset (pins : PortPins) (indexPin : Bool) (tick : Nat) (s : State) :
    Host.Outcome State Fault Refusal :=
  .next ((s.at tick).powerOn pins indexPin)

/-- JOB_ARM (R143). -/
def execJobArm (tag : Byte) (tick : Nat) (s : State) : Host.Outcome State Fault Refusal :=
  .next ((s.at tick).present (commandFrame tag 0x01 0 0 0) fun u => u.takeJobArm tag)

/-- JOB_START (R144, R145). -/
def execJobStart (tag : Byte) (tick : Nat) (s : State) : Host.Outcome State Fault Refusal :=
  .next ((s.at tick).present (commandFrame tag 0x02 0 0 0) fun u => u.takeJobStart tag)

/-- JOB_HALT (R146). -/
def execJobHalt (tag : Byte) (tick : Nat) (s : State) : Host.Outcome State Fault Refusal :=
  .next ((s.at tick).present (commandFrame tag 0x03 0 0 0) fun u => u.takeJobHalt tag)

/-- JOB_ABORT (R148). -/
def execJobAbort (tag : Byte) (tick : Nat) (s : State) : Host.Outcome State Fault Refusal :=
  .next ((s.at tick).present (commandFrame tag 0x04 0 0 0) fun u => u.takeJobAbort tag)

/-- JOB_CLEAR (R151). -/
def execJobClear (tag : Byte) (tick : Nat) (s : State) : Host.Outcome State Fault Refusal :=
  .next ((s.at tick).present (commandFrame tag 0x05 0 0 0) fun u => u.takeJobClear tag)

/-- SOFT_RESET (R152, R153). -/
def execSoftReset (tag : Byte) (tick : Nat) (s : State) : Host.Outcome State Fault Refusal :=
  .next ((s.at tick).present (commandFrame tag 0x06 0 0 0) fun u => u.softReset tag)

end Sys2Proof.Machine
end

