-- ==== Sys2Proof/Machine/LinkRows.lean ====
section
/-! DEFINITION. Machine/LinkRows.lean: the rows of the tone link (R165 to R174, R184). -/

namespace Sys2Proof.Machine

/-- UNKNOWN_FRAME (R169). -/
def execUnknownFrame (f : Frame) (tick : Nat) (s : State) : Host.Outcome State Fault Refusal :=
  .next ((s.at tick).present (f) fun u => u.takeInbound (decodeFrame f))

/-- MALFORMED_FRAME (R184). -/
def execMalformedFrame (f : Frame) (tick : Nat) (s : State) : Host.Outcome State Fault Refusal :=
  .next ((s.at tick).present (f) fun u => u.takeInbound (decodeFrame f))

/-- FRAME_RECEIVED (R167, R168). -/
def execFrameReceived (bytes : List Byte) (tick : Nat) (s : State) : Host.Outcome State Fault Refusal :=
  .next ((s.at tick).receiveFrame bytes)

/-- LINK_TRAINING (R165). -/
def execLinkTraining (tick : Nat) (s : State) : Host.Outcome State Fault Refusal :=
  .next (s.at tick).train

/-- FRAMING_ACQUIRED (R165, R166). -/
def execFramingAcquired (tick : Nat) (s : State) : Host.Outcome State Fault Refusal :=
  .next (s.at tick).acquireFraming

/-- LINK_LOSS (R165, R166). -/
def execLinkLoss (lastIdle : Nat) (tick : Nat) (s : State) : Host.Outcome State Fault Refusal :=
  .next ((s.at tick).linkLoss lastIdle)

/-- TRANSMISSION_END (R174). -/
def execTransmissionEnd (tick : Nat) (s : State) : Host.Outcome State Fault Refusal :=
  .next (s.at tick).endTransmission

end Sys2Proof.Machine
end

