-- ==== Sys2Proof/Machine/PortRows.lean ====
section
/-! DEFINITION. Machine/PortRows.lean: the rows of the head port inputs (R133 to R135). -/

namespace Sys2Proof.Machine

/-- STEP_DONE (R116, R133, R134). -/
def execStepDone (head : Head) (held : Nat) (tick : Nat) (s : State) : Host.Outcome State Fault Refusal :=
  .next ((s.at tick).stepDoneActive head held)

/-- FAULT_EDGE (R134, R135). -/
def execFaultEdge (head : Head) (held : Nat) (tick : Nat) (s : State) : Host.Outcome State Fault Refusal :=
  .next ((s.at tick).faultActive head held)

/-- FAULT_RELEASE (R134). -/
def execFaultRelease (head : Head) (held : Nat) (tick : Nat) (s : State) : Host.Outcome State Fault Refusal :=
  .next ((s.at tick).faultInactive head held)

/-- STEP_DONE_RELEASE (R133, R134). -/
def execStepDoneRelease (head : Head) (held : Nat) (tick : Nat) (s : State) : Host.Outcome State Fault Refusal :=
  .next ((s.at tick).stepDoneInactive head held)

end Sys2Proof.Machine
end

