-- ==== Sys2Proof/Machine/Spindle.lean ====
section
/-! DEFINITION. Machine/Spindle.lean: spindle timing (05_spindle_timing_and_cell_strobes.md): index arrivals, the spindle
state, short revolutions, the index timeout and the cell strobes. -/

namespace Sys2Proof.Machine

/-! ## The measurement (R88 to R93) -/

/-- The period is in tolerance, in exact integer arithmetic (R88). -/
def State.inTolerance (s : State) (p : Nat) : Bool :=
  decide (((p : Int) - (s.nominal : Int)).natAbs * 1000 ≤ s.tolerance * s.nominal)

/-- The ring cleared, and P_avg with it (R90, R93). -/
def Spindle.clearRing (u : Spindle) : Spindle :=
  { u with ring := Vector.replicate 4 none, writePtr := 0, valid := 0, pAvg := 0 }

/-- Store a period in the slot that the write pointer names (R90, R91). -/
def Spindle.store (u : Spindle) (p : Nat) : Spindle :=
  { u with ring := u.ring.set u.writePtr (some p), writePtr := u.writePtr + 1, valid := min (u.valid + 1) 4 }

/-- The sum of the stored periods div 4 (R93). -/
def Spindle.average (u : Spindle) : Nat := (u.ring.toList.map fun p => p.getD 0).sum / 4

/-- P_avg formed anew (R93). -/
def Spindle.form (u : Spindle) : Spindle := { u with pAvg := u.average }

/-- An index arrival in MEASURING (R90). -/
def Spindle.measuring (u : Spindle) (p : Nat) (ok : Bool) : Spindle :=
  if ok then
    let v := u.store p
    if v.valid = 4 then { v.form with state := .locked } else v
  else u.clearRing

/-- An index arrival in LOCKED (R91). -/
def Spindle.lockedIndex (u : Spindle) (p : Nat) (ok : Bool) : Spindle :=
  let v := (u.store p).form
  if ok then v else { v with run := 0, state := .offSpeed }

/-- An index arrival in OFF_SPEED (R92). -/
def Spindle.offSpeedIndex (u : Spindle) (p : Nat) (ok : Bool) : Spindle :=
  let v := (u.store p).form
  if ok then
    let run := min (u.run + 1) 4
    { v with run := run, state := if run = 4 then .locked else .offSpeed }
  else { v with run := 0 }

/-- What an index arrival makes of the measurement, with the period it ends and that period's test (R88 to R92). -/
def Spindle.arrive (u : Spindle) (now p : Nat) (ok : Bool) : Spindle :=
  let v := match u.state with
    | .noSignal => { u.clearRing with state := .measuring }
    | .measuring => u.measuring p ok
    | .locked => u.lockedIndex p ok
    | .offSpeed => u.offSpeedIndex p ok
  { v with tPrev := some now }

/-- The spindle state after an arrival begins a strobed revolution (R95). -/
def SpindleState.strobes (x : SpindleState) : Bool := x == .locked || x == .offSpeed

/-- The period that an arrival ends; none is measured in NO_SIGNAL, where T_prev is absent (R88). -/
def State.period (s : State) : Nat := s.now - s.stu.tPrev.getD s.now

/-- The STU measures the period, moves its state and sets the revolution record (R88 to R96). -/
def State.measureIndex (s : State) : State :=
  let v := s.stu.arrive s.now s.period (s.inTolerance s.period)
  { s with stu := { v with
      rev := if v.state.strobes
        then some { tIdx := s.now, period := v.pAvg, cells := s.cells, posA := 0, posB := 0 } else none } }

/-! ## Short revolutions (R100) -/

/-- Cells of phase A not yet strobed. -/
def Revolution.undueA (r : Revolution) : Nat := r.cells - r.posA

/-- Cells of phase B not yet strobed. -/
def Revolution.undueB (r : Revolution) : Nat := r.cells - r.posB

/-- Cells not yet strobed, summed over both phases. -/
def Revolution.undue (r : Revolution) : Nat := r.undueA + r.undueB

/-- The cells of the revolution in progress not yet strobed; 0 when none is strobed (R94). -/
def State.undueCells (s : State) : Nat :=
  match s.stu.rev with
  | none => 0
  | some r => r.undue

/-- The notice of a short revolution: TPL ends the tracks of the heads on a phase that dropped cells (R119). It takes the
heads in the order 0 to 7: DESIGN CHOICE (assumption 29). -/
def State.shortNotice (s : State) (r : Revolution) : State :=
  s.eachHead fun h t =>
    t.withCheck h (State.shortRevHead (decide (0 < r.undueA)) (decide (0 < r.undueB)) h)

/-- A revolution that ends with undue cells: SHORT_REV is raised and its action taken, and TPL has the notice (R100). -/
def State.endRevolution (s : State) : State :=
  match s.stu.rev with
  | none => s
  | some r =>
    if r.undue = 0 then s
    else (s.within fun u => u.raisePlain .shortRev (plainDetail r.undue)).shortNotice r

/-! ## The index arrival (R95) -/

/-- JCU is passed a change of the spindle state (R149). -/
def State.passSpindle (before : SpindleState) (s : State) : State :=
  if s.stu.state ≠ before ∧ (s.stu.state = .offSpeed ∨ s.stu.state = .noSignal) ∧ s.jcu.state.inMotion = true
  then s.within State.faultJob else s

/-- The spindle event that an arrival raises, if it moved the state so (Table 5.3). -/
def State.raiseSpindle (before : SpindleState) (p : Nat) (s : State) : State :=
  if s.stu.state = before then s
  else match s.stu.state with
    | .locked => s.within fun u => u.raisePlain .spinLocked (plainDetail u.stu.pAvg)
    | .offSpeed => s.within fun u => u.raisePlain .spinOffSpeed (plainDetail p)
    | .measuring => s
    | .noSignal => s

/-- What TLM, TPL and the head ports do at an index, in that order (R161, R118, R129, R106). -/
def State.serveIndex (s : State) : State :=
  (((s.within fun u => u.applyPending .index).eachHead fun h t => t.withCheck h (State.indexHead h)).eachHead
    State.setPhase).planningPass

/-- One index arrival. The actions of the occurrences that TPL raises, those of the short-revolution notice included, are
taken at the end (R95, R100, R150). -/
def State.indexArrival (s : State) : State :=
  s.within fun u =>
    let v := u.endRevolution
    ((v.measureIndex.passSpindle v.stu.state).raiseSpindle v.stu.state v.period).serveIndex

/-- The levels of the index input, before and after the filter, once the input has been inactive for `low` ticks and then
active for `held` ticks (R88, assumption 5). -/
def Spindle.takeLevels (u : Spindle) (low held : Nat) : Spindle :=
  { u with
    index := (u.index && !levelTaken low) || levelTaken held
    indexPin := decide (0 < held) || (u.indexPin && low == 0) }

/-- The filtered level of the index input changes from inactive to active (R88). -/
def Spindle.rises (u : Spindle) (low held : Nat) : Bool := levelTaken held && !(u.index && !levelTaken low)

/-- The index input has been inactive for `low` ticks and has held the active level for `held` ticks since: a change of the
filtered level from inactive to active is one index arrival (R88). The tick of the arrival is the row's, also where the level
has been held for more than the 4 ticks: DESIGN CHOICE (assumption 5). -/
def State.indexInput (s : State) (low held : Nat) : State :=
  let t := { s with stu := s.stu.takeLevels low held }
  if s.stu.rises low held then t.indexArrival else t

/-! ## The index timeout (R94) -/

/-- The time since T_prev is greater than 2 × P_nom, in a state that has a T_prev. -/
def State.timedOut (s : State) : Bool :=
  match s.stu.tPrev with
  | none => false
  | some t => s.stu.state != .noSignal && decide (2 * s.nominal < s.now - t)

/-- The STU after a timeout. -/
def Spindle.silence (u : Spindle) : Spindle := { u.clearRing with state := .noSignal, tPrev := none, rev := none }

/-- The index timeout, where it has occurred: the job is faulted, and SPIN_NO_SIGNAL carries the cells dropped
(R94, R149). -/
def State.indexTimeout (s : State) : State :=
  if s.timedOut then
    ({ s with stu := s.stu.silence }.passSpindle s.stu.state).within fun u =>
      u.raisePlain .spinNoSignal (plainDetail s.undueCells)
  else s

/-! ## Cell strobes (R97 to R99) -/

/-- The due time of cell `i` on a phase (R97). -/
def Revolution.due (r : Revolution) (ph : Phase) (i : Nat) : Nat :=
  match ph with
  | .a => r.tIdx + i * r.period / r.cells
  | .b => r.tIdx + (2 * i + 1) * r.period / (2 * r.cells)

/-- The next-cell position of a phase. -/
def Revolution.pos (r : Revolution) : Phase → Nat
  | .a => r.posA
  | .b => r.posB

/-- The next-cell position of a phase advanced by 1 (R98). -/
def Revolution.advance (r : Revolution) : Phase → Revolution
  | .a => { r with posA := r.posA + 1 }
  | .b => { r with posB := r.posB + 1 }

/-- The revolution whose next cell of the phase has fallen due (R98, R99). -/
def State.dueRevolution (s : State) (ph : Phase) : Option Revolution :=
  match s.stu.rev with
  | none => none
  | some r => if r.pos ph < r.cells ∧ r.due ph (r.pos ph) ≤ s.now then some r else none

/-- The strobe of the next cell of a phase, offered to all eight heads; before its due time, and once the phase has strobed
its last cell, there is none (R98, R99). The heads take it in the order 0 to 7: DESIGN CHOICE (assumption 24). -/
def State.cellStrobe (s : State) (ph : Phase) : State :=
  match s.dueRevolution ph with
  | none => s
  | some r =>
    ({ s with stu := { s.stu with rev := some (r.advance ph) } }).within fun u =>
      u.eachHead (State.strobeHead ph (r.pos ph))

end Sys2Proof.Machine
end

