-- ==== Sys2Proof/Machine/SpindleRows.lean ====
section
/-! DEFINITION. Machine/SpindleRows.lean: the rows of the spindle timing unit (R88 to R100). -/

namespace Sys2Proof.Machine

/-- INDEX (R88 to R96, R100). -/
def execIndex (levels : IndexLevels) (tick : Nat) (s : State) : Host.Outcome State Fault Refusal :=
  .next ((s.at tick).indexInput levels.low levels.held)

/-- INDEX_TIMEOUT (R94). -/
def execIndexTimeout (tick : Nat) (s : State) : Host.Outcome State Fault Refusal :=
  .next (s.at tick).indexTimeout

/-- CELL_STROBE (R97 to R99, R26, R130). -/
def execCellStrobe (phase : Phase) (tick : Nat) (s : State) : Host.Outcome State Fault Refusal :=
  .next ((s.at tick).cellStrobe phase)

end Sys2Proof.Machine
end

