-- ==== Sys2Proof/Machine/TableRows.lean ====
section
/-! DEFINITION. Machine/TableRows.lean: the rows of the table memory (R155 to R160). -/

namespace Sys2Proof.Machine

/-- COMMIT (R160). -/
def execCommit (tag gradMask calMask : Byte) (tick : Nat) (s : State) : Host.Outcome State Fault Refusal :=
  .next ((s.at tick).present (commandFrame tag 0x20 gradMask (calMask.setWidth 16) 0) fun u => u.takeCommit tag gradMask calMask)

/-- TABLE_WRITE (R155, R156). -/
def execTableWrite (tag kind copy : Byte) (start : Item) (items : Items) (tick : Nat) (s : State) : Host.Outcome State Fault Refusal :=
  .next ((s.at tick).present (tableWriteFrame tag kind copy start items) fun u => u.tableWrite tag kind copy start items)

/-- TABLE_WRITE to TILE (R67, R155, R156). -/
def execTileWrite (tag copy : Byte) (start : Item) (items : Items) (tick : Nat) (s : State) : Host.Outcome State Fault Refusal :=
  .next ((s.at tick).present (tableWriteFrame tag 0x03 copy start items) fun u => u.tableWrite tag 0x03 copy start items)

/-- TABLE_WRITE to WEAR (R42, R155, R156). -/
def execWearWrite (tag copy : Byte) (start : Item) (items : Items) (tick : Nat) (s : State) : Host.Outcome State Fault Refusal :=
  .next ((s.at tick).present (tableWriteFrame tag 0x0A copy start items) fun u => u.tableWrite tag 0x0A copy start items)

/-- TABLE_WRITE to ROUTE (R155, R156, R178). -/
def execRouteWrite (tag copy : Byte) (start : Item) (items : Items) (tick : Nat) (s : State) : Host.Outcome State Fault Refusal :=
  .next ((s.at tick).present (tableWriteFrame tag 0x0B copy start items) fun u => u.tableWrite tag 0x0B copy start items)

/-- TABLE_READ (R158). -/
def execTableRead (tag kind copy : Byte) (start count : Item) (tick : Nat) (s : State) : Host.Outcome State Fault Refusal :=
  .next ((s.at tick).present (tableReadFrame tag kind copy start count) fun u => u.tableRead tag kind copy start count)

end Sys2Proof.Machine
end

