-- ==== Sys2Proof/Machine/Dispatch.lean ====
section
/-! DEFINITION. Machine/Dispatch.lean: one arm per command of the table. -/

namespace Sys2Proof.Machine

def exec (i : Instr) (s : State) : Host.Outcome State Fault Refusal :=
  match i with
  | .powerOnReset pins indexPin tick => Sys2Proof.Machine.execPowerOnReset pins indexPin tick s
  | .jobArm tag tick => Sys2Proof.Machine.execJobArm tag tick s
  | .jobStart tag tick => Sys2Proof.Machine.execJobStart tag tick s
  | .jobHalt tag tick => Sys2Proof.Machine.execJobHalt tag tick s
  | .jobAbort tag tick => Sys2Proof.Machine.execJobAbort tag tick s
  | .jobClear tag tick => Sys2Proof.Machine.execJobClear tag tick s
  | .softReset tag tick => Sys2Proof.Machine.execSoftReset tag tick s
  | .headStop tag head tick => Sys2Proof.Machine.execHeadStop tag head tick s
  | .headAbort tag head tick => Sys2Proof.Machine.execHeadAbort tag head tick s
  | .headResume tag head tick => Sys2Proof.Machine.execHeadResume tag head tick s
  | .tripClear tag head tick => Sys2Proof.Machine.execTripClear tag head tick s
  | .commit tag gradMask calMask tick => Sys2Proof.Machine.execCommit tag gradMask calMask tick s
  | .cacheLock tag tile column tick => Sys2Proof.Machine.execCacheLock tag tile column tick s
  | .cacheUnlock tag tile column tick => Sys2Proof.Machine.execCacheUnlock tag tile column tick s
  | .cacheInvalidateKey tag form tile column tick => Sys2Proof.Machine.execCacheInvalidateKey tag form tile column tick s
  | .cacheInvalidateAll tag tick => Sys2Proof.Machine.execCacheInvalidateAll tag tick s
  | .cacheQuery tag slot tick => Sys2Proof.Machine.execCacheQuery tag slot tick s
  | .tableWrite tag kind copy start items tick => Sys2Proof.Machine.execTableWrite tag kind copy start items tick s
  | .tileWrite tag copy start items tick => Sys2Proof.Machine.execTileWrite tag copy start items tick s
  | .wearWrite tag copy start items tick => Sys2Proof.Machine.execWearWrite tag copy start items tick s
  | .routeWrite tag copy start items tick => Sys2Proof.Machine.execRouteWrite tag copy start items tick s
  | .tableRead tag kind copy start count tick => Sys2Proof.Machine.execTableRead tag kind copy start count tick s
  | .columnData sg tick => Sys2Proof.Machine.execColumnData sg tick s
  | .fillExpiry tick => Sys2Proof.Machine.execFillExpiry tick s
  | .unknownFrame f tick => Sys2Proof.Machine.execUnknownFrame f tick s
  | .malformedFrame f tick => Sys2Proof.Machine.execMalformedFrame f tick s
  | .frameReceived bytes tick => Sys2Proof.Machine.execFrameReceived bytes tick s
  | .linkTraining tick => Sys2Proof.Machine.execLinkTraining tick s
  | .framingAcquired tick => Sys2Proof.Machine.execFramingAcquired tick s
  | .linkLoss lastIdle tick => Sys2Proof.Machine.execLinkLoss lastIdle tick s
  | .transmissionEnd tick => Sys2Proof.Machine.execTransmissionEnd tick s
  | .index levels tick => Sys2Proof.Machine.execIndex levels tick s
  | .indexTimeout tick => Sys2Proof.Machine.execIndexTimeout tick s
  | .cellStrobe phase tick => Sys2Proof.Machine.execCellStrobe phase tick s
  | .stepDone head held tick => Sys2Proof.Machine.execStepDone head held tick s
  | .faultEdge head held tick => Sys2Proof.Machine.execFaultEdge head held tick s
  | .faultRelease head held tick => Sys2Proof.Machine.execFaultRelease head held tick s
  | .stepDoneRelease head held tick => Sys2Proof.Machine.execStepDoneRelease head held tick s

end Sys2Proof.Machine
end

