-- ==== Sys2Proof/Safety.lean ====
section
/-! DEFINITION. Safety.lean: what the claims about the GC8 are stated with: when a presented frame is taken at once, and the
invariants that every step keeps. -/

namespace Sys2Proof.Machine

/-! ## Taking a presented frame at once -/

/-- A frame presented now is dispatched and taken by its owner in one event, and no FLOW frame arises: no pause is in force,
TLM has no read in progress, the frame's answer has room, and the frame stands at the head of the buffer, the frames behind
it below the high watermark; or the buffer is empty and the frame has just crossed the lane, in UP, with no frame in
reception (R165 to R171). -/
def State.takes (s : State) (f : Frame) : Prop :=
  s.lnk.hold = false ∧ s.blocked (decodeFrame f) = false ∧
    match s.lnk.inbound with
    | [] => s.lnk.state = .up ∧ s.lnk.reception = none ∧ f.payload.length ≤ 1056 ∧ f.size < s.highMark
    | g :: rest => decodeFrame g = decodeFrame f ∧ (s.lnk.state = .up → (rest.map Frame.size).sum < s.highMark)

/-- The state in which the owner of such a frame takes it, at a tick: a frame that stood at the head of the buffer has left it;
a frame that has just crossed the lane has shown valid symbols there (R165, R169). -/
def State.taken (s : State) (tick : Nat) : State :=
  match s.lnk.inbound with
  | [] => { s.at tick with lnk := { s.lnk with lastSymbol := max s.lnk.lastSymbol (max s.now tick) } }
  | _ :: rest => { s.at tick with lnk := { s.lnk with inbound := rest } }

/-- No event kind has a routing action, as after power-on (R163, R176). -/
def State.noActions (s : State) : Prop := ∀ k : EventKind, s.routeAction k = .none

/-- The part goes on by itself for a number of steps, with no command waiting (assumption 1). -/
def State.goOn : Nat → State → State
  | 0, s => s
  | n + 1, s => State.goOn n s.advance

/-! ## A planning pass -/

/-- A slot written into record `j` of a head's queue (R51). -/
def State.named (s : State) (h : Head) (j : Nat) (k : Key) (n : Fin 64) : State :=
  { s with
    heads := s.heads.set h
      { s.heads[h] with queue := s.heads[h].queue.modify j fun r => { r with body := .image k (some n) } } }

/-- `id` is the first request id from a counter on that no entry holds: the counter after `m` advances, with every id before it
held (R71). A list of 16 entries at most is searched. -/
def FirstFreeId (held : List Byte) (counter id : Byte) : Prop :=
  ∃ m ≤ Config.requestEntries, id = nextId^[m] counter ∧ (∀ i < m, nextId^[i] counter ∈ held) ∧
    (m < Config.requestEntries → id ∉ held)

/-- What a planning pass makes of record `j` of a head's queue (R108): a MARGIN record and one that names a slot are left; of
an unresolved one the key is looked up.
On a hit the slot is pinned, its set's LRU mark names the other way, and the record names it (R51, R53).
On a miss with an entry free and a victim, the victim is allocated to the key with one pin, its entry is created under the
first id free, and its COLUMN_REQUEST is queued (R55, R71, R72).
On a miss with no entry free nothing happens, and with no victim CACHE_CONFLICT is raised for the head. -/
def State.Served (s : State) (h : Head) (j : Nat) (t : State) : Prop :=
  ∀ r, s.heads[h].queue[j]? = some r →
    (∀ tone, r.body = .margin tone → t = s) ∧ (∀ k n, r.body = .image k (some n) → t = s) ∧
    ∀ k, r.body = .image k none →
      let marked (n : Fin 64) (sl : Slot) : Cache :=
        { s.cca with slots := s.cca.slots.set n sl, lru := s.cca.lru.set (setOfSlot n) (wayOfSlot n).other }
      (∀ n, s.lookup k = some n →
        t = ({ s with cca := marked n { s.cca.slots[n] with pins := s.cca.slots[n].pins + 1 } }).named h j k n) ∧
      (s.lookup k = none → Config.requestEntries ≤ s.cfu.requests.length → t = s) ∧
      (s.lookup k = none → s.cfu.requests.length < Config.requestEntries →
        (s.victim (keySet k) = none →
          t = s.raiseHead h .cacheConflict (conflictDetail (keySet k).val k.tile.val k.column.val)) ∧
        ∀ n, s.victim (keySet k) = some n →
          ∃ id, FirstFreeId (s.cfu.requests.map Request.id) s.cfu.counter id ∧
            let length := tileLength s.tlm.tiles[k.tile]
            let entry : Request :=
              { id, key := k, slot := n, length, next := 0, received := 0, lock := false, active := s.now }
            let u : State :=
              { s with
                cca := marked n { state := .filling, key := some k, lock := false, pins := 1, fill := 0 }
                cfu := { requests := s.cfu.requests ++ [entry], counter := nextId id } }
            t = (u.queueRequest { id, tile := k.tile.val, column := k.column.val, length }).named h j k n)

/-- The records of a list are served one after the other, each on the state that the one before it has left (R108). -/
def State.ServedInOrder : List (Head × Nat) → State → State → Prop
  | [], s, t => t = s
  | (h, j) :: rest, s, t => ∃ u, s.Served h j u ∧ State.ServedInOrder rest u t

/-! ## A taken TABLE_WRITE -/

/-- What item `i` of an object holds once a run of items from `start` has been stored, each brought into its own range and those
past the object's end discarded, before the tests of the object's fields against one another (R156). -/
def putItem (k : ObjKind) (old : Items) (start : Nat) (items : Items) (i : Nat) : Item :=
  if start ≤ i ∧ i < start + items.length ∧ i < k.length
  then storedItem (k.rule i) (items.getD (i - start) 0) else old.getD i 0

/-- `o` is the object after a taken write of a run, and `changed` says whether a value was brought into range: each item is the
one put, but the 32-bit field judged on its whole value and the first of two ordered items brought down under the second
(R2, R44, R156). -/
def WriteStores (k : ObjKind) (old : Items) (start : Nat) (items : Items) (o : Items) (changed : Bool) : Prop :=
  let put := putItem k old start items
  let wide (w : Nat) : Nat := (put w).toNat + 65536 * (put (w + 1)).toNat
  o.length = k.length ∧
  (∀ i, (∀ w lo hi, k.wideField = some (w, lo, hi) → i ≠ w ∧ i ≠ w + 1) →
    (∀ a b gap, k.ordered = some (a, b, gap) → i ≠ a) → o.getD i 0 = put i) ∧
  (∀ w lo hi, k.wideField = some (w, lo, hi) → wideItem o w = max lo (min hi (wide w))) ∧
  (∀ a b gap, k.ordered = some (a, b, gap) → item o a = min (put a).toNat ((put b).toNat - gap)) ∧
  (changed = true ↔
    (∃ i < items.length, start + i < k.length ∧ k.rule (start + i) ≠ ItemRule.flag ∧
      storedItem (k.rule (start + i)) (items.getD i 0) ≠ items.getD i 0) ∨
    (∃ w lo hi, k.wideField = some (w, lo, hi) ∧ wideItem o w ≠ wide w) ∨
    ∃ a b gap, k.ordered = some (a, b, gap) ∧ item o a ≠ (put a).toNat)

/-- The COMMAND_REPLY to a taken write: PARTIAL_WRITE with the clamp mark where the run passes the object's end, and otherwise
CLAMPED or ACCEPTED, with the number of items stored (R156). -/
def takenReply (tag : Byte) (k : ObjKind) (start : Nat) (items : Items) (changed : Bool) : CommandReply :=
  let past := decide (k.length < start + items.length)
  { tag, kind := 0x02, code := 0, mark := past && changed
    result := if past then .partialWrite else if changed then .clamped else .accepted
    data := .stored (min items.length (k.length - start)) }

/-! ## Invariants -/

/-- The sample words are held in their canonical form. -/
def State.samplesCanonical (s : State) : Prop := samplesWf s.cca.samples = true

/-- Each set holds at most one locked slot, and every locked slot is RESIDENT (R61). -/
def State.oneLock (s : State) : Prop :=
  ∀ n : Fin 64, s.cca.slots[n].lock = true →
    s.cca.slots[n].state = .resident ∧ s.cca.slots[otherSlot n].lock = false

/-- The inbound buffer and the reply queues stay within their capacities, and a read in progress has its place in the
TABLE_DATA queue (R168, R170, R173). -/
def State.queuesFit (s : State) : Prop :=
  s.occupancy ≤ Config.bufferBytes ∧ s.lnk.replyQueue.length ≤ Config.replyPlaces ∧
    s.lnk.dataQueue.length ≤ Config.dataPlaces ∧
    (s.tlm.reading.isSome = true → s.lnk.dataQueue.length < Config.dataPlaces)

/-- No action is left due between commands (R150). -/
def State.actionsTaken (s : State) : Prop := s.evr.due = []

/-- A commit-pending mark is set only while the job is RUNNING or HALTING (R160, R162). -/
def State.marksInMotion (s : State) : Prop :=
  s.jcu.state.inMotion = false → s.tlm.gradPending = 0 ∧ s.tlm.calPending = 0

/-- The head states agree with the job state: all IDLE in IDLE, none WAITING, ENGRAVING, STOPPING or STALLED but in RUNNING
and HALTING, none of them but STOPPING in HALTING, a disabled head always IDLE, and a LATCHED head in one of those states
only while its FAULT level is inactive (R106, R136, R144, R146). -/
def State.headsAgree (s : State) : Prop :=
  ∀ h : Head,
    (s.jcu.state = .idle → s.heads[h].state = .idle) ∧
    (s.jcu.state.inMotion = false → s.heads[h].state.trips = false) ∧
    (s.jcu.state = .halting → s.heads[h].state.trips = true → s.heads[h].state = .stopping) ∧
    (s.enabled h = false → s.heads[h].state = .idle) ∧
    (s.perCell h = false → s.heads[h].state.trips = true → s.ports[h].fault = false)

/-- The request list and the FILLING slots answer to one another: at most 16 entries of distinct keys, the ids of requests
distinct, every entry's slot FILLING with its key in its key's set, every FILLING slot with its entry (R69, R71). -/
def State.fillsListed (s : State) : Prop :=
  s.cfu.requests.length ≤ Config.requestEntries ∧ s.cfu.counter ≠ 0 ∧
  (s.cfu.requests.map Request.key).Nodup ∧
  ((s.cfu.requests.map Request.id).filter (· ≠ 0)).Nodup ∧
  (∀ r ∈ s.cfu.requests, s.cca.slots[r.slot].state = .filling ∧ s.cca.slots[r.slot].key = some r.key ∧
    setOfSlot r.slot = keySet r.key) ∧
  ∀ n : Fin 64, s.cca.slots[n].state = .filling → ∃ r ∈ s.cfu.requests, r.slot = n

/-- The record names the slot (Table 6.1). -/
def TrackRecord.names (n : Fin 64) (r : TrackRecord) : Bool :=
  match r.body with
  | .image _ (some m) => m == n
  | .image _ none => false
  | .margin _ => false

/-- The pin count of every slot is the number of track records, in the eight head queues, that name it (R47, R52). -/
def State.pinsCounted (s : State) : Prop :=
  ∀ n : Fin 64, s.cca.slots[n].pins = (s.heads.toList.flatMap Channel.queue).countP (TrackRecord.names n)

/-- Every track queue holds at most 1 + lookahead records, and none while the job is IDLE (R103, R112). -/
def State.queuesBounded (s : State) : Prop :=
  ∀ h : Head, s.heads[h].queue.length ≤ 1 + s.lookahead ∧ (s.jcu.state = .idle → s.heads[h].queue = [])

/-- One item holds a value that its rule would store unchanged, and names a value of its select field. -/
def ItemRule.holds (r : ItemRule) (w : Item) : Prop := storedItem r w = w ∧ selectOk r w = true

/-- An object of a kind has its length and its fields in their ranges; C of LAYOUT is 0 until it is written
(Tables 1.1 to 1.4 and 2.3, R2, R44, R154). -/
def ObjKind.inRange (k : ObjKind) (o : Items) : Prop :=
  o.length = k.length ∧
  (∀ i < o.length, (k.rule i).holds (o.getD i 0) ∨ (k = .layout ∧ i = 0 ∧ o.getD i 0 = 0)) ∧
  (∀ i lo hi, k.wideField = some (i, lo, hi) → lo ≤ wideItem o i ∧ wideItem o i ≤ hi) ∧
  ∀ i j gap, k.ordered = some (i, j, gap) → item o i + gap ≤ item o j

/-- Every object that TLM holds is in its range. -/
def State.tablesInRange (s : State) : Prop :=
  ObjKind.layout.inRange s.tlm.layout ∧
  (∀ n : Fin 16, ObjKind.lane.inRange s.tlm.lanes[n]) ∧
  (∀ n : Fin 32, ObjKind.tile.inRange s.tlm.tiles[n]) ∧
  (∀ n : Fin 4, ObjKind.expand.inRange s.tlm.expands[n]) ∧
  (∀ n : Head, ObjKind.headSetup.inRange s.tlm.setups[n]) ∧
  (∀ n : Head, ObjKind.headCal.inRange s.tlm.cals[n]) ∧
  (∀ n : Head, ObjKind.headCal.inRange s.tlm.calsActive[n]) ∧
  (∀ n : Fin 8, ObjKind.grad.inRange s.tlm.grads[n]) ∧
  (∀ n : Fin 8, ObjKind.grad.inRange s.tlm.gradsActive[n]) ∧
  ObjKind.route.inRange s.tlm.route

end Sys2Proof.Machine
end

