-- ==== Sys2Proof/WellFormed.lean ====
section
/-! DEFINITION. WellFormed.lean: what a command of `Instr` must be for its row of the opcode table to be what it stands for. -/

namespace Sys2Proof

/-- The largest number of items a TABLE_WRITE frame can carry: 8 bytes and two for each item within the largest payload
of 1,056 (R167, Table 12.2). -/
def largestWrite : Nat := (Config.largestPayload - 8) / 2

/-- The largest number of sample words a COLUMN_DATA frame can carry (R183). -/
def largestSegment : Nat := (Config.largestPayload - 32) / 2

/-- The object kinds whose writes have a row of their own: TILE, WEAR and ROUTE (Table 12.6, R42, R67, R178). -/
def ownRow (kind : Byte) : Bool := [0x03, 0x0A, 0x0B].contains kind

/-- A command that stands for its row: a write fits its frame and goes to an object of its row, a segment fits its frame,
CACHE_INVALIDATE by key does not carry the all form, and a frame given whole is one of its row. -/
def Instr.wellFormed : Instr → Bool
  | .powerOnReset _ _ _ => true
  | .jobArm _ _ => true
  | .jobStart _ _ => true
  | .jobHalt _ _ => true
  | .jobAbort _ _ => true
  | .jobClear _ _ => true
  | .softReset _ _ => true
  | .headStop _ _ _ => true
  | .headAbort _ _ _ => true
  | .headResume _ _ _ => true
  | .tripClear _ _ _ => true
  | .commit _ _ _ _ => true
  | .cacheLock _ _ _ _ => true
  | .cacheUnlock _ _ _ _ => true
  | .cacheInvalidateKey _ form _ _ _ => form != 1
  | .cacheInvalidateAll _ _ => true
  | .cacheQuery _ _ _ => true
  | .tableWrite _ kind _ _ items _ => items.length ≤ largestWrite && !ownRow kind
  | .tileWrite _ _ _ items _ => items.length ≤ largestWrite
  | .wearWrite _ _ _ items _ => items.length ≤ largestWrite
  | .routeWrite _ _ _ items _ => items.length ≤ largestWrite
  | .tableRead _ _ _ _ _ _ => true
  | .columnData sg _ => sg.words.length ≤ largestSegment
  | .fillExpiry _ => true
  | .unknownFrame f _ => f.payload.length ≤ Config.largestPayload && f.unknown
  | .malformedFrame f _ => f.payload.length ≤ Config.largestPayload && f.malformed && !f.unknown
  | .frameReceived _ _ => true
  | .linkTraining _ => true
  | .framingAcquired _ => true
  | .linkLoss _ _ => true
  | .transmissionEnd _ => true
  | .index _ _ => true
  | .indexTimeout _ => true
  | .cellStrobe _ _ => true
  | .stepDone _ _ _ => true
  | .faultEdge _ _ _ => true
  | .faultRelease _ _ _ => true
  | .stepDoneRelease _ _ _ => true

end Sys2Proof
end

