-- ==== Sys2Proof/Certificates/Slice0/Obligations.lean ====
section
/-! DEFINITION. Obligations.lean: the claims about the GC8.
`s.at tick` is the state at the tick of the command (assumption 3), and a claim that says `exec … = .next x` says with it
that every part of the state that `x` does not write is unchanged. A claim about a row that is a downstream frame is stated
where that frame is taken at once (`State.takes`, assumption 4), and `s.taken tick` is then the state in which its owner
takes it; FramesWaitTheirTurn says what happens otherwise. -/

open Sys2Proof Sys2Proof.Machine

/-! ## Steps and reset -/

/-- A step takes the command at the front of the queue on the state that holds the rest of the queue. -/
def Obligations.StepTakesFrontCommand : Prop :=
  ∀ (c : Instr) (s : State), step { s with pending := c :: s.pending } = exec c s

/-- THE MODEL'S CHOICE (assumption 1), on R158, R169 and R170: with no command waiting and no read in progress, the
frame at the head of the inbound buffer is dispatched when its answer has room, and otherwise nothing changes; with a
read in progress, TLM takes its next items, as they stand now, and queues the TABLE_DATA with the last of them. -/
def Obligations.EmptyQueueDispatchesHeadFrame : Prop :=
  (∀ s : State, s.pending = [] → s.tlm.reading = none →
    (s.lnk.inbound = [] → step s = .next s) ∧
    ∀ f rest, s.lnk.inbound = f :: rest →
      (s.blocked (decodeFrame f) = true → step s = .next s) ∧
      (s.blocked (decodeFrame f) = false →
        step s = .next ((({ s with lnk := { s.lnk with inbound := rest } }).watermarkCheck).takeInbound (decodeFrame f)))) ∧
  ∀ (s : State) (r : Reading), s.pending = [] → s.tlm.reading = some r →
    let i := r.data.start.toNat + r.data.items.length
    let count := min (r.object.together i) (r.total - r.data.items.length)
    let more := (List.range count).map fun j => (s.objItems r.object r.data.copy.toNat).getD (i + j) 0
    let d : TableData := { r.data with items := r.data.items ++ more }
    (r.data.items.length + count < r.total →
      step s = .next { s with tlm := { s.tlm with reading := some { r with data := d } } }) ∧
    (r.total ≤ r.data.items.length + count →
      step s = .next (({ s with tlm := { s.tlm with reading := none } }).queueData d))

/-- THE MODEL'S CHOICE (assumption 4), on R165 and R168 to R171. The frame of a command row that does not stand at the
head of the buffer has just crossed the lane: in DOWN and TRAINING it is symbols alone, which take DOWN to TRAINING; in
UP it is stored at the tail with the watermark check, behind another frame or for want of room for its answer, and one
that does not fit is discarded with RX_OVERRUN. The frame of a row that stands at the head and is blocked stays there.
Nothing else changes. Stated of JOB_ARM, TABLE_WRITE, TABLE_READ and COLUMN_DATA, the four kinds of frame; the last of
them is not answered. -/
def Obligations.FramesWaitTheirTurn : Prop :=
  ∀ (s : State) (tag kind copy : Byte) (start count : Item) (items : Items) (sg : Segment) (tick : Nat),
    let u : State := { s.at tick with lnk := { s.lnk with lastSymbol := max s.lnk.lastSymbol (max s.now tick) } }
    let notHead (f : Frame) : Prop := ∀ g rest, s.lnk.inbound = g :: rest → decodeFrame g ≠ decodeFrame f
    let waits (i : Instr) (f : Frame) : Prop :=
      (notHead f →
        (s.lnk.state = .down → exec i s = .next { u with lnk := { u.lnk with state := .training } }) ∧
        (s.lnk.state = .training → exec i s = .next u) ∧
        (s.lnk.state = .up → s.lnk.reception = none → f.payload.length ≤ 1056 →
          s.lnk.inbound ≠ [] ∨ s.blocked (decodeFrame f) = true →
          (s.occupancy + f.size ≤ 32768 →
            exec i s = .next (({ u with lnk := { u.lnk with inbound := s.lnk.inbound ++ [f] } }).watermarkCheck)) ∧
          (32768 < s.occupancy + f.size →
            exec i s = .next (u.within fun v =>
              v.raisePlain .rxOverrun (rxOverrunDetail s.occupancy f.size f.kind.toNat))))) ∧
      ∀ g rest, s.lnk.inbound = g :: rest → decodeFrame g = decodeFrame f → s.blocked (decodeFrame f) = true →
        exec i s = .next (s.at tick)
    waits (.jobArm tag tick) (commandFrame tag 0x01 0 0 0) ∧
    waits (.tableWrite tag kind copy start items tick) (tableWriteFrame tag kind copy start items) ∧
    waits (.tableRead tag kind copy start count tick) (tableReadFrame tag kind copy start count) ∧
    waits (.columnData sg tick) (columnDataFrame sg)

/-- POWER_ON_RESET gives every block its power-on value from every state, and the filters take the levels of their
inputs (R88, R134, R163, Tables 3.1, 5.1, 6.2, 7.1, 8.1 and 10.1). That the tick is kept is the model's choice
(assumption 8). -/
def Obligations.PowerOnResetRestoresEveryBlock : Prop :=
  ∀ (faultPins stepDonePins : BitVec 8) (indexPin : Bool) (tick : Nat) (s : State),
    ∃ t : State, exec (.powerOnReset ⟨faultPins, stepDonePins⟩ indexPin tick) s = .next t ∧
      t.jcu = { state := .idle, validation := .empty } ∧ t.tlm = Tables.reset ∧
      t.tlm.layout = [0, 1, 16, 0, 0, 2, 8, 26816, 1144, 10, 50, 24576, 8192] ∧
      (t.stu.state = .noSignal ∧ t.stu.valid = 0 ∧ t.stu.writePtr = 0 ∧ t.stu.tPrev = none ∧ t.stu.run = 0 ∧
        t.stu.pAvg = 0 ∧ t.stu.rev = none ∧ t.stu.index = indexPin ∧ ∀ i : Fin 4, t.stu.ring[i] = none) ∧
      (∀ n : Fin 64, t.cca.slots[n] = { state := .empty, key := none, lock := false, pins := 0, fill := 0 }) ∧
      (∀ i : Fin 32, t.cca.lru[i] = .zero) ∧ t.cfu.requests = [] ∧ t.cfu.counter = 1 ∧
      (∀ h : Head, t.heads[h] = Channel.reset ∧ t.pipes[h] = Pipe.reset ∧
        t.ports[h].phase = .a ∧ t.ports[h].step = false ∧ t.ports[h].word = 0 ∧ t.ports[h].loads = 0 ∧
        t.ports[h].loadTick = none ∧
        t.ports[h].fault = faultPins.getLsbD h ∧ t.ports[h].stepDone = stepDonePins.getLsbD h) ∧
      (∀ k : Fin 23, t.evr.records[k] = none) ∧
      t.lnk.state = .down ∧ t.lnk.reception = none ∧ t.lnk.inbound = [] ∧ t.lnk.hold = false ∧
      t.lnk.flowQueue = none ∧ t.lnk.requestQueue = [] ∧ t.lnk.replyQueue = [] ∧ t.lnk.dataQueue = [] ∧
      t.lnk.sending = none ∧ t.now = max s.now tick ∧ t.pending = s.pending

/-- The invariants of this file hold right after reset. -/
def Obligations.ResetMeetsInvariants : Prop :=
  State.reset.samplesCanonical ∧ State.reset.oneLock ∧ State.reset.queuesFit ∧ State.reset.actionsTaken ∧
    State.reset.marksInMotion ∧ State.reset.headsAgree ∧ State.reset.fillsListed ∧ State.reset.tablesInRange ∧
    State.reset.pinsCounted ∧ State.reset.queuesBounded

/-! ## Job commands (chapter 8) -/

/-- A job command in a job state that does not take it is answered STATE, and JOB_START in a state that takes it is
answered SPINDLE while the spindle is not LOCKED. A head command or TRIP_CLEAR that names no head of 0 to 7 is answered
RANGE, and one that the head's state, the job state or the FAULT level does not admit is answered STATE. Nothing else
changes. -/
def Obligations.CommandsRefusedInWrongState : Prop :=
  (∀ (s : State) (tag : Byte) (tick : Nat),
    (s.takes (commandFrame tag 0x01 0 0 0) → s.jcu.state ≠ .idle →
      exec (.jobArm tag tick) s = .next ((s.taken tick).answer tag 0x01 .state)) ∧
    (s.takes (commandFrame tag 0x02 0 0 0) →
      s.jcu.state = .idle ∨ s.jcu.state = .running ∨ s.jcu.state = .halting ∨ s.jcu.state = .complete →
      exec (.jobStart tag tick) s = .next ((s.taken tick).answer tag 0x02 .state)) ∧
    (s.takes (commandFrame tag 0x02 0 0 0) →
      s.jcu.state = .ready ∨ s.jcu.state = .halted ∨ s.jcu.state = .faulted → s.stu.state ≠ .locked →
      exec (.jobStart tag tick) s = .next ((s.taken tick).answer tag 0x02 .spindle)) ∧
    (s.takes (commandFrame tag 0x03 0 0 0) → s.jcu.state ≠ .running →
      exec (.jobHalt tag tick) s = .next ((s.taken tick).answer tag 0x03 .state)) ∧
    (s.takes (commandFrame tag 0x04 0 0 0) → s.jcu.state ≠ .running → s.jcu.state ≠ .halting →
      exec (.jobAbort tag tick) s = .next ((s.taken tick).answer tag 0x04 .state)) ∧
    (s.takes (commandFrame tag 0x05 0 0 0) →
      s.jcu.state = .idle ∨ s.jcu.state = .running ∨ s.jcu.state = .halting →
      exec (.jobClear tag tick) s = .next ((s.taken tick).answer tag 0x05 .state)) ∧
    (s.takes (commandFrame tag 0x06 0 0 0) → s.jcu.state = .running ∨ s.jcu.state = .halting →
      exec (.softReset tag tick) s = .next ((s.taken tick).answer tag 0x06 .state))) ∧
  (∀ (s : State) (tag head : Byte) (tick : Nat), 7 < head.toNat →
    (s.takes (commandFrame tag 0x10 head 0 0) →
      exec (.headStop tag head tick) s = .next ((s.taken tick).answer tag 0x10 .range)) ∧
    (s.takes (commandFrame tag 0x11 head 0 0) →
      exec (.headAbort tag head tick) s = .next ((s.taken tick).answer tag 0x11 .range)) ∧
    (s.takes (commandFrame tag 0x12 head 0 0) →
      exec (.headResume tag head tick) s = .next ((s.taken tick).answer tag 0x12 .range)) ∧
    (s.takes (commandFrame tag 0x13 head 0 0) →
      exec (.tripClear tag head tick) s = .next ((s.taken tick).answer tag 0x13 .range))) ∧
  ∀ (s : State) (tag head : Byte) (h : Head) (tick : Nat), head.toNat = h.val →
    (s.takes (commandFrame tag 0x10 head 0 0) →
      s.heads[h].state ≠ .engraving → s.heads[h].state ≠ .waiting → s.heads[h].state ≠ .stalled →
      exec (.headStop tag head tick) s = .next ((s.taken tick).answer tag 0x10 .state)) ∧
    (s.takes (commandFrame tag 0x11 head 0 0) →
      s.heads[h].state ≠ .engraving → s.heads[h].state ≠ .stopping → s.heads[h].state ≠ .waiting →
      s.heads[h].state ≠ .stalled →
      exec (.headAbort tag head tick) s = .next ((s.taken tick).answer tag 0x11 .state)) ∧
    (s.takes (commandFrame tag 0x12 head 0 0) →
      s.jcu.state ≠ .running ∨ (s.heads[h].state ≠ .stopped ∧ s.heads[h].state ≠ .stalled) →
      exec (.headResume tag head tick) s = .next ((s.taken tick).answer tag 0x12 .state)) ∧
    (s.takes (commandFrame tag 0x13 head 0 0) →
      s.heads[h].state ≠ .tripped ∨ s.ports[h].fault = true →
      exec (.tripClear tag head tick) s = .next ((s.taken tick).answer tag 0x13 .state))

/-- JOB_ARM in IDLE that fails a check is answered INVALID with the reason and object number; only the validation outcome
changes. -/
def Obligations.JobArmReportsFirstFailedCheck : Prop :=
  ∀ (s : State) (tag : Byte) (tick : Nat) (reason : ArmReason) (object : Nat),
    s.takes (commandFrame tag 0x01 0 0 0) → s.jcu.state = .idle → s.armFailure = some (reason, object) →
      exec (.jobArm tag tick) s =
        .next ({ s.taken tick with jcu := { state := .idle, validation := .failed reason object } }.queueReply
          { tag, kind := 0x04, code := 0x01, result := .invalid, mark := false, data := .invalid reason object })

/-- JOB_ARM in IDLE that passes every check: the job is READY, each enabled head READY at its first track, every other
head IDLE, the defect lists and all six counters 0; the reply is queued before JOB_STATE is raised. That a disabled head
keeps its other fields is the model's reading (assumption 19). -/
def Obligations.JobArmArmsHeads : Prop :=
  ∀ (s : State) (tag : Byte) (tick : Nat),
    s.takes (commandFrame tag 0x01 0 0 0) → s.jcu.state = .idle → s.armFailure = none →
      let u := ((s.taken tick).answer tag 0x01 .accepted).raisePlain .jobState (jobStateDetail .idle .ready .arm)
      ∃ t : State, exec (.jobArm tag tick) s = .next t ∧
        t.jcu = { state := .ready, validation := .accepted } ∧
        (∀ h : Head, t.heads[h] =
          if s.enabled h then
            { s.heads[h] with
              state := .ready, nextTrack := s.firstTrack h, positioned := !s.ports[h].step, wait := 0, complete := false,
              defects := [], overflow := 0, tracksDone := 0, tracksDefective := 0, idleRevs := 0 }
          else
            { s.heads[h] with
              state := .idle, defects := [], overflow := 0, tracksDone := 0, tracksDefective := 0, idleRevs := 0 }) ∧
        (∀ h : Head, t.pipes[h] = { s.pipes[h] with engraved := 0, suppressed := 0, saturations := 0 }) ∧
        t.lnk = u.lnk ∧ t.evr.records = u.evr.records ∧
        t.tlm = s.tlm ∧ t.stu = s.stu ∧ t.cca = s.cca ∧ t.cfu = s.cfu ∧ t.ports = s.ports

/-- JOB_START accepted, with no routing action: READY and STOPPED heads become WAITING, raising an owed STEP, or FINISHED
with their range complete, or TRIPPED in LATCHED mode under an active FAULT; the job is RUNNING, or COMPLETE when every
enabled head is then FINISHED; tables, spindle, sample words and cell counters are unchanged. -/
def Obligations.JobStartStartsHeads : Prop :=
  ∀ (s : State) (tag : Byte) (tick : Nat),
    s.takes (commandFrame tag 0x02 0 0 0) →
    s.jcu.state = .ready ∨ s.jcu.state = .halted ∨ s.jcu.state = .faulted → s.stu.state = .locked →
    s.noActions → s.marksInMotion →
      ∃ t : State, exec (.jobStart tag tick) s = .next t ∧
        (∀ h : Head, t.heads[h].state =
          if s.heads[h].state = .ready ∨ s.heads[h].state = .stopped then
            if s.heads[h].complete then .finished
            else if s.perCell h = false ∧ s.ports[h].fault = true then .tripped
            else .waiting
          else s.heads[h].state) ∧
        (∀ h : Head, t.ports[h] =
          if (s.heads[h].state = .ready ∨ s.heads[h].state = .stopped) ∧ s.heads[h].complete = false ∧
              s.heads[h].positioned = false
          then { s.ports[h] with step := true } else s.ports[h]) ∧
        (∀ h : Head, s.heads[h].state = .idle ∨ s.heads[h].state = .tripped ∨ s.heads[h].state = .finished →
          t.heads[h] = s.heads[h]) ∧
        t.jcu.validation = s.jcu.validation ∧
        t.jcu.state =
          (if ∀ h : Head, s.enabled h = true → t.heads[h].state = .finished then .complete else .running) ∧
        t.tlm = s.tlm ∧ t.stu = s.stu ∧ t.cca.samples = s.cca.samples ∧
        ∀ h : Head, t.pipes[h].engraved = s.pipes[h].engraved ∧ t.pipes[h].suppressed = s.pipes[h].suppressed ∧
          t.pipes[h].saturations = s.pipes[h].saturations

/-- JOB_HALT in RUNNING, with no routing action: ENGRAVING heads become STOPPING, WAITING and STALLED heads STOPPED with
their PLANNED records removed, each of which unpins its slot once, other heads unchanged; the job is HALTING while a
head engraves, and otherwise goes on to COMPLETE or HALTED, which applies the pending commits. -/
def Obligations.JobHaltStopsHeads : Prop :=
  ∀ (s : State) (tag : Byte) (tick : Nat),
    s.takes (commandFrame tag 0x03 0 0 0) → s.jcu.state = .running → s.noActions →
      let planned (h : Head) : List TrackRecord :=
        if s.heads[h].state = .waiting ∨ s.heads[h].state = .stalled
        then s.heads[h].queue.filter fun r => !r.active else []
      ∃ t : State, exec (.jobHalt tag tick) s = .next t ∧
        (∀ h : Head, t.heads[h] =
          match s.heads[h].state with
          | .engraving => { s.heads[h] with state := .stopping }
          | .waiting => { s.heads[h] with state := .stopped, queue := s.heads[h].queue.filter fun r => r.active }
          | .stalled => { s.heads[h] with state := .stopped, queue := s.heads[h].queue.filter fun r => r.active }
          | _ => s.heads[h]) ∧
        t.jcu.validation = s.jcu.validation ∧
        (s.noneEngaged = false → t.jcu.state = .halting ∧ t.tlm = s.tlm) ∧
        (s.noneEngaged = true →
          t.jcu.state = (if s.allFinished then .complete else .halted) ∧
          t.tlm = s.tlm.copyShadows s.tlm.gradPending s.tlm.calPending) ∧
        (∀ n : Fin 64, t.cca.slots[n] =
          { s.cca.slots[n] with
            pins := s.cca.slots[n].pins - ((headOrder.flatMap planned).countP (TrackRecord.names n)) }) ∧
        t.cca.lru = s.cca.lru ∧ t.cca.samples = s.cca.samples ∧ t.stu = s.stu ∧ t.cfu = s.cfu ∧ t.pipes = s.pipes ∧
        t.ports = s.ports

/-- JOB_ABORT in RUNNING or HALTING, with no routing action: the job is HALTED, every head that was WAITING, ENGRAVING,
STOPPING or STALLED is STOPPED, every other head is unchanged, no STEP is raised, and the pending commits are applied. -/
def Obligations.JobAbortStopsEveryHead : Prop :=
  ∀ (s : State) (tag : Byte) (tick : Nat),
    s.takes (commandFrame tag 0x04 0 0 0) → s.jcu.state = .running ∨ s.jcu.state = .halting → s.noActions →
      ∃ t : State, exec (.jobAbort tag tick) s = .next t ∧
        t.jcu = { s.jcu with state := .halted } ∧
        (∀ h : Head,
          if s.heads[h].state.trips then t.heads[h].state = .stopped ∧ ∀ r ∈ t.heads[h].queue, r.active = true
          else t.heads[h] = s.heads[h] ∧ t.pipes[h] = s.pipes[h]) ∧
        t.tlm = s.tlm.copyShadows s.tlm.gradPending s.tlm.calPending ∧
        t.ports = s.ports ∧ t.stu = s.stu ∧ t.cfu = s.cfu ∧ t.cca.lru = s.cca.lru ∧ t.cca.samples = s.cca.samples

/-- JOB_CLEAR in READY, HALTED, COMPLETE or FAULTED: the job and every head are IDLE, every record is removed and unpins
its slot once, no wear term stays latched, and the tables, fills, ports, counters and the rest of the cache are kept.
That wait counts and range complete flags are kept is the model's reading (assumption 19). -/
def Obligations.JobClearEmptiesQueues : Prop :=
  ∀ (s : State) (tag : Byte) (tick : Nat),
    s.takes (commandFrame tag 0x05 0 0 0) →
    s.jcu.state = .ready ∨ s.jcu.state = .halted ∨ s.jcu.state = .complete ∨ s.jcu.state = .faulted →
      let u := ((s.taken tick).answer tag 0x05 .accepted).raisePlain .jobState (jobStateDetail s.jcu.state .idle .clear)
      ∃ t : State, exec (.jobClear tag tick) s = .next t ∧
        t.jcu = { s.jcu with state := .idle } ∧
        (∀ h : Head, t.heads[h] = { s.heads[h] with state := .idle, queue := [] }) ∧
        (∀ h : Head, t.pipes[h] = { s.pipes[h] with wearTerm := none }) ∧
        (∀ n : Fin 64, t.cca.slots[n] =
          { s.cca.slots[n] with
            pins := s.cca.slots[n].pins - ((s.heads.toList.flatMap Channel.queue).countP (TrackRecord.names n)) }) ∧
        t.cca.lru = s.cca.lru ∧ t.cca.samples = s.cca.samples ∧
        t.lnk = u.lnk ∧ t.evr.records = u.evr.records ∧
        t.tlm = s.tlm ∧ t.stu = s.stu ∧ t.cfu = s.cfu ∧ t.ports = s.ports

/-- SOFT_RESET outside RUNNING and HALTING: LNK's upstream queues are emptied, a waiting FLOW frame withdrawn, the reply
is then the one waiting or begins transmission, every block but TLM and the link returns to its reset values, and the
filters take the levels of their inputs; JOB_STATE with cause RESET is the one pending record when the job was not IDLE.
A TABLE_READ behind it that waited for the TABLE_DATA queue is dispatched in the same event. That the sample words stay
is the model's choice (assumption 6). -/
def Obligations.SoftResetRestoresBlocks : Prop :=
  ∀ (s : State) (tag : Byte) (tick : Nat),
    s.takes (commandFrame tag 0x06 0 0 0) → s.jcu.state ≠ .running → s.jcu.state ≠ .halting →
      let l : Link :=
        { (s.taken tick).lnk with
          hold := match s.lnk.flowQueue with | some waiting => !waiting | none => s.lnk.hold
          flowQueue := none, requestQueue := [], replyQueue := [], dataQueue := [], resetReply := .waiting }
      let u := ({ s.taken tick with lnk := l }).answer tag 0x06 .accepted
      let readWaits : Prop := 2 ≤ s.lnk.dataQueue.length ∧
        ∃ f rest tag kind copy start count, (s.taken tick).lnk.inbound = f :: rest ∧
          decodeFrame f = .tableRead tag kind copy start count
      ∃ t : State,
        (¬readWaits → exec (.softReset tag tick) s = .next t) ∧
        (readWaits → exec (.softReset tag tick) s = .next t.dispatchHead) ∧
        t.jcu = Job.reset ∧ t.stu = Spindle.reset s.stu.indexPin ∧ t.cfu = Fetch.reset ∧ t.lnk = u.lnk ∧
        (∀ n : Fin 64, t.cca.slots[n] = Slot.empty) ∧ (∀ i : Fin 32, t.cca.lru[i] = .zero) ∧
        t.cca.samples = s.cca.samples ∧
        (∀ h : Head, t.heads[h] = Channel.reset ∧ t.pipes[h] = Pipe.reset ∧
          t.ports[h] = Port.reset s.ports[h].faultPin s.ports[h].stepDonePin) ∧
        t.tlm = s.tlm ∧
        ∀ k : EventKind, t.evr.records[k.num] =
          if k = .jobState ∧ s.jcu.state ≠ .idle ∧ s.level .jobState ≠ 0
          then some { count := 1, mask := 0, detail := jobStateDetail s.jcu.state .idle .reset } else none

/-! ## Head commands (chapters 6 and 7) -/

/-- HEAD_STOP of an enabled head outside a HALTING job: an ENGRAVING head becomes STOPPING and nothing else changes; a
WAITING or STALLED head becomes STOPPED, and its PLANNED records are removed, each of which unpins its slot once; nothing
else changes. -/
def Obligations.HeadStopStopsHead : Prop :=
  ∀ (s : State) (tag head : Byte) (h : Head) (tick : Nat), head.toNat = h.val →
    s.takes (commandFrame tag 0x10 head 0 0) → s.jcu.state ≠ .halting → s.enabled h = true →
    let u := (s.taken tick).answer tag 0x10 .accepted
    let planned := s.heads[h].queue.filter fun r => !r.active
    (s.heads[h].state = .engraving →
      exec (.headStop tag head tick) s =
        .next { u with heads := s.heads.set h { s.heads[h] with state := .stopping } }) ∧
    (s.heads[h].state = .waiting ∨ s.heads[h].state = .stalled →
      exec (.headStop tag head tick) s =
        .next { u with
          cca := { s.cca with slots := Vector.ofFn fun n : Fin 64 =>
            { s.cca.slots[n] with pins := s.cca.slots[n].pins - planned.countP (TrackRecord.names n) } }
          heads := s.heads.set h
            { s.heads[h] with state := .stopped, queue := s.heads[h].queue.filter fun r => r.active } })

/-- HEAD_ABORT of an enabled head that engraves, outside a HALTING job and with no routing action: its track ends as
DEFECT with cause ABORTED, is counted and listed, owes its step without raising STEP, and the head is STOPPED with an
empty queue and no wear term; each record of the queue unpins its slot once. That the reply is queued before the head's
events are raised is the model's choice (assumption 27). -/
def Obligations.HeadAbortEndsTrackAtOnce : Prop :=
  ∀ (s : State) (tag head : Byte) (h : Head) (r : TrackRecord) (rest : List TrackRecord) (tick : Nat),
    head.toNat = h.val → s.takes (commandFrame tag 0x11 head 0 0) → s.jcu.state ≠ .halting → s.enabled h = true →
    s.noActions → s.heads[h].state = .engraving ∨ s.heads[h].state = .stopping →
    s.heads[h].queue = r :: rest → r.active = true → (∀ q ∈ rest, q.active = false) →
      let c := s.heads[h]
      let owed : Bool := decide (r.track < s.lastTrack h ∧ c.nextTrack = r.track)
      let room : Bool := decide (c.defects.length < 16)
      let u := (s.taken tick).answer tag 0x11 .accepted
      let v := if room then u else u.raiseHead h .defectListFull (defectDetail r.track .aborted)
      let w := v.raiseHead h .trackDefect (defectDetail r.track .aborted)
      ∃ t : State, exec (.headAbort tag head tick) s = .next t ∧
        t.heads = s.heads.set h
          { c with
            state := .stopped
            queue := []
            tracksDefective := satInc c.tracksDefective
            defects := if room then c.defects ++ [⟨r.track, .aborted⟩] else c.defects
            overflow := if room then c.overflow else satInc c.overflow
            complete := c.complete || decide (r.track = s.lastTrack h)
            nextTrack := if owed then r.track + 1 else c.nextTrack
            positioned := if owed then false else c.positioned } ∧
        t.pipes = s.pipes.set h { s.pipes[h] with wearTerm := none } ∧
        t.lnk = w.lnk ∧ t.evr.records = w.evr.records ∧
        (∀ n : Fin 64, t.cca.slots[n] =
          { s.cca.slots[n] with pins := s.cca.slots[n].pins - (r :: rest).countP (TrackRecord.names n) }) ∧
        t.cca.lru = s.cca.lru ∧ t.cca.samples = s.cca.samples ∧
        t.jcu = s.jcu ∧ t.tlm = s.tlm ∧ t.stu = s.stu ∧ t.cfu = s.cfu ∧ t.ports = s.ports

/-- HEAD_RESUME of an enabled STOPPED or STALLED head in a RUNNING job, with no routing action: WAITING with wait count 0
and an owed STEP raised, or TRIPPED in LATCHED mode under an active FAULT, or FINISHED with its range complete; the other
heads keep their states, and tables, spindle, sample words and the other ports are unchanged. -/
def Obligations.HeadResumeRestartsHead : Prop :=
  ∀ (s : State) (tag head : Byte) (h : Head) (tick : Nat), head.toNat = h.val →
    s.takes (commandFrame tag 0x12 head 0 0) → s.jcu.state = .running → s.enabled h = true → s.noActions →
    s.heads[h].state = .stopped ∨ s.heads[h].state = .stalled →
      ∃ t : State, exec (.headResume tag head tick) s = .next t ∧
        (s.heads[h].complete = true → t.heads[h].state = .finished ∧ t.ports = s.ports ∧ t.cfu = s.cfu) ∧
        (s.heads[h].complete = false →
          t.heads[h].state = (if s.perCell h = false ∧ s.ports[h].fault = true then .tripped else .waiting) ∧
          t.heads[h].wait = 0 ∧ t.jcu = s.jcu ∧ t.tlm = s.tlm ∧
          t.ports = s.ports.set h { s.ports[h] with step := s.ports[h].step || !s.heads[h].positioned }) ∧
        (∀ g : Head, g ≠ h → t.heads[g].state = s.heads[g].state ∧ t.heads[g].nextTrack = s.heads[g].nextTrack ∧
          t.heads[g].positioned = s.heads[g].positioned ∧ t.heads[g].wait = s.heads[g].wait) ∧
        t.stu = s.stu ∧ t.cca.samples = s.cca.samples

/-- TRIP_CLEAR of an enabled TRIPPED head whose FAULT level is inactive, outside a HALTING job: the head becomes STOPPED,
and nothing else changes but the reply. -/
def Obligations.TripClearStopsHead : Prop :=
  ∀ (s : State) (tag head : Byte) (h : Head) (tick : Nat), head.toNat = h.val →
    s.takes (commandFrame tag 0x13 head 0 0) → s.jcu.state ≠ .halting → s.enabled h = true →
    s.heads[h].state = .tripped → s.ports[h].fault = false →
      exec (.tripClear tag head tick) s =
        .next { (s.taken tick).answer tag 0x13 .accepted with
          heads := s.heads.set h { s.heads[h] with state := .stopped } }

/-! ## The column cache (chapter 3) -/

/-- CACHE_LOCK: the tests of R61 in order decide the reply, only an unlocked slot of a set with no lock is locked, and a
planning pass follows the reply; a key out of range is answered RANGE. -/
def Obligations.CacheLockFollowsItsTests : Prop :=
  ∀ (s : State) (tag : Byte) (tile column : Item) (tick : Nat),
    s.takes (commandFrame tag 0x30 0 tile column) →
    let u := s.taken tick
    let done (v : State) (r : Result) := Host.Outcome.next (φ := Fault) (ρ := Refusal)
      ((v.answer tag 0x30 r).within State.planningPass)
    (31 < tile.toNat ∨ 4095 < column.toNat → exec (.cacheLock tag tile column tick) s = done u .range) ∧
    ∀ k : Key, k.tile.val = tile.toNat → k.column.val = column.toNat →
      (s.lookup k = none → exec (.cacheLock tag tile column tick) s = done u .absent) ∧
      ∀ n : Fin 64, s.lookup k = some n →
        (s.cca.slots[n].state ≠ .resident → exec (.cacheLock tag tile column tick) s = done u .absent) ∧
        (s.cca.slots[n].state = .resident → s.cca.slots[n].lock = true →
          exec (.cacheLock tag tile column tick) s = done u .accepted) ∧
        (s.cca.slots[n].state = .resident → s.cca.slots[n].lock = false → s.cca.slots[otherSlot n].lock = true →
          exec (.cacheLock tag tile column tick) s = done u .conflict) ∧
        (s.cca.slots[n].state = .resident → s.cca.slots[n].lock = false → s.cca.slots[otherSlot n].lock = false →
          exec (.cacheLock tag tile column tick) s =
            done { u with cca := { u.cca with slots := u.cca.slots.set n { u.cca.slots[n] with lock := true } } }
              .accepted)

/-- CACHE_UNLOCK clears the lock of the slot in which its key is RESIDENT, and nothing else of it, the LRU mark or any
request; a key that misses or is FILLING is answered ABSENT; a planning pass follows the reply. -/
def Obligations.CacheUnlockClearsLock : Prop :=
  ∀ (s : State) (tag : Byte) (tile column : Item) (tick : Nat),
    s.takes (commandFrame tag 0x31 0 tile column) →
    let u := s.taken tick
    let done (v : State) (r : Result) := Host.Outcome.next (φ := Fault) (ρ := Refusal)
      ((v.answer tag 0x31 r).within State.planningPass)
    (31 < tile.toNat ∨ 4095 < column.toNat → exec (.cacheUnlock tag tile column tick) s = done u .range) ∧
    ∀ k : Key, k.tile.val = tile.toNat → k.column.val = column.toNat →
      (s.lookup k = none → exec (.cacheUnlock tag tile column tick) s = done u .absent) ∧
      ∀ n : Fin 64, s.lookup k = some n →
        (s.cca.slots[n].state ≠ .resident → exec (.cacheUnlock tag tile column tick) s = done u .absent) ∧
        (s.cca.slots[n].state = .resident →
          exec (.cacheUnlock tag tile column tick) s =
            done { u with cca := { u.cca with slots := u.cca.slots.set n { u.cca.slots[n] with lock := false } } }
              .accepted)

/-- CACHE_INVALIDATE by key: a miss counts nothing, a RESIDENT slot with no pin is emptied and counted as invalidated,
and a pinned or FILLING slot is left and counted as skipped; the LRU mark stays. A key out of range, and a form that is
neither key nor all, is answered RANGE. A planning pass follows the reply. That such a form belongs to this row is the
model's choice (assumption 18). -/
def Obligations.CacheInvalidateKeyEmptiesUnpinnedSlot : Prop :=
  (∀ (s : State) (tag form : Byte) (tile column : Item) (tick : Nat),
    s.takes (commandFrame tag 0x32 form tile column) → form ≠ 1 →
    form ≠ 0 ∨ 31 < tile.toNat ∨ 4095 < column.toNat →
      exec (.cacheInvalidateKey tag form tile column tick) s =
        .next (((s.taken tick).answer tag 0x32 .range).within State.planningPass)) ∧
  ∀ (s : State) (tag : Byte) (tile column : Item) (k : Key) (tick : Nat),
    s.takes (commandFrame tag 0x32 0 tile column) → k.tile.val = tile.toNat → k.column.val = column.toNat →
    let u := s.taken tick
    let done (v : State) (i j : Nat) := Host.Outcome.next (φ := Fault) (ρ := Refusal)
      ((v.queueReply { tag, kind := 0x04, code := 0x32, result := .accepted, mark := false, data := .counts i j }).within
        State.planningPass)
    (s.lookup k = none → exec (.cacheInvalidateKey tag 0 tile column tick) s = done u 0 0) ∧
    ∀ n : Fin 64, s.lookup k = some n →
      (s.cca.slots[n].state = .resident → s.cca.slots[n].pins = 0 →
        exec (.cacheInvalidateKey tag 0 tile column tick) s =
          done { u with cca := { u.cca with slots := u.cca.slots.set n Slot.empty } } 1 0) ∧
      (s.cca.slots[n].state = .filling ∨ (s.cca.slots[n].state = .resident ∧ 0 < s.cca.slots[n].pins) →
        exec (.cacheInvalidateKey tag 0 tile column tick) s = done u 0 1)

/-- CACHE_INVALIDATE, all form: exactly the RESIDENT slots with no pin become EMPTY, the reply carries their number and
the number of the other slots that are not EMPTY, and a planning pass follows it. -/
def Obligations.CacheInvalidateAllEmptiesUnpinnedSlots : Prop :=
  ∀ (s : State) (tag : Byte) (tick : Nat), s.takes (commandFrame tag 0x32 1 0 0) →
    let goes (sl : Slot) : Bool := sl.state == .resident && sl.pins == 0
    let stays (sl : Slot) : Bool := sl.state != .empty && !goes sl
    let u := s.taken tick
    exec (.cacheInvalidateAll tag tick) s =
      .next (({ u with cca := { u.cca with slots := s.cca.slots.map fun sl => if goes sl then Slot.empty else sl } }.queueReply
        { tag, kind := 0x04, code := 0x32, result := .accepted, mark := false,
          data := .counts (s.cca.slots.toList.countP goes) (s.cca.slots.toList.countP stays) }).within
        State.planningPass)

/-- CACHE_QUERY returns the record of the slot it names, with its key absent for an EMPTY slot, and RANGE above 63; a
planning pass follows the reply. -/
def Obligations.CacheQueryReturnsSlotRecord : Prop :=
  ∀ (s : State) (tag slot : Byte) (tick : Nat), s.takes (commandFrame tag 0x33 slot 0 0) →
    (63 < slot.toNat →
      exec (.cacheQuery tag slot tick) s = .next (((s.taken tick).answer tag 0x33 .range).within State.planningPass)) ∧
    ∀ n : Fin 64, n.val = slot.toNat →
      ∃ r : SlotReport,
        exec (.cacheQuery tag slot tick) s =
          .next (((s.taken tick).queueReply
            { tag, kind := 0x04, code := 0x33, result := .accepted, mark := false, data := .slot r }).within
            State.planningPass) ∧
        r.slot = n.val ∧ r.state = s.cca.slots[n].state ∧ r.lock = s.cca.slots[n].lock ∧
        r.pins = s.cca.slots[n].pins ∧ r.fill = s.cca.slots[n].fill ∧ r.lru = s.cca.lru[setOfSlot n] ∧
        (s.cca.slots[n].state = .empty → r.key = none) ∧
        ∀ k : Key, s.cca.slots[n].state ≠ .empty → s.cca.slots[n].key = some k →
          r.key = some (k.tile.val, k.column.val)

/-- A planning pass, whichever command or event it follows. First each WAITING or ENGRAVING head, and no other, gets
PLANNED records at its tail, of the tracks after its tail or from its next track, up to 1 + lookahead records and not
beyond its last track, each with the mapping of its track. Then the records of those heads are served one after the
other, heads 0 to 7 and each head's nearest first, every one on what those before it have left (`State.Served`). -/
def Obligations.PlanningPassServesRecordsInOrder : Prop :=
  ∀ s : State,
    let goes (h : Head) : Bool := s.heads[h].state == .waiting || s.heads[h].state == .engraving
    let next (h : Head) : Nat := match s.heads[h].queue.getLast? with
      | some r => r.track + 1
      | none => s.heads[h].nextTrack
    let room (h : Head) : Nat := min (1 + s.lookahead - s.heads[h].queue.length) (s.lastTrack h + 1 - next h)
    let queue (h : Head) : List TrackRecord :=
      if goes h then s.heads[h].queue ++ (List.range (room h)).map fun i =>
        { track := next h + i, body := s.trackBody (next h + i), active := false, suppressed := false }
      else s.heads[h].queue
    State.ServedInOrder
      (headOrder.flatMap fun h => if goes h then (List.range (queue h).length).map fun j => (h, j) else [])
      { s with heads := Vector.ofFn fun h : Head => { s.heads[h] with queue := queue h } }
      s.planningPass

/-! ## The table memory (chapter 9) -/

/-- COMMIT outside RUNNING and HALTING copies the named shadows into their active copies at once and raises
COMMIT_APPLIED with occasion COMMAND, two empty masks changing and raising nothing; in RUNNING or HALTING it sets the
marks of the named objects, keeps the marks already set, and copies nothing yet. That the reply is queued before
COMMIT_APPLIED is raised is the model's choice (assumption 27). -/
def Obligations.CommitCopiesOrMarks : Prop :=
  (∀ (s : State) (tag grad cal : Byte) (tick : Nat),
    s.takes (commandFrame tag 0x20 grad (cal.setWidth 16) 0) → s.jcu.state = .running ∨ s.jcu.state = .halting →
      exec (.commit tag grad cal tick) s =
        .next { (s.taken tick).answer tag 0x20 .accepted with
          tlm := { s.tlm with gradPending := s.tlm.gradPending ||| grad, calPending := s.tlm.calPending ||| cal } }) ∧
  ∀ (s : State) (tag grad cal : Byte) (tick : Nat),
    s.takes (commandFrame tag 0x20 grad (cal.setWidth 16) 0) → s.jcu.state ≠ .running → s.jcu.state ≠ .halting →
    let u := (s.taken tick).answer tag 0x20 .accepted
    (grad = 0 ∧ cal = 0 → exec (.commit tag grad cal tick) s = .next u) ∧
    (¬(grad = 0 ∧ cal = 0) →
      ∃ m : Tables,
        exec (.commit tag grad cal tick) s =
          .next (({ u with tlm := m }).recordEvent .commitApplied (commitDetail grad cal .command) cal) ∧
        (∀ n : Fin 8, m.gradsActive[n] = (if grad.getLsbD n then s.tlm.grads[n] else s.tlm.gradsActive[n]) ∧
          m.calsActive[n] = if cal.getLsbD n then s.tlm.cals[n] else s.tlm.calsActive[n]) ∧
        { m with gradsActive := s.tlm.gradsActive, calsActive := s.tlm.calsActive,
                 gradPending := s.tlm.gradPending, calPending := s.tlm.calPending } = s.tlm)

/-- The tests of a TABLE_WRITE in their order, for every object kind: the first that fails decides the reply, and
nothing is stored. A select field that names none of its values is refused with RANGE: the replication factors of LANE,
the sample width, justify and fill mode of TILE, the trip mode of HEAD_SETUP, the action of a ROUTE entry. The rows
TILE_WRITE, WEAR_WRITE and ROUTE_WRITE take the same tests. -/
def Obligations.TableWriteTestsInOrder : Prop :=
  ∀ (s : State) (tag kind copy : Byte) (start : Item) (items : Items) (tick : Nat),
    s.takes (tableWriteFrame tag kind copy start items) →
    let refused (r : Result) : Prop :=
      let o := Host.Outcome.next (φ := Fault) (ρ := Refusal) ((s.taken tick).queueReply
        { tag, kind := 0x02, code := 0, result := r, mark := false, data := .stored 0 })
      exec (.tableWrite tag kind copy start items tick) s = o ∧
      (kind = 0x03 → exec (.tileWrite tag copy start items tick) s = o) ∧
      (kind = 0x0A → exec (.wearWrite tag copy start items tick) s = o) ∧
      (kind = 0x0B → exec (.routeWrite tag copy start items tick) s = o)
    let busy (k : ObjKind) : Prop :=
      (k = .grad ∧ s.tlm.gradPending.getLsbD copy.toNat = true) ∨
      (k = .headCal ∧ s.tlm.calPending.getLsbD copy.toNat = true) ∨
      (k = .tile ∧ s.tileBusy (Fin.ofNat 32 copy.toNat) = true)
    let named (k : ObjKind) (i w : Nat) : Prop :=
      (k = .lane → i = 5 ∨ i = 8 → w = 1 ∨ w = 2 ∨ w = 4) ∧
      (k = .tile → (i = 3 → w = 6 ∨ w = 8 ∨ w = 10) ∧ (i = 4 → w ≤ 1) ∧ (i = 5 → w ≤ 3)) ∧
      (k = .headSetup → i = 3 → w ≤ 1) ∧ (k = .route → w / 256 ≤ 2)
    (objOfCode kind = none → refused .unknown) ∧
    ∀ k : ObjKind, objOfCode kind = some k →
      (k.copies ≤ copy.toNat ∨ k.length ≤ start.toNat ∨ items = [] ∨ 512 < items.length → refused .range) ∧
      (copy.toNat < k.copies → start.toNat < k.length → items ≠ [] → items.length ≤ 512 →
        (k.permission = .readOnly → refused .readOnly) ∧
        (k.permission = .idle → s.jcu.state ≠ .idle → refused .state) ∧
        (k.permission ≠ .readOnly → (k.permission = .idle → s.jcu.state = .idle) →
          (busy k → refused .busy) ∧
          (¬busy k →
            (∃ i, i < items.length ∧ start.toNat + i < k.length ∧
              ¬named k (start.toNat + i) (items.getD i 0).toNat) → refused .range)))

/-- A TABLE_WRITE to LAYOUT, LANE, EXPAND, HEAD_SETUP, HEAD_CAL or GRAD that passes the tests stores its run: each item
into its own range, the 32-bit field judged whole and the ordered pair held apart, items past the end discarded; every
other item, every other object and every other block is left, and the reply says PARTIAL_WRITE, CLAMPED or ACCEPTED. -/
def Obligations.TableWriteStoresRun : Prop :=
  ∀ (s : State) (tag kind copy : Byte) (k : ObjKind) (start : Item) (items : Items) (tick : Nat),
    s.takes (tableWriteFrame tag kind copy start items) → s.tablesInRange →
    k = .layout ∨ k = .lane ∨ k = .expand ∨ k = .headSetup ∨ k = .headCal ∨ k = .grad →
    s.writeTests kind copy start.toNat items = .ok k →
      ∃ (o : Items) (changed : Bool), WriteStores k (s.objItems k copy.toNat) start.toNat items o changed ∧
        exec (.tableWrite tag kind copy start items tick) s =
          .next (({ s.taken tick with tlm := s.tlm.store k copy.toNat o }).queueReply
            (takenReply tag k start.toNat items changed))

/-- A TILE write that passes the tests stores its run, and every RESIDENT slot of the tile becomes EMPTY; nothing else
changes. A write in IDLE to a tile with a FILLING or pinned slot is refused with BUSY before any item is examined. -/
def Obligations.TileWriteEmptiesTile : Prop :=
  ∀ (s : State) (tag copy : Byte) (n : Fin 32) (start : Item) (items : Items) (tick : Nat),
    copy.toNat = n.val → s.takes (tableWriteFrame tag 0x03 copy start items) → s.tablesInRange →
    s.jcu.state = .idle → start.toNat < 8 → items ≠ [] → items.length ≤ 512 →
      (s.tileBusy n = false → s.writeTests 0x03 copy start.toNat items = .ok .tile →
        ∃ (o : Items) (changed : Bool), WriteStores .tile s.tlm.tiles[n] start.toNat items o changed ∧
          exec (.tileWrite tag copy start items tick) s =
            .next (({ s.taken tick with
                tlm := { s.tlm with tiles := s.tlm.tiles.set n o }
                cca := { s.cca with slots := s.cca.slots.map fun (sl : Slot) =>
                  if sl.state == SlotState.resident && sl.key.any (fun (k : Key) => k.tile == n) then Slot.empty
                  else sl } }).queueReply
              (takenReply tag .tile start.toNat items changed))) ∧
      (s.tileBusy n = true →
        exec (.tileWrite tag copy start items tick) s =
          .next ((s.taken tick).queueReply
            { tag, kind := 0x02, code := 0, result := .busy, mark := false, data := .stored 0 }))

/-- A write to WEAR n stores the items of its run into the wear count of head n in every job state, low item first, with
every value taken as written, and changes nothing else; items past the count are discarded. -/
def Obligations.WearWriteReplacesCount : Prop :=
  ∀ (s : State) (tag copy : Byte) (h : Head) (items : Items) (tick : Nat), copy.toNat = h.val →
    items ≠ [] → items.length ≤ 512 →
    let lo : Item := (s.tlm.wear[h]).setWidth 16
    let hi : Item := if items.length = 1 then ((s.tlm.wear[h]) >>> 16).setWidth 16 else items.getD 1 0
    let reply (r : Result) (n : Nat) : CommandReply :=
      { tag, kind := 0x02, code := 0, result := r, mark := false, data := .stored n }
    (s.takes (tableWriteFrame tag 0x0A copy 0 items) →
      exec (.wearWrite tag copy 0 items tick) s =
        .next (({ s.taken tick with tlm := { s.tlm with wear := s.tlm.wear.set h (hi ++ items.getD 0 0) } }).queueReply
          (if items.length ≤ 2 then reply .accepted items.length else reply .partialWrite 2))) ∧
    (s.takes (tableWriteFrame tag 0x0A copy 1 items) →
      exec (.wearWrite tag copy 1 items tick) s =
        .next (({ s.taken tick with tlm := { s.tlm with wear := s.tlm.wear.set h (items.getD 0 0 ++ lo) } }).queueReply
          (if items.length = 1 then reply .accepted 1 else reply .partialWrite 1)))

/-- A ROUTE write that passes the tests stores its run of routing entries, each level brought to at most 7, in every job
state, and clears the pending record of each kind it leaves at level 0; nothing else changes. -/
def Obligations.RouteWriteSetsEntry : Prop :=
  ∀ (s : State) (tag : Byte) (start : Item) (items : Items) (tick : Nat),
    s.takes (tableWriteFrame tag 0x0B 0 start items) → s.tablesInRange →
    s.writeTests 0x0B 0 start.toNat items = .ok .route →
      ∃ (t : State) (o : Items) (changed : Bool), WriteStores .route s.tlm.route start.toNat items o changed ∧
        exec (.routeWrite tag 0 start items tick) s =
          .next (t.queueReply (takenReply tag .route start.toNat items changed)) ∧
        t.tlm = { s.tlm with route := o } ∧
        (∀ k : EventKind, t.evr.records[k.num] =
          if start.toNat ≤ k.num.val ∧ k.num.val < start.toNat + items.length ∧ t.level k = 0 then none
          else s.evr.records[k.num]) ∧
        t.evr.due = s.evr.due ∧
        (∀ i w, i < items.length → start.toNat + i < 23 → items.getD i 0 = w →
          item o (start.toNat + i) = w.toNat / 256 * 256 + min (w.toNat % 256) 7) ∧
        { t with tlm := s.tlm, evr := s.evr } = s.taken tick

/-- TABLE_READ: UNKNOWN for a kind that does not exist, RANGE for a copy, start or count out of range. Otherwise TLM
takes the first items in the event of the read: one, or a 32-bit field whole, or the three slot counts of STATUS
together. The rest are taken in events of their own, and with no other event between them the TABLE_DATA carries the
items from start on as they stood, with PARTIAL when the run passes the object's end; nothing but the answer changes.
That the first items belong to the event of the read is the model's choice (assumption 10). -/
def Obligations.TableReadAnswersItems : Prop :=
  ∀ (s : State) (tag kind copy : Byte) (start count : Item) (tick : Nat),
    s.takes (tableReadFrame tag kind copy start count) →
    let u := s.taken tick
    let data (r : Result) (items : Items) : TableData := { tag, result := r, kind, copy, start, items }
    (objOfCode kind = none →
      exec (.tableRead tag kind copy start count tick) s = .next (u.queueData (data .unknown []))) ∧
    ∀ k : ObjKind, objOfCode kind = some k →
      (k.copies ≤ copy.toNat ∨ k.length ≤ start.toNat ∨ count = 0 ∨ 512 < count.toNat →
        exec (.tableRead tag kind copy start count tick) s = .next (u.queueData (data .range []))) ∧
      (copy.toNat < k.copies → start.toNat < k.length → count ≠ 0 → count.toNat ≤ 512 →
        let total := min count.toNat (k.length - start.toNat)
        let result : Result := if k.length < start.toNat + count.toNat then .partialWrite else .accepted
        let run (n : Nat) : Items := (List.range n).map fun j => (u.objItems k copy.toNat).getD (start.toNat + j) 0
        let wide (i : Nat) : Prop :=
          (k = .layout ∧ i = 7) ∨ (k = .headCal ∧ i = 8) ∨ (k = .headCalActive ∧ i = 8) ∨ (k = .wear ∧ i = 0) ∨
          (k = .counters ∧ i % 2 = 0) ∨ (k = .status ∧ i = 4)
        let counts : Prop := k = .status ∧ start.toNat = 8
        (wide start.toNat → k.together start.toNat = 2) ∧ (counts → k.together start.toNat = 3) ∧
        (¬wide start.toNat → ¬(k = .status ∧ start.toNat ∈ [8, 9]) → k.together start.toNat = 1) ∧
        (k.together start.toNat < total →
          exec (.tableRead tag kind copy start count tick) s =
            .next { u with tlm := { u.tlm with
              reading := some { data := data result (run (k.together start.toNat)), object := k, total } } }) ∧
        ∃ (t : State) (n : Nat), n < 512 ∧ exec (.tableRead tag kind copy start count tick) s = .next t ∧
          State.goOn n t = u.queueData (data result (run total)))

/-! ## Column fetch (chapter 4) -/

/-- An accepted segment that does not complete its fill: its words go to words offset.. of the slot and no other sample
word changes, the fill count and the entry advance, LOCK joins the entry's lock at completion, and nothing else changes.
-/
def Obligations.SegmentIsStored : Prop :=
  ∀ (s : State) (sg : Segment) (k : Key) (r : Request) (tick : Nat),
    s.takes (columnDataFrame sg) → s.samplesCanonical → s.fillsListed →
    k.tile.val = sg.tile.toNat → k.column.val = sg.column.toNat → r ∈ s.cfu.requests → r.id = sg.id → r.key = k →
    sg.offset.toNat = r.next → sg.words ≠ [] → r.received = r.next → r.next + sg.words.length < r.length →
      let a := 8192 * r.slot.val + sg.offset.toNat
      ∃ t : State, exec (.columnData sg tick) s = .next t ∧
        (∀ i, i < sg.words.length → sampleRead t.cca.samples (a + i) = sg.words.getD i 0) ∧
        (∀ b, b < a ∨ a + sg.words.length ≤ b → sampleRead t.cca.samples b = sampleRead s.cca.samples b) ∧
        t.cca.slots = s.cca.slots.set r.slot
          { s.cca.slots[r.slot] with fill := s.cca.slots[r.slot].fill + sg.words.length } ∧
        t.cfu = { s.cfu with requests := s.cfu.requests.map fun q =>
          if q.key = k then
            { q with
              next := r.next + sg.words.length, received := r.received + sg.words.length, lock := r.lock || sg.lock,
              active := max s.now tick }
          else q } ∧
        { t with cca := { s.cca with lru := t.cca.lru }, cfu := s.cfu } = s.taken tick

/-- The segment that brings the received count to L completes the fill: the slot is RESIDENT, locked where the entry or
the segment asks for it and the other way is not locked, the entry is gone, and a planning pass follows. -/
def Obligations.LastSegmentCompletesFill : Prop :=
  ∀ (s : State) (sg : Segment) (k : Key) (r : Request) (tick : Nat),
    s.takes (columnDataFrame sg) → s.oneLock → s.fillsListed → s.noActions →
    k.tile.val = sg.tile.toNat → k.column.val = sg.column.toNat → r ∈ s.cfu.requests → r.id = sg.id → r.key = k →
    sg.offset.toNat = r.next → sg.words ≠ [] → r.received = r.next → r.next + sg.words.length = r.length →
      let locks := (r.lock || sg.lock) && !s.cca.slots[otherSlot r.slot].lock
      ∃ t : State, exec (.columnData sg tick) s = .next (t.within State.planningPass) ∧
        t.cca.slots = s.cca.slots.set r.slot
          { s.cca.slots[r.slot] with
            state := .resident, lock := locks, fill := s.cca.slots[r.slot].fill + sg.words.length } ∧
        t.cfu = { s.cfu with requests := s.cfu.requests.filter fun q => q.key != k } ∧
        t.cca.samples =
          sampleWriteAll s.cca.samples (8192 * r.slot.val + sg.offset.toNat) sg.words ∧
        t.cca.lru = s.cca.lru ∧ t.jcu = s.jcu ∧ t.tlm = s.tlm ∧ t.stu = s.stu ∧ t.heads = s.heads ∧ t.pipes = s.pipes ∧
        t.ports = s.ports ∧
        ((r.lock || sg.lock) = false ∨ s.cca.slots[otherSlot r.slot].lock = false → t.evr = s.evr)

/-- A segment that is dropped raises one event and changes nothing else: FILL_ORDER with cause OFFSET before LENGTH when
it matches an entry out of order; STRAY_DATA when it matches none and does not begin a preload; and for the first
segment of a preload, by the tests in order, STRAY_DATA for a tile not valid or a column not in it, FILL_ORDER with
cause LENGTH for a count of 0 or above L, STRAY_DATA for a key that the cache holds, and CACHE_CONFLICT for want of an
entry or a victim. That id 0 at offset 0 matches a key that another preload fills, and so raises OFFSET, is the model's
choice (assumption 25). -/
def Obligations.DroppedSegmentsRaiseOneEvent : Prop :=
  ∀ (s : State) (sg : Segment) (tick : Nat), s.takes (columnDataFrame sg) →
    let dropped (k : EventKind) (d : Word32) := exec (.columnData sg tick) s =
      .next ((s.taken tick).within fun u => u.raisePlain k d)
    let stray := dropped .strayData (strayDetail sg.id.toNat sg.tile.toNat sg.column.toNat)
    (∀ k : Key, k.tile.val = sg.tile.toNat → k.column.val = sg.column.toNat →
      ∀ r, s.cfu.requests.find? (fun q => q.id == sg.id && q.key == k) = some r →
        (sg.offset.toNat ≠ r.next →
          dropped .fillOrder (fillOrderDetail sg.id.toNat k.tile.val k.column.val .offset)) ∧
        (sg.offset.toNat = r.next → r.length < sg.offset.toNat + sg.words.length ∨ sg.words = [] →
          dropped .fillOrder (fillOrderDetail sg.id.toNat k.tile.val k.column.val .length))) ∧
    ((∀ r ∈ s.cfu.requests, r.id = sg.id → r.key.tile.val = sg.tile.toNat → r.key.column.val ≠ sg.column.toNat) →
      (sg.id ≠ 0 ∨ sg.offset ≠ 0 → stray) ∧
      (sg.id = 0 → sg.offset = 0 →
        (31 < sg.tile.toNat ∨ 4095 < sg.column.toNat → stray) ∧
        ∀ k : Key, k.tile.val = sg.tile.toNat → k.column.val = sg.column.toNat →
          let tile := s.tlm.tiles[k.tile]
          let conflict := dropped .cacheConflict (conflictDetail (keySet k).val k.tile.val k.column.val)
          (tileValid tile = false ∨ tileColumns tile ≤ k.column.val → stray) ∧
          (tileValid tile = true → k.column.val < tileColumns tile →
            (tileLength tile < sg.words.length ∨ sg.words = [] →
              dropped .fillOrder (fillOrderDetail 0 k.tile.val k.column.val .length)) ∧
            (sg.words ≠ [] → sg.words.length ≤ tileLength tile →
              (s.lookup k ≠ none → stray) ∧
              (s.lookup k = none →
                (16 ≤ s.cfu.requests.length → conflict) ∧
                (s.cfu.requests.length < 16 → s.victim (keySet k) = none → conflict))))))

/-- The first segment of a preload of a valid column that no slot holds, with an entry free and a way not excluded: the
way is allocated FILLING to the key with no pin, the segment's words are stored in it, the entry has id 0 and no
COLUMN_REQUEST is queued; with fewer words than L nothing else happens. A segment of all L words completes the fill in
the same event: the slot is RESIDENT, locked where the segment asks for it and the other way is not locked, no entry
stays, and a planning pass follows. -/
def Obligations.PreloadBeginsFill : Prop :=
  ∀ (s : State) (sg : Segment) (k : Key) (n : Fin 64) (tick : Nat),
    s.takes (columnDataFrame sg) → sg.id = 0 → sg.offset = 0 →
    k.tile.val = sg.tile.toNat → k.column.val = sg.column.toNat → (∀ r ∈ s.cfu.requests, r.key ≠ k) →
    tileValid s.tlm.tiles[k.tile] = true → k.column.val < tileColumns s.tlm.tiles[k.tile] →
    sg.words ≠ [] → s.lookup k = none → s.cfu.requests.length < 16 → s.victim (keySet k) = some n →
      let lru := s.cca.lru.set (setOfSlot n) (wayOfSlot n).other
      let samples := sampleWriteAll s.cca.samples (8192 * n.val) sg.words
      let locks := sg.lock && !s.cca.slots[otherSlot n].lock
      (sg.words.length < tileLength s.tlm.tiles[k.tile] →
        exec (.columnData sg tick) s =
          .next { s.taken tick with
            cca := {
              lru, samples
              slots := s.cca.slots.set n
                { state := .filling, key := some k, lock := false, pins := 0, fill := sg.words.length } }
            cfu := { s.cfu with requests := s.cfu.requests ++
              [{ id := 0, key := k, slot := n, length := tileLength s.tlm.tiles[k.tile], next := sg.words.length,
                 received := sg.words.length, lock := sg.lock, active := max s.now tick }] } }) ∧
      (sg.words.length = tileLength s.tlm.tiles[k.tile] → s.noActions →
        ∃ t : State, exec (.columnData sg tick) s = .next (t.within State.planningPass) ∧
          t.cca = {
            lru, samples
            slots := s.cca.slots.set n
              { state := .resident, key := some k, lock := locks, pins := 0, fill := sg.words.length } } ∧
          t.cfu = s.cfu ∧ t.jcu = s.jcu ∧ t.tlm = s.tlm ∧ t.stu = s.stu ∧ t.heads = s.heads ∧ t.pipes = s.pipes ∧
          t.ports = s.ports ∧
          (sg.lock = false ∨ s.cca.slots[otherSlot n].lock = false →
            t.lnk = (s.taken tick).lnk ∧ t.evr = s.evr))

/-- FILL_EXPIRY: with no entry idle for longer than the fill timeout nothing happens; otherwise the oldest such entry is
removed, a waiting request of it is withdrawn, its slot is EMPTY, every record that named the slot is unresolved again,
FILL_TIMEOUT is raised, and a planning pass follows. That one expiry is taken at a time is the model's choice (assumption
9). -/
def Obligations.ExpiryEmptiesSlot : Prop :=
  ∀ (s : State) (tick : Nat),
    let late (r : Request) : Bool := decide (50000 * item s.tlm.layout 10 < max s.now tick - r.active)
    (s.cfu.requests.find? late = none → exec (.fillExpiry tick) s = .next (s.at tick)) ∧
    ∀ r, s.cfu.requests.find? late = some r → s.noActions →
      let u := { s.at tick with
        lnk := { s.lnk with requestQueue := s.lnk.requestQueue.filter fun q => r.id == 0 || q.id != r.id } }.raisePlain
        .fillTimeout (fillTimeoutDetail r.key.tile.val r.key.column.val r.received)
      ∃ t : State, exec (.fillExpiry tick) s = .next (t.within State.planningPass) ∧
        t.cca = { s.cca with slots := s.cca.slots.set r.slot Slot.empty } ∧
        t.cfu = { s.cfu with requests := s.cfu.requests.filter fun q => q.key != r.key } ∧
        (∀ h : Head, t.heads[h] = { s.heads[h] with queue := s.heads[h].queue.map (TrackRecord.revert r.slot) }) ∧
        t.lnk = u.lnk ∧ t.evr.records = u.evr.records ∧
        t.jcu = s.jcu ∧ t.tlm = s.tlm ∧ t.stu = s.stu ∧ t.pipes = s.pipes ∧ t.ports = s.ports

/-! ## The tone link (chapter 10) -/

/-- A frame of no downstream kind, and a COMMAND of no command code, is answered UNKNOWN with its kind, its tag and the
code of a COMMAND. A malformed COLUMN_DATA frame is dropped with CRC_ERROR, cause LENGTH and its size; a malformed
TABLE_WRITE, TABLE_READ or COMMAND frame is answered UNKNOWN with its tag. A COMMAND frame with no payload is answered
too: only the code its answer echoes is left open (assumption 7), and the statement holds for every such code. Nothing
else changes. -/
def Obligations.UnknownAndMalformedFramesAnswered : Prop :=
  (∀ (s : State) (f : Frame) (tick : Nat), s.takes f →
    (f.kind ≠ 0x01 ∧ f.kind ≠ 0x02 ∧ f.kind ≠ 0x03 ∧ f.kind ≠ 0x04) ∨
      (∃ code a b0 b1 c0 c1 : Byte, f.kind = 0x04 ∧ f.flags = 0 ∧ f.zero = 0 ∧ f.payload = [code, a, b0, b1, c0, c1] ∧
        knownCode code = false) →
      exec (.unknownFrame f tick) s =
        .next ((s.taken tick).queueReply
          { tag := f.tag, kind := f.kind, code := if f.kind = 0x04 then f.payload.headD 0 else 0, result := .unknown,
            mark := false, data := .none })) ∧
  ∀ (s : State) (f : Frame) (tick : Nat), s.takes f → f.malformed = true → f.unknown = false →
    (f.kind = 0x01 →
      exec (.malformedFrame f tick) s =
        .next ((s.taken tick).within fun u => u.raisePlain .crcError (crcErrorDetail (10 + f.payload.length) .length))) ∧
    (f.kind ≠ 0x01 →
      ∃ (code : Byte) (draws : Nat),
        exec (.malformedFrame f tick) s =
          .next ({ s.taken tick with lnk := { (s.taken tick).lnk with draws := draws } }.queueReply
            { tag := f.tag, kind := f.kind, code := code, result := .unknown, mark := false, data := .none }) ∧
        (f.kind ≠ 0x04 → code = 0 ∧ draws = s.lnk.draws) ∧
        (f.kind = 0x04 → f.payload ≠ [] → code = f.payload.headD 0 ∧ draws = s.lnk.draws))

/-- In UP, the bytes of a frame with no frame in reception: a valid frame that fits is stored at the tail of the buffer
and the watermark check is made; one that does not fit is discarded with RX_OVERRUN. A reception that fails a test
raises CRC_ERROR with its cause and the bytes received and stores nothing: OVERSIZE once the header is taken, CRC,
LENGTH, and CUT when a start symbol ends a frame in reception; bytes of an unfinished frame stay in reception. In DOWN
and TRAINING no frame is taken, and the symbols take DOWN to TRAINING. -/
def Obligations.ReceivedFramesStoredOrDropped : Prop :=
  (∀ (s : State) (f : Frame) (tick : Nat),
    s.lnk.state = .up → s.lnk.reception = none → f.payload.length ≤ 1056 →
    let u := { s.at tick with lnk := { s.lnk with lastSymbol := max s.lnk.lastSymbol (max s.now tick) } }
    (s.occupancy + f.size ≤ 32768 →
      exec (.frameReceived f.bytes tick) s =
        .next (({ u with lnk := { u.lnk with inbound := s.lnk.inbound ++ [f] } }).watermarkCheck)) ∧
    (32768 < s.occupancy + f.size →
      exec (.frameReceived f.bytes tick) s =
        .next (u.within fun v => v.raisePlain .rxOverrun (rxOverrunDetail s.occupancy f.size f.kind.toNat)))) ∧
  ∀ (s : State) (bytes : List Byte) (tick : Nat),
    let u := { s.at tick with lnk := { s.lnk with lastSymbol := max s.lnk.lastSymbol (max s.now tick) } }
    let failed (v : State) (n : Nat) (c : CrcCause) := v.within fun x => x.raisePlain .crcError (crcErrorDetail n c)
    (s.lnk.state = .down →
      exec (.frameReceived bytes tick) s = .next { u with lnk := { u.lnk with state := .training } }) ∧
    (s.lnk.state = .training → exec (.frameReceived bytes tick) s = .next u) ∧
    (s.lnk.state = .up → s.lnk.reception = none →
      (receive bytes = .oversize → exec (.frameReceived bytes tick) s = .next (failed u 6 .oversize)) ∧
      (∀ n, receive bytes = .badCrc n → exec (.frameReceived bytes tick) s = .next (failed u n .crc)) ∧
      (∀ n, receive bytes = .badLength n → exec (.frameReceived bytes tick) s = .next (failed u n .length)) ∧
      (receive bytes = .incomplete →
        exec (.frameReceived bytes tick) s =
          .next { u with lnk := { u.lnk with reception := some bytes } })) ∧
    ∀ old, s.lnk.state = .up → s.lnk.reception = some old → receive bytes = .incomplete →
      ∃ t : State, exec (.frameReceived bytes tick) s = .next t ∧ t.lnk.reception = some bytes ∧
        { t with lnk := { t.lnk with reception := none } } =
          failed { u with lnk := { u.lnk with reception := none } } old.length .cut

/-- The link states: symbols take DOWN to TRAINING, framing takes TRAINING to UP with LINK_UP carrying the occupancy,
the watermark check and the arbiter's choice, neither does anything else to the other states, and an interval of no more
than 50,000 ticks since the last symbol loses nothing. A loss from UP discards the frame in reception and every upstream
frame, turns HOLD off, keeps the stored frames, and LINK_LOSS counts the upstream frames, the abandoned one included; from
TRAINING only the state changes. A head frame that waited for room is tried again. The order of LINK_UP, the check and the
choice is the model's reading (assumption 16), and the ticks of the last symbol and of the last idle symbol are its choice
(assumption 17). -/
def Obligations.LinkComesUpAndIsLost : Prop :=
  (∀ (s : State) (lastIdle tick : Nat),
    let u := s.at tick
    let seen := max s.lnk.lastSymbol (max s.now tick)
    (s.lnk.state = .down →
      exec (.linkTraining tick) s = .next { u with lnk := { s.lnk with state := .training, lastSymbol := seen } }) ∧
    (s.lnk.state ≠ .down → exec (.linkTraining tick) s = .next { u with lnk := { s.lnk with lastSymbol := seen } }) ∧
    (s.lnk.state ≠ .training → exec (.framingAcquired tick) s = .next u) ∧
    (s.lnk.state = .training →
      let v := ((({ u with lnk := { s.lnk with state := .up } }).within fun w =>
        w.raisePlain .linkUp (linkUpDetail s.occupancy)).watermarkCheck).arbitrate
      exec (.framingAcquired tick) s = .next (if s.headWaits then v.dispatchHead else v)) ∧
    (max s.now tick ≤ max s.lnk.lastSymbol (min lastIdle (max s.now tick)) + 50000 →
      exec (.linkLoss lastIdle tick) s =
        .next { u with lnk := { s.lnk with lastSymbol := max s.lnk.lastSymbol (min lastIdle (max s.now tick)) } })) ∧
  ∀ (s : State) (lastIdle tick : Nat),
    max s.lnk.lastSymbol (min lastIdle (max s.now tick)) + 50000 < max s.now tick →
    let seen := max s.lnk.lastSymbol (min lastIdle (max s.now tick))
    let discarded := (if s.lnk.sending.isSome then 1 else 0) + (if s.lnk.flowQueue.isSome then 1 else 0) +
      s.lnk.requestQueue.length + s.lnk.replyQueue.length + s.lnk.dataQueue.length
    (s.lnk.state = .training →
      exec (.linkLoss lastIdle tick) s =
        .next { s.at tick with lnk := { s.lnk with state := .down, lastSymbol := seen } }) ∧
    (s.lnk.state = .up →
      let v := ({ s.at tick with
        lnk := { s.lnk with
          state := .down, lastSymbol := seen, reception := none, hold := false, flowQueue := none, requestQueue := [],
          replyQueue := [], dataQueue := [], sending := none, resetReply := .none } }).within fun u =>
        u.raisePlain .linkLoss (linkLossDetail discarded)
      exec (.linkLoss lastIdle tick) s = .next (if s.headWaits then v.dispatchHead else v))

/-- With no frame in transmission nothing happens. At the end of a transmission, but that of a SOFT_RESET reply, the
arbiter begins the oldest frame of the first class that holds one, FLOW, COLUMN_REQUEST, COMMAND_REPLY, TABLE_DATA, with
the HOLD state in its header; a REPORT begins only when all four are empty, and its record is cleared. The end of a
SOFT_RESET reply makes the watermark check before the arbiter's choice. A head frame that waited for room is tried
again. That this check comes before the choice is the model's reading (assumption 16). -/
def Obligations.TransmissionEndServesClassesInOrder : Prop :=
  ∀ (s : State) (x : Sending) (tick : Nat),
    let u := s.at tick
    let goes (v : State) := Host.Outcome.next (φ := Fault) (ρ := Refusal) (if s.headWaits then v.dispatchHead else v)
    (s.lnk.sending = none → exec (.transmissionEnd tick) s = .next u) ∧
    (s.lnk.sending = some x → s.lnk.resetReply = .sending →
      exec (.transmissionEnd tick) s =
        goes (({ u with lnk := { s.lnk with sending := none, resetReply := .none } }).watermarkCheck.arbitrate)) ∧
    (s.lnk.state = .up → s.lnk.sending = some x → s.lnk.resetReply ≠ .sending →
      (∀ b, s.lnk.flowQueue = some b →
        exec (.transmissionEnd tick) s =
          goes { u with lnk := { s.lnk with flowQueue := none, sending := some ⟨.flow b, s.lnk.hold⟩ } }) ∧
      (s.lnk.flowQueue = none →
        (∀ r rs, s.lnk.requestQueue = r :: rs →
          exec (.transmissionEnd tick) s =
            goes { u with lnk := { s.lnk with requestQueue := rs, sending := some ⟨.columnRequest r, s.lnk.hold⟩ } }) ∧
        (∀ r rs, s.lnk.requestQueue = [] → s.lnk.replyQueue = r :: rs →
          exec (.transmissionEnd tick) s =
            goes { u with lnk := { s.lnk with
              replyQueue := rs, sending := some ⟨.commandReply r, s.lnk.hold⟩,
              resetReply := if s.lnk.resetReply = .waiting then .sending else s.lnk.resetReply } }) ∧
        (∀ d ds, s.lnk.requestQueue = [] → s.lnk.replyQueue = [] → s.lnk.dataQueue = d :: ds →
          exec (.transmissionEnd tick) s =
            goes { u with lnk := { s.lnk with dataQueue := ds, sending := some ⟨.tableData d, s.lnk.hold⟩ } }) ∧
        (s.lnk.requestQueue = [] → s.lnk.replyQueue = [] → s.lnk.dataQueue = [] →
          ((∀ k : EventKind, s.evr.records[k.num] = none ∨ s.level k = 0) →
            exec (.transmissionEnd tick) s = goes { u with lnk := { s.lnk with sending := none } }) ∧
          ∀ (k : EventKind) (p : Pending), s.evr.records[k.num] = some p → s.level k ≠ 0 →
            (∀ j : EventKind, s.evr.records[j.num] ≠ none → s.level j ≤ s.level k) →
            (∀ j : EventKind, s.evr.records[j.num] ≠ none → s.level j = s.level k → k.num ≤ j.num) →
            exec (.transmissionEnd tick) s =
              goes { u with
                lnk := { s.lnk with
                  sending := some ⟨.report { kind := k, level := s.level k, count := p.count, mask := p.mask,
                                             detail := p.detail }, s.lnk.hold⟩ }
                evr := { s.evr with records := s.evr.records.set k.num none } })))

/-! ## Spindle timing (chapter 5) -/

/-- An index level held for fewer than 4 ticks, or not preceded by 4 inactive ticks since the active level was last
taken, sets the levels of the input alone; an index arrival in NO_SIGNAL begins a measurement: T_prev now, MEASURING,
the ring cleared, P_avg 0, no revolution strobed, no spindle event. The times inactive and held as operands, and the
row's tick as the arrival's, are the model's choice (assumption 5). -/
def Obligations.FirstIndexBeginsMeasurement : Prop :=
  ∀ (s : State) (low held tick : Nat),
    (held < 4 ∨ (s.stu.index = true ∧ low < 4) →
      exec (.index ⟨low, held⟩ tick) s =
        .next { s.at tick with stu := { s.stu with
          index := s.stu.index && decide (low < 4)
          indexPin := decide (0 < held) || (s.stu.indexPin && decide (low = 0)) } }) ∧
    (4 ≤ held → s.stu.index = false ∨ 4 ≤ low → s.stu.state = .noSignal → s.stu.rev = none →
      ∃ t : State, exec (.index ⟨low, held⟩ tick) s = .next t ∧
        t.stu = { state := .measuring, ring := Vector.replicate 4 none, writePtr := 0, valid := 0,
                  tPrev := some (max s.now tick), run := s.stu.run, pAvg := 0, rev := none, index := true,
                  indexPin := true } ∧
        (s.laneFree = false → ∀ k ∈ [EventKind.spinLocked, .spinOffSpeed, .spinNoSignal],
          t.evr.records[k.num] = s.evr.records[k.num]) ∧
        t.cca.samples = s.cca.samples ∧ t.tlm.layout = s.tlm.layout ∧ t.tlm.wear = s.tlm.wear)

/-- The spindle after an index at which a period is measured: the period is tested in exact arithmetic, stored or the
ring cleared, P_avg is a quarter of the sum of the four periods of a full ring, the state moves as Table 5.2 gives, and
a LOCKED or OFF_SPEED spindle begins a strobed revolution at its first cell. The times inactive and held as operands,
and the row's tick as the arrival's, are the model's choice (assumption 5). -/
def Obligations.IndexMovesSpindleState : Prop :=
  ∀ (s : State) (low held tick last : Nat), 4 ≤ held → s.stu.index = false ∨ 4 ≤ low →
    s.stu.tPrev = some last → s.stu.state ≠ .noSignal →
    let now := max s.now tick
    let p := now - last
    let inTol : Bool := decide (((p : Int) - (s.nominal : Int)).natAbs * 1000 ≤ s.tolerance * s.nominal)
    let ring := s.stu.ring.set s.stu.writePtr (some p)
    let average := ((ring.toList.map fun q => q.getD 0).sum) / 4
    let revolution (pAvg : Nat) : Option Revolution :=
      some { tIdx := now, period := pAvg, cells := s.cells, posA := 0, posB := 0 }
    ∃ t : State, exec (.index ⟨low, held⟩ tick) s = .next t ∧ t.stu.tPrev = some now ∧
      (s.stu.state = .measuring → inTol = false →
        t.stu.state = .measuring ∧ t.stu.valid = 0 ∧ t.stu.writePtr = 0 ∧ t.stu.pAvg = 0 ∧ t.stu.rev = none) ∧
      (s.stu.state = .measuring → inTol = true → s.stu.valid < 3 →
        t.stu.state = .measuring ∧ t.stu.ring = ring ∧ t.stu.writePtr = s.stu.writePtr + 1 ∧
        t.stu.valid = s.stu.valid + 1 ∧ t.stu.rev = none) ∧
      (s.stu.state = .measuring → inTol = true → s.stu.valid = 3 →
        t.stu.state = .locked ∧ t.stu.ring = ring ∧ t.stu.valid = 4 ∧ t.stu.pAvg = average ∧
        t.stu.rev = revolution average) ∧
      (s.stu.state = .locked ∨ s.stu.state = .offSpeed →
        t.stu.ring = ring ∧ t.stu.writePtr = s.stu.writePtr + 1 ∧ t.stu.pAvg = average ∧
        t.stu.rev = revolution average ∧
        (s.stu.state = .locked → inTol = true → t.stu.state = .locked) ∧
        (s.stu.state = .locked → inTol = false → t.stu.state = .offSpeed ∧ t.stu.run = 0) ∧
        (s.stu.state = .offSpeed → inTol = false → t.stu.state = .offSpeed ∧ t.stu.run = 0) ∧
        (s.stu.state = .offSpeed → inTol = true → s.stu.run < 3 →
          t.stu.state = .offSpeed ∧ t.stu.run = s.stu.run + 1) ∧
        (s.stu.state = .offSpeed → inTol = true → s.stu.run = 3 → t.stu.state = .locked)) ∧
      t.cca.samples = s.cca.samples ∧ t.tlm.layout = s.tlm.layout ∧ t.tlm.wear = s.tlm.wear

/-- An index of a spindle that does not fall out of LOCKED, with no routing action, at a WAITING head: one whose start
conditions hold engraves its first record from this index with the wear term of its wear count, under the calibration
that a pending commit puts in force at this index; one whose conditions fail rests one revolution, its wait count and
idle revolutions advance, and it is STALLED once the wait count passes the wait limit. The port strobes odd tracks on
phase B when stagger is on, and other tracks on phase A. The times inactive and held as operands, and the row's tick as
the arrival's, are the model's choice (assumption 5). -/
def Obligations.IndexStartsReadyTracks : Prop :=
  ∀ (s : State) (h : Head) (low held tick : Nat), 4 ≤ held → s.stu.index = false ∨ 4 ≤ low →
    (s.stu.state = .locked → ∃ last, s.stu.tPrev = some last ∧ s.inTolerance (max s.now tick - last) = true) →
    s.noActions → s.headsAgree → s.heads[h].state = .waiting →
      let phaseOf (track : Nat) : Phase := if s.stagger = true ∧ track % 2 = 1 then .b else .a
      let cal := if s.tlm.calPending.getLsbD h then s.tlm.cals[h] else s.tlm.calsActive[h]
      ∃ t : State, exec (.index ⟨low, held⟩ tick) s = .next t ∧
        (s.startFailure h = none →
          t.heads[h].state = .engraving ∧ t.heads[h].wait = 0 ∧ t.heads[h].idleRevs = s.heads[h].idleRevs ∧
          t.pipes[h].wearTerm = some (min ((s.tlm.wear[h]).toNat / calWearInterval cal * calWearStep cal)
            (calWearCap cal)) ∧
          ∃ r rest, s.heads[h].queue = r :: rest ∧ (t.heads[h].queue.head?).map TrackRecord.active = some true ∧
            (t.heads[h].queue.head?).map TrackRecord.track = some r.track ∧
            t.ports[h].phase = phaseOf r.track) ∧
        (∀ reason, s.startFailure h = some reason →
          t.heads[h].wait = s.heads[h].wait + 1 ∧ t.heads[h].idleRevs = satInc s.heads[h].idleRevs ∧
          t.heads[h].state = (if s.waitLimit < s.heads[h].wait + 1 then .stalled else .waiting) ∧
          (s.heads[h].activeRecord = none → t.ports[h].phase = phaseOf s.heads[h].nextTrack)) ∧
        t.heads[h].nextTrack = s.heads[h].nextTrack ∧ t.heads[h].positioned = s.heads[h].positioned

/-- The same index at a head that engraves: its track is DONE, or DEFECT with cause SHORT_REV when the revolution
dropped cells of the head's phase, or CELLS_SUPPRESSED when a cell was suppressed, counted and listed so; TRACK_DONE
marks the head where the prescale admits the count. On its last track the head is FINISHED with its range complete; a
STOPPING head is STOPPED otherwise; a step owed by an ENGRAVING head is raised at once and costs it the revolution; with
no step owed its next track starts at this index, or waits for it. The times inactive and held as operands, and the
row's tick as the arrival's, are the model's choice (assumption 5). -/
def Obligations.IndexEndsTracks : Prop :=
  ∀ (s : State) (h : Head) (r : TrackRecord) (rest : List TrackRecord) (low held tick : Nat),
    4 ≤ held → s.stu.index = false ∨ 4 ≤ low →
    (s.stu.state = .locked → ∃ last, s.stu.tPrev = some last ∧ s.inTolerance (max s.now tick - last) = true) →
    s.noActions → s.headsAgree → s.heads[h].state = .engraving ∨ s.heads[h].state = .stopping →
    s.heads[h].queue = r :: rest → r.active = true → (∀ q ∈ rest, q.active = false) →
      let c := s.heads[h]
      let dropped : Bool := match s.stu.rev with
        | none => false
        | some v => match s.ports[h].phase with | .a => decide (v.posA < v.cells) | .b => decide (v.posB < v.cells)
      let cause : Option DefectCause :=
        if dropped then some .shortRev else if r.suppressed then some .cellsSuppressed else none
      let owed : Bool := decide (r.track < s.lastTrack h ∧ c.nextTrack = r.track)
      let admitted : Bool := cause.isNone && decide (s.prescale h ≠ 0 ∧ c.tracksDone.toNat < 2 ^ 32 - 1 ∧
        (c.tracksDone.toNat + 1) % s.prescale h = 0)
      let marked (x : State) : Bool := match x.evr.records[EventKind.trackDone.num] with
        | none => false
        | some p => p.mask.getLsbD h
      let cal := if s.tlm.calPending.getLsbD h then s.tlm.cals[h] else s.tlm.calsActive[h]
      ∃ t : State, exec (.index ⟨low, held⟩ tick) s = .next t ∧
        (cause = none →
          t.heads[h].tracksDone = satInc c.tracksDone ∧ t.heads[h].tracksDefective = c.tracksDefective ∧
          t.heads[h].defects = c.defects ∧ t.heads[h].overflow = c.overflow) ∧
        (∀ x, cause = some x →
          t.heads[h].tracksDone = c.tracksDone ∧ t.heads[h].tracksDefective = satInc c.tracksDefective ∧
          t.heads[h].defects = (if c.defects.length < 16 then c.defects ++ [⟨r.track, x⟩] else c.defects) ∧
          t.heads[h].overflow = (if c.defects.length < 16 then c.overflow else satInc c.overflow)) ∧
        (s.laneFree = false → s.level .trackDone ≠ 0 → marked t = (marked s || admitted)) ∧
        (r.track = s.lastTrack h →
          t.heads[h].state = .finished ∧ t.heads[h].complete = true ∧ t.heads[h].queue = [] ∧
          t.ports[h].step = s.ports[h].step) ∧
        (r.track ≠ s.lastTrack h → c.state = .stopping →
          t.heads[h].state = .stopped ∧ t.heads[h].queue = [] ∧ t.ports[h].step = s.ports[h].step) ∧
        (owed = true →
          t.heads[h].nextTrack = r.track + 1 ∧ t.heads[h].positioned = false ∧
          (c.state = .engraving → t.ports[h].step = true)) ∧
        (owed = false →
          t.heads[h].nextTrack = c.nextTrack ∧ t.heads[h].positioned = c.positioned ∧
          t.ports[h].step = s.ports[h].step) ∧
        (r.track ≠ s.lastTrack h → c.state = .engraving →
          (∀ q more, rest = q :: more → s.readyToStart q = true → c.positioned = true → owed = false →
            t.heads[h].state = .engraving ∧ t.heads[h].wait = 0 ∧ t.heads[h].idleRevs = c.idleRevs ∧
            (t.heads[h].queue.head?).map TrackRecord.active = some true ∧
            (t.heads[h].queue.head?).map TrackRecord.track = some q.track ∧
            t.pipes[h].wearTerm = some (min ((s.tlm.wear[h]).toNat / calWearInterval cal * calWearStep cal)
              (calWearCap cal))) ∧
          (rest = [] ∨ (∃ q more, rest = q :: more ∧ s.readyToStart q = false) ∨ c.positioned = false ∨ owed = true →
            t.heads[h].state = (if s.waitLimit < 1 then .stalled else .waiting) ∧ t.heads[h].wait = 1 ∧
            t.heads[h].idleRevs = satInc c.idleRevs ∧ t.pipes[h].wearTerm = none))

/-- The same index, while the lane is not free: a revolution that it ends with cells not strobed raises SHORT_REV with
their number over both phases, and one that ends whole does not; every pending commit is copied and no mark stays, and,
where no cell was dropped, COMMIT_APPLIED carries the two masks with occasion INDEX, once, and the heads whose HEAD_CAL
was copied. The times inactive and held as operands, and the row's tick as the arrival's, are the model's choice
(assumption 5). -/
def Obligations.IndexRaisesShortRevAndAppliesCommits : Prop :=
  ∀ (s : State) (low held tick : Nat), 4 ≤ held → s.stu.index = false ∨ 4 ≤ low →
    (s.stu.state = .locked → ∃ last, s.stu.tPrev = some last ∧ s.inTolerance (max s.now tick - last) = true) →
    s.noActions → s.laneFree = false →
      let undue := match s.stu.rev with | none => 0 | some v => (v.cells - v.posA) + (v.cells - v.posB)
      let gathered (k : EventKind) (mask : BitVec 8) (detail : Word32) : Option Pending :=
        match s.evr.records[k.num] with
        | none => some { count := 1, mask, detail }
        | some p => some { p with count := min (p.count + 1) 255, mask := p.mask ||| mask }
      let grad := s.tlm.gradPending
      let cal := s.tlm.calPending
      ∃ t : State, exec (.index ⟨low, held⟩ tick) s = .next t ∧
        t.evr.records[EventKind.shortRev.num] =
          (if undue = 0 ∨ s.level .shortRev = 0 then s.evr.records[EventKind.shortRev.num]
          else gathered .shortRev 0 (BitVec.ofNat 32 undue)) ∧
        t.tlm = s.tlm.copyShadows grad cal ∧ t.tlm.gradPending = 0 ∧ t.tlm.calPending = 0 ∧
        (undue = 0 →
          t.evr.records[EventKind.commitApplied.num] =
            if (grad = 0 ∧ cal = 0) ∨ s.level .commitApplied = 0 then s.evr.records[EventKind.commitApplied.num]
            else gathered .commitApplied cal (commitDetail grad cal .index))

/-- The index timeout: nothing happens before more than 2 × P_nom has passed since T_prev or with no T_prev; then the
measurement is cleared, no revolution is strobed, and SPIN_NO_SIGNAL carries the cells dropped; a RUNNING or HALTING job
is FAULTED, and the heads in motion are STOPPED. That a timeout presented early does nothing is the model's choice
(assumption 3). -/
def Obligations.IndexTimeoutSilencesSpindle : Prop :=
  ∀ (s : State) (tick : Nat),
    let now := max s.now tick
    let silent : Spindle :=
      { state := .noSignal, ring := Vector.replicate 4 none, writePtr := 0, valid := 0, tPrev := none, run := s.stu.run,
        pAvg := 0, rev := none, index := s.stu.index, indexPin := s.stu.indexPin }
    let dropped := match s.stu.rev with | none => 0 | some r => (r.cells - r.posA) + (r.cells - r.posB)
    (s.stu.state = .noSignal ∨ s.stu.tPrev = none ∨ (∃ last, s.stu.tPrev = some last ∧ now ≤ last + 2 * s.nominal) →
      exec (.indexTimeout tick) s = .next (s.at tick)) ∧
    ∀ last, s.stu.state ≠ .noSignal → s.stu.tPrev = some last → last + 2 * s.nominal < now →
      (s.jcu.state ≠ .running → s.jcu.state ≠ .halting →
        exec (.indexTimeout tick) s =
          .next (({ s.at tick with stu := silent }).within fun u =>
            u.raisePlain .spinNoSignal (plainDetail dropped))) ∧
      (s.jcu.state = .running ∨ s.jcu.state = .halting → s.noActions →
        ∃ t : State, exec (.indexTimeout tick) s = .next t ∧ t.stu = silent ∧ t.jcu = { s.jcu with state := .faulted } ∧
          (∀ h : Head, t.heads[h].state = if s.heads[h].state.trips then .stopped else s.heads[h].state) ∧
          t.tlm = s.tlm.copyShadows s.tlm.gradPending s.tlm.calPending ∧ t.ports = s.ports ∧ t.cfu = s.cfu ∧
          t.cca.samples = s.cca.samples)

/-- No strobe is produced before the due time of a phase's next cell, after its last cell, or outside a strobed
revolution; at the due time the position advances by 1, heads on the other phase and IDLE heads take nothing, and a head
that does not engrave delivers its rest word with one LOAD pulse. That a strobe presented early does nothing is the
model's choice (assumption 3). -/
def Obligations.StrobeAtDueTime : Prop :=
  ∀ (s : State) (ph : Phase) (tick : Nat),
    let now := max s.now tick
    let due (r : Revolution) : Nat := match ph with
      | .a => r.tIdx + r.posA * r.period / r.cells
      | .b => r.tIdx + (2 * r.posB + 1) * r.period / (2 * r.cells)
    let pos (r : Revolution) : Nat := match ph with | .a => r.posA | .b => r.posB
    (s.stu.rev = none ∨ (∃ r, s.stu.rev = some r ∧ (r.cells ≤ pos r ∨ now < due r)) →
      exec (.cellStrobe ph tick) s = .next (s.at tick)) ∧
    ∀ r, s.stu.rev = some r → pos r < r.cells → due r ≤ now → s.noActions →
      ∃ t : State, exec (.cellStrobe ph tick) s = .next t ∧
        t.stu = { s.stu with rev := some (match ph with
          | .a => { r with posA := r.posA + 1 } | .b => { r with posB := r.posB + 1 }) } ∧
        (∀ h : Head, s.ports[h].phase ≠ ph ∨ s.heads[h].state = .idle →
          t.ports[h] = s.ports[h] ∧ t.heads[h] = s.heads[h] ∧ t.pipes[h] = s.pipes[h] ∧ t.tlm.wear[h] = s.tlm.wear[h]) ∧
        (∀ h : Head, s.ports[h].phase = ph → s.heads[h].state ≠ .idle → s.heads[h].state ≠ .engraving →
          s.heads[h].state ≠ .stopping →
          t.ports[h] = { s.ports[h] with
            loads := s.ports[h].loads + 1
            loadTick := some now
            word := cellWord (calRest s.tlm.calsActive[h]) false ph (pos r == 0 && s.heads[h].activeRecord.isSome) } ∧
          t.heads[h] = s.heads[h] ∧ t.pipes[h] = s.pipes[h] ∧ t.tlm.wear[h] = s.tlm.wear[h]) ∧
        t.jcu = s.jcu ∧ t.cca = s.cca ∧ t.cfu = s.cfu ∧ t.tlm.calsActive = s.tlm.calsActive

/-- The strobe of a cell at a head that engraves on its phase: in the step window the rest word, with STEP raised and
the next track moved on at cell C − S unless the track is the last; before it the word of the computed cell, with the
wear count and the cells-engraved counter advanced for an engraved cell, the suppressed counter and the defect mark for
a suppressed one, and the rest word and no count for a no-cell. LOAD gives one pulse for the word. -/
def Obligations.StrobeDeliversCell : Prop :=
  ∀ (s : State) (ph : Phase) (h : Head) (rec : TrackRecord) (r : Revolution) (tick : Nat),
    s.stu.rev = some r → r.pos ph < r.cells → r.due ph (r.pos ph) ≤ max s.now tick → s.noActions →
    s.ports[h].phase = ph → s.heads[h].state = .engraving ∨ s.heads[h].state = .stopping →
    s.heads[h].activeRecord = some rec →
      let c := r.pos ph
      let rest := cellWord (calRest s.tlm.calsActive[h]) false ph (c == 0)
      ∃ t : State, exec (.cellStrobe ph tick) s = .next t ∧
        t.ports[h].loads = s.ports[h].loads + 1 ∧ t.ports[h].loadTick = some (max s.now tick) ∧
        (s.cells - s.window ≤ c →
          t.ports[h].word = rest ∧ t.pipes[h] = s.pipes[h] ∧ t.tlm.wear[h] = s.tlm.wear[h] ∧
          (if c = s.cells - s.window ∧ rec.track < s.lastTrack h
            then t.ports[h].step = true ∧
              t.heads[h] = { s.heads[h] with nextTrack := rec.track + 1, positioned := false }
            else t.ports[h].step = s.ports[h].step ∧ t.heads[h] = s.heads[h])) ∧
        (c < s.cells - s.window →
          t.ports[h].step = s.ports[h].step ∧
          match s.computeCell h rec c with
          | .noCell => t.ports[h].word = rest ∧ t.heads[h] = s.heads[h] ∧ t.pipes[h] = s.pipes[h] ∧
              t.tlm.wear[h] = s.tlm.wear[h]
          | .suppressed => t.ports[h].word = rest ∧ t.tlm.wear[h] = s.tlm.wear[h] ∧
              t.pipes[h] = { s.pipes[h] with suppressed := satInc s.pipes[h].suppressed } ∧
              (t.heads[h].queue.head?).map TrackRecord.suppressed = some true
          | .engraved code limit => t.ports[h].word = cellWord code true ph (c == 0) ∧
              t.tlm.wear[h] = satInc s.tlm.wear[h] ∧ t.heads[h] = s.heads[h] ∧
              t.pipes[h] = { s.pipes[h] with
                engraved := satInc s.pipes[h].engraved
                saturations := if limit.isSome then satInc s.pipes[h].saturations else s.pipes[h].saturations })

/-- The tone of a sample word of a tile in range is at most 1,023, and the depth of such a tone under a calibration and
a gradation table in range is at most 4,095, 0 below the cut tone, and otherwise 0 or at least the floor depth; an
engraved cell carries a drive code between drive_min and drive_max of the active calibration, the limit itself where a
limit set it. -/
def Obligations.TonesDepthsAndCodesStayInRange : Prop :=
  (∀ (s : State) (h : Head) (r : TrackRecord) (c code : Nat) (limit : Option Bool), s.tablesInRange →
    s.computeCell h r c = .engraved code limit →
      calDriveMin s.tlm.calsActive[h] ≤ code ∧ code ≤ calDriveMax s.tlm.calsActive[h] ∧ code ≤ 4095 ∧
      (limit = some true → code = calDriveMax s.tlm.calsActive[h]) ∧
      (limit = some false → code = calDriveMin s.tlm.calsActive[h])) ∧
  ∀ (tile table cal g : Items) (word : Item) (tone : Nat),
    ObjKind.tile.inRange tile → ObjKind.expand.inRange table → ObjKind.headCal.inRange cal → ObjKind.grad.inRange g →
    sampleTone tile table word ≤ 1023 ∧
    (tone ≤ 1023 →
      depthOfTone cal g tone ≤ 4095 ∧
      (tone < calCut cal → depthOfTone cal g tone = 0) ∧
      (depthOfTone cal g tone = 0 ∨ calFloor cal ≤ depthOfTone cal g tone))

/-! ## Head ports (chapter 7) -/

/-- A STEP_DONE taken while STEP is raised lowers STEP and sets positioned true in every head state; taken while STEP is
low it changes neither. A fault edge in PER_CELL mode, or in LATCHED mode at a head that is not WAITING, ENGRAVING,
STOPPING or STALLED, sets the FAULT level alone. A level held for fewer than 4 ticks, or already taken, changes only the
pin. Each release only lowers the filtered level, once held for 4 ticks. The time held as an operand, and the inputs'
own levels, are the model's choice (assumption 5). -/
def Obligations.PortInputsSetTheirLevels : Prop :=
  (∀ (s : State) (h : Head) (held tick : Nat),
    let u := s.at tick
    (held < 4 ∨ s.ports[h].stepDone = true →
      exec (.stepDone h held tick) s =
        .next { u with ports := s.ports.set h { s.ports[h] with stepDonePin := true } }) ∧
    (4 ≤ held → s.ports[h].stepDone = false → s.ports[h].step = true →
      exec (.stepDone h held tick) s =
        .next { u with
          ports := s.ports.set h { s.ports[h] with stepDonePin := true, stepDone := true, step := false }
          heads := s.heads.set h { s.heads[h] with positioned := true } }) ∧
    (4 ≤ held → s.ports[h].stepDone = false → s.ports[h].step = false →
      exec (.stepDone h held tick) s =
        .next { u with ports := s.ports.set h { s.ports[h] with stepDonePin := true, stepDone := true } }) ∧
    exec (.stepDoneRelease h held tick) s =
      .next { u with
        ports := s.ports.set h
          { s.ports[h] with stepDonePin := false, stepDone := s.ports[h].stepDone && decide (held < 4) } }) ∧
  ∀ (s : State) (h : Head) (held tick : Nat),
    (held < 4 ∨ s.ports[h].fault = true →
      exec (.faultEdge h held tick) s =
        .next { s.at tick with ports := s.ports.set h { s.ports[h] with faultPin := true } }) ∧
    (4 ≤ held → s.ports[h].fault = false → s.perCell h = true ∨ s.heads[h].state.trips = false →
      exec (.faultEdge h held tick) s =
        .next { s.at tick with ports := s.ports.set h { s.ports[h] with faultPin := true, fault := true } }) ∧
    exec (.faultRelease h held tick) s =
      .next { s.at tick with
        ports := s.ports.set h { s.ports[h] with faultPin := false, fault := s.ports[h].fault && decide (held < 4) } }

/-- A fault edge in LATCHED mode trips an enabled head that is WAITING, ENGRAVING, STOPPING or STALLED, outside a
HALTING job and with no routing action: TRIPPED, no PLANNED record, a track in progress counted DEFECT, STEP unchanged,
and the job and the other heads unchanged. Where HEAD_TRIP alone has a routing action, ABORT_JOB, and the job is
RUNNING, the same edge leaves the job HALTED and no head WAITING, ENGRAVING, STOPPING or STALLED. The time held as an
operand is the model's choice (assumption 5). -/
def Obligations.FaultEdgeTripsLatchedHead : Prop :=
  (∀ (s : State) (h : Head) (held tick : Nat),
    4 ≤ held → s.ports[h].fault = false → s.perCell h = false → s.enabled h = true → s.jcu.state ≠ .halting →
    s.noActions → s.heads[h].state.trips = true →
      ∃ t : State, exec (.faultEdge h held tick) s = .next t ∧
        t.heads[h].state = .tripped ∧ (∀ r ∈ t.heads[h].queue, r.active = true) ∧
        t.heads[h].tracksDefective = (if s.heads[h].activeRecord.isSome then satInc s.heads[h].tracksDefective
          else s.heads[h].tracksDefective) ∧
        t.ports = s.ports.set h { s.ports[h] with faultPin := true, fault := true } ∧
        (∀ g : Head, g ≠ h → t.heads[g] = s.heads[g] ∧ t.pipes[g] = s.pipes[g]) ∧
        t.jcu = s.jcu ∧ t.tlm = s.tlm ∧ t.stu = s.stu ∧ t.cfu = s.cfu ∧ t.cca.lru = s.cca.lru ∧
        t.cca.samples = s.cca.samples) ∧
  ∀ (s : State) (h : Head) (held tick : Nat),
    4 ≤ held → s.ports[h].fault = false → s.perCell h = false → s.enabled h = true → s.jcu.state = .running →
    s.heads[h].state.trips = true → s.routeAction .headTrip = .abortJob →
    (∀ k : EventKind, k ≠ .headTrip → s.routeAction k = .none) →
      ∃ t : State, exec (.faultEdge h held tick) s = .next t ∧ t.jcu = { s.jcu with state := .halted } ∧
        t.heads[h].state = .tripped ∧ ∀ g : Head, t.heads[g].state.trips = false

/-! ## Events (chapter 11) -/

/-- While the upstream lane is not free and no kind has a routing action, an occurrence is gathered in the record of its
kind: none at level 0; count 1 with its own detail and mask when the record is clear; and otherwise a count one higher,
255 at most, its head added to the mask, the first detail kept. Stated of STRAY_DATA, which names no head, and of the
HEAD_TRIP of a WAITING head with no track in progress. The time held as an operand is the model's choice (assumption 5).
-/
def Obligations.OccurrencesGatherInOneRecord : Prop :=
  (∀ (s : State) (sg : Segment) (tick : Nat), s.takes (columnDataFrame sg) → s.noActions →
    s.lnk.sending.isSome = true ∨ s.lnk.state ≠ .up → (∀ r ∈ s.cfu.requests, r.id ≠ sg.id) → sg.id ≠ 0 →
      let gathered : Pending := match s.evr.records[EventKind.strayData.num] with
        | none => { count := 1, mask := 0, detail := strayDetail sg.id.toNat sg.tile.toNat sg.column.toNat }
        | some p => { p with count := min (p.count + 1) 255 }
      exec (.columnData sg tick) s =
        .next { s.taken tick with evr := { s.evr with
          records := if s.level .strayData = 0 then s.evr.records
            else s.evr.records.set EventKind.strayData.num (some gathered) } }) ∧
  ∀ (s : State) (h : Head) (tick : Nat), s.noActions → s.lnk.sending.isSome = true ∨ s.lnk.state ≠ .up →
    s.ports[h].fault = false → s.perCell h = false → s.enabled h = true → s.jcu.state ≠ .halting →
    s.heads[h].state = .waiting → s.heads[h].activeRecord = none →
      let gathered : Pending := match s.evr.records[EventKind.headTrip.num] with
        | none => { count := 1, mask := 1#8 <<< h.val, detail := tripDetail s.heads[h].nextTrack .edge .waiting }
        | some p => { p with count := min (p.count + 1) 255, mask := p.mask ||| 1#8 <<< h.val }
      ∃ t : State, exec (.faultEdge h 4 tick) s = .next t ∧
        t.evr = { s.evr with
          records := if s.level .headTrip = 0 then s.evr.records
            else s.evr.records.set EventKind.headTrip.num (some gathered) }

/-! ## Frames and their encoding (chapter 12) -/

/-- The receiver reads back every frame of at most 1,056 payload bytes from the bytes that cross the lane, whatever
follows them: header, payload and CRC agree. -/
def Obligations.ReceiverReadsFrameBytes : Prop :=
  ∀ (f : Frame) (after : List Byte), f.payload.length ≤ 1056 → receive (f.bytes ++ after) = .valid f

/-- Decoding at dispatch reads back, from the frame of Tables 12.2 to 12.4, every segment, table write, table read and
command with every operand at every value that its frame carries. -/
def Obligations.DispatchReadsBackFrames : Prop :=
  (∀ sg : Segment, sg.words.length ≤ largestSegment → decodeFrame (columnDataFrame sg) = .segment sg) ∧
  (∀ (tag kind copy : Byte) (start : Item) (items : Items), items.length ≤ largestWrite →
    decodeFrame (tableWriteFrame tag kind copy start items) = .tableWrite tag kind copy start items) ∧
  (∀ (tag kind copy : Byte) (start count : Item),
    decodeFrame (tableReadFrame tag kind copy start count) = .tableRead tag kind copy start count) ∧
  ∀ (tag code a : Byte) (b c : Item), knownCode code = true →
    decodeFrame (commandFrame tag code a b c) = .command tag code (argA code a) (argB code a b) (argC code a c)

/-! ## Invariants that every step keeps -/

/-- THE MODEL'S OWN REPRESENTATION (assumption 22, with the unwritten word of assumption 6): the sample words of the
slots are held as one list of written words in canonical form, and every step keeps that form. -/
def Obligations.StepKeepsSamplesCanonical : Prop :=
  ∀ s t : State, s.samplesCanonical → step s = .next t → t.samplesCanonical

/-- Every step keeps at most one locked slot in a set, and locked slots RESIDENT. -/
def Obligations.StepKeepsOneLockPerSet : Prop :=
  ∀ s t : State, s.oneLock → step s = .next t → t.oneLock

/-- Every step keeps the inbound buffer and the reply queues within their capacities, a place for the
answer of a read in progress among them, and leaves no routing action due. -/
def Obligations.StepKeepsQueuesWithinCapacity : Prop :=
  (∀ s t : State, s.queuesFit → step s = .next t → t.queuesFit) ∧
  ∀ s t : State, s.actionsTaken → step s = .next t → t.actionsTaken

/-- Every step keeps the head states in agreement with the job state, the enables and the FAULT levels. -/
def Obligations.StepKeepsHeadsInAgreement : Prop :=
  ∀ s t : State, s.headsAgree → step s = .next t → t.headsAgree

/-- Every step keeps the request list and the FILLING slots in answer to one another. -/
def Obligations.StepKeepsFillsListed : Prop :=
  ∀ s t : State, s.fillsListed → step s = .next t → t.fillsListed

/-- Every step keeps every table object at its length with its fields in their ranges, and keeps commit-pending marks to
RUNNING and HALTING jobs. -/
def Obligations.StepKeepsTablesInRange : Prop :=
  (∀ s t : State, s.tablesInRange → step s = .next t → t.tablesInRange) ∧
  ∀ s t : State, s.marksInMotion → step s = .next t → t.marksInMotion

/-- Every step keeps the pin count of every slot equal to the number of track records that name it, and keeps every track
queue, of heads that agree with the job, within 1 + lookahead records, with no record while the job is IDLE. -/
def Obligations.StepKeepsPinsCounted : Prop :=
  (∀ s t : State, s.pinsCounted → step s = .next t → t.pinsCounted) ∧
  ∀ s t : State, s.headsAgree → s.queuesBounded → step s = .next t → t.queuesBounded
end

