-- ==== Sys2Proof/Laws/State.lean ====
section
/-! SUPPORT. Laws/State.lean: what each update of a part of State leaves and what it writes, field by field. -/

namespace Sys2Proof.Machine

/-- What `State.at` leaves. -/
@[simp] theorem State.at_keeps (s : State) (n : Nat) :
    (s.at n).jcu = s.jcu ∧ (s.at n).stu = s.stu ∧ (s.at n).cfu = s.cfu ∧ (s.at n).pending = s.pending ∧
    (s.at n).heads = s.heads ∧ (s.at n).pipes = s.pipes ∧ (s.at n).ports = s.ports ∧ (s.at n).cca = s.cca ∧
    (s.at n).tlm = s.tlm ∧ (s.at n).lnk = s.lnk ∧ (s.at n).evr = s.evr :=
  by and_intros <;> rfl

@[simp] theorem State.at_now (s : State) (n : Nat) : (s.at n).now = max s.now n := rfl

/-- What `State.modHead` leaves. -/
@[simp] theorem State.modHead_keeps (s : State) (h : Head) (f : Channel → Channel) :
    (s.modHead h f).jcu = s.jcu ∧ (s.modHead h f).stu = s.stu ∧ (s.modHead h f).cfu = s.cfu ∧
    (s.modHead h f).now = s.now ∧ (s.modHead h f).pending = s.pending ∧ (s.modHead h f).pipes = s.pipes ∧
    (s.modHead h f).ports = s.ports ∧ (s.modHead h f).cca = s.cca ∧ (s.modHead h f).tlm = s.tlm ∧
    (s.modHead h f).lnk = s.lnk ∧ (s.modHead h f).evr = s.evr :=
  by and_intros <;> rfl

@[simp] theorem State.modHead_heads (s : State) (h : Head) (f : Channel → Channel) :
    (s.modHead h f).heads = s.heads.set h (f s.heads[h]) := rfl

/-- What `State.modPipe` leaves. -/
@[simp] theorem State.modPipe_keeps (s : State) (h : Head) (f : Pipe → Pipe) :
    (s.modPipe h f).jcu = s.jcu ∧ (s.modPipe h f).stu = s.stu ∧ (s.modPipe h f).cfu = s.cfu ∧
    (s.modPipe h f).now = s.now ∧ (s.modPipe h f).pending = s.pending ∧ (s.modPipe h f).heads = s.heads ∧
    (s.modPipe h f).ports = s.ports ∧ (s.modPipe h f).cca = s.cca ∧ (s.modPipe h f).tlm = s.tlm ∧
    (s.modPipe h f).lnk = s.lnk ∧ (s.modPipe h f).evr = s.evr :=
  by and_intros <;> rfl

@[simp] theorem State.modPipe_pipes (s : State) (h : Head) (f : Pipe → Pipe) :
    (s.modPipe h f).pipes = s.pipes.set h (f s.pipes[h]) := rfl

/-- What `State.modPort` leaves. -/
@[simp] theorem State.modPort_keeps (s : State) (h : Head) (f : Port → Port) :
    (s.modPort h f).jcu = s.jcu ∧ (s.modPort h f).stu = s.stu ∧ (s.modPort h f).cfu = s.cfu ∧
    (s.modPort h f).now = s.now ∧ (s.modPort h f).pending = s.pending ∧ (s.modPort h f).heads = s.heads ∧
    (s.modPort h f).pipes = s.pipes ∧ (s.modPort h f).cca = s.cca ∧ (s.modPort h f).tlm = s.tlm ∧
    (s.modPort h f).lnk = s.lnk ∧ (s.modPort h f).evr = s.evr :=
  by and_intros <;> rfl

@[simp] theorem State.modPort_ports (s : State) (h : Head) (f : Port → Port) :
    (s.modPort h f).ports = s.ports.set h (f s.ports[h]) := rfl

/-- What `State.modSlot` leaves. -/
@[simp] theorem State.modSlot_keeps (s : State) (n : Fin 64) (f : Slot → Slot) :
    (s.modSlot n f).jcu = s.jcu ∧ (s.modSlot n f).stu = s.stu ∧ (s.modSlot n f).cfu = s.cfu ∧
    (s.modSlot n f).now = s.now ∧ (s.modSlot n f).pending = s.pending ∧ (s.modSlot n f).heads = s.heads ∧
    (s.modSlot n f).pipes = s.pipes ∧ (s.modSlot n f).ports = s.ports ∧ (s.modSlot n f).cca.lru = s.cca.lru ∧
    (s.modSlot n f).cca.samples = s.cca.samples ∧ (s.modSlot n f).tlm = s.tlm ∧ (s.modSlot n f).lnk = s.lnk ∧
    (s.modSlot n f).evr = s.evr :=
  by and_intros <;> rfl

@[simp] theorem State.modSlot_cca_slots (s : State) (n : Fin 64) (f : Slot → Slot) :
    (s.modSlot n f).cca.slots = s.cca.slots.set n (f s.cca.slots[n]) := rfl

/-- What `State.setLru` leaves. -/
@[simp] theorem State.setLru_keeps (s : State) (n : Fin 32) (w : Way) :
    (s.setLru n w).jcu = s.jcu ∧ (s.setLru n w).stu = s.stu ∧ (s.setLru n w).cfu = s.cfu ∧
    (s.setLru n w).now = s.now ∧ (s.setLru n w).pending = s.pending ∧ (s.setLru n w).heads = s.heads ∧
    (s.setLru n w).pipes = s.pipes ∧ (s.setLru n w).ports = s.ports ∧ (s.setLru n w).cca.slots = s.cca.slots ∧
    (s.setLru n w).cca.samples = s.cca.samples ∧ (s.setLru n w).tlm = s.tlm ∧ (s.setLru n w).lnk = s.lnk ∧
    (s.setLru n w).evr = s.evr :=
  by and_intros <;> rfl

@[simp] theorem State.setLru_cca_lru (s : State) (n : Fin 32) (w : Way) :
    (s.setLru n w).cca.lru = s.cca.lru.set n w := rfl

/-- What `State.setDue` leaves. -/
@[simp] theorem State.setDue_keeps (s : State) (d : List DueAction) :
    (s.setDue d).jcu = s.jcu ∧ (s.setDue d).stu = s.stu ∧ (s.setDue d).cfu = s.cfu ∧ (s.setDue d).now = s.now ∧
    (s.setDue d).pending = s.pending ∧ (s.setDue d).heads = s.heads ∧ (s.setDue d).pipes = s.pipes ∧
    (s.setDue d).ports = s.ports ∧ (s.setDue d).cca = s.cca ∧ (s.setDue d).tlm = s.tlm ∧
    (s.setDue d).lnk = s.lnk ∧ (s.setDue d).evr.records = s.evr.records :=
  by and_intros <;> rfl

@[simp] theorem State.setDue_evr_due (s : State) (d : List DueAction) : (s.setDue d).evr.due = d := rfl

/-- What `State.setHeadState` leaves. -/
@[simp] theorem State.setHeadState_keeps (s : State) (h : Head) (x : HeadState) :
    (s.setHeadState h x).jcu = s.jcu ∧ (s.setHeadState h x).stu = s.stu ∧ (s.setHeadState h x).cfu = s.cfu ∧
    (s.setHeadState h x).now = s.now ∧ (s.setHeadState h x).pending = s.pending ∧
    (s.setHeadState h x).pipes = s.pipes ∧ (s.setHeadState h x).ports = s.ports ∧
    (s.setHeadState h x).cca = s.cca ∧ (s.setHeadState h x).tlm = s.tlm ∧ (s.setHeadState h x).lnk = s.lnk ∧
    (s.setHeadState h x).evr = s.evr :=
  by and_intros <;> rfl

@[simp] theorem State.setHeadState_heads (s : State) (h : Head) (x : HeadState) :
    (s.setHeadState h x).heads = s.heads.set h { s.heads[h] with state := x } := rfl

/-- What `State.appendRecord` leaves. -/
@[simp] theorem State.appendRecord_keeps (s : State) (h : Head) :
    (s.appendRecord h).jcu = s.jcu ∧ (s.appendRecord h).stu = s.stu ∧ (s.appendRecord h).cfu = s.cfu ∧
    (s.appendRecord h).now = s.now ∧ (s.appendRecord h).pending = s.pending ∧
    (s.appendRecord h).pipes = s.pipes ∧ (s.appendRecord h).ports = s.ports ∧ (s.appendRecord h).cca = s.cca ∧
    (s.appendRecord h).tlm = s.tlm ∧ (s.appendRecord h).lnk = s.lnk ∧ (s.appendRecord h).evr = s.evr :=
  by and_intros <;> rfl

/-- What `State.setRecordSlot` leaves. -/
@[simp] theorem State.setRecordSlot_keeps (s : State) (h : Head) (j : Nat) (k : Key) (n : Fin 64) :
    (s.setRecordSlot h j k n).jcu = s.jcu ∧ (s.setRecordSlot h j k n).stu = s.stu ∧
    (s.setRecordSlot h j k n).cfu = s.cfu ∧ (s.setRecordSlot h j k n).now = s.now ∧
    (s.setRecordSlot h j k n).pending = s.pending ∧ (s.setRecordSlot h j k n).pipes = s.pipes ∧
    (s.setRecordSlot h j k n).ports = s.ports ∧ (s.setRecordSlot h j k n).cca = s.cca ∧
    (s.setRecordSlot h j k n).tlm = s.tlm ∧ (s.setRecordSlot h j k n).lnk = s.lnk ∧
    (s.setRecordSlot h j k n).evr = s.evr :=
  by and_intros <;> rfl

/-- What `State.raiseStep` leaves. -/
@[simp] theorem State.raiseStep_keeps (s : State) (h : Head) :
    (s.raiseStep h).jcu = s.jcu ∧ (s.raiseStep h).stu = s.stu ∧ (s.raiseStep h).cfu = s.cfu ∧
    (s.raiseStep h).now = s.now ∧ (s.raiseStep h).pending = s.pending ∧ (s.raiseStep h).heads = s.heads ∧
    (s.raiseStep h).pipes = s.pipes ∧ (s.raiseStep h).cca = s.cca ∧ (s.raiseStep h).tlm = s.tlm ∧
    (s.raiseStep h).lnk = s.lnk ∧ (s.raiseStep h).evr = s.evr :=
  by and_intros <;> rfl

@[simp] theorem State.raiseStep_ports (s : State) (h : Head) :
    (s.raiseStep h).ports = s.ports.set h { s.ports[h] with step := true } := rfl

/-- What `State.deliver` leaves. -/
@[simp] theorem State.deliver_keeps (s : State) (h : Head) (w : BitVec 16) :
    (s.deliver h w).jcu = s.jcu ∧ (s.deliver h w).stu = s.stu ∧ (s.deliver h w).cfu = s.cfu ∧
    (s.deliver h w).now = s.now ∧ (s.deliver h w).pending = s.pending ∧ (s.deliver h w).heads = s.heads ∧
    (s.deliver h w).pipes = s.pipes ∧ (s.deliver h w).cca = s.cca ∧ (s.deliver h w).tlm = s.tlm ∧
    (s.deliver h w).lnk = s.lnk ∧ (s.deliver h w).evr = s.evr :=
  by and_intros <;> rfl

@[simp] theorem State.deliver_ports (s : State) (h : Head) (w : BitVec 16) :
    (s.deliver h w).ports = s.ports.set h { s.ports[h] with word := w, loads := s.ports[h].loads + 1, loadTick := some s.now } := rfl

/-- What `State.touch` leaves. -/
@[simp] theorem State.touch_keeps (s : State) (n : Fin 64) :
    (s.touch n).jcu = s.jcu ∧ (s.touch n).stu = s.stu ∧ (s.touch n).cfu = s.cfu ∧ (s.touch n).now = s.now ∧
    (s.touch n).pending = s.pending ∧ (s.touch n).heads = s.heads ∧ (s.touch n).pipes = s.pipes ∧
    (s.touch n).ports = s.ports ∧ (s.touch n).cca.slots = s.cca.slots ∧
    (s.touch n).cca.samples = s.cca.samples ∧ (s.touch n).tlm = s.tlm ∧ (s.touch n).lnk = s.lnk ∧
    (s.touch n).evr = s.evr :=
  by and_intros <;> rfl

/-- What `State.pin` leaves. -/
@[simp] theorem State.pin_keeps (s : State) (n : Fin 64) :
    (s.pin n).jcu = s.jcu ∧ (s.pin n).stu = s.stu ∧ (s.pin n).cfu = s.cfu ∧ (s.pin n).now = s.now ∧
    (s.pin n).pending = s.pending ∧ (s.pin n).heads = s.heads ∧ (s.pin n).pipes = s.pipes ∧
    (s.pin n).ports = s.ports ∧ (s.pin n).cca.samples = s.cca.samples ∧ (s.pin n).tlm = s.tlm ∧
    (s.pin n).lnk = s.lnk ∧ (s.pin n).evr = s.evr :=
  by and_intros <;> rfl

@[simp] theorem State.pin_cca_slots (s : State) (n : Fin 64) :
    (s.pin n).cca.slots = s.cca.slots.set n { s.cca.slots[n] with pins := s.cca.slots[n].pins + 1 } := rfl

/-- What `State.unpin` leaves. -/
@[simp] theorem State.unpin_keeps (s : State) (n : Fin 64) :
    (s.unpin n).jcu = s.jcu ∧ (s.unpin n).stu = s.stu ∧ (s.unpin n).cfu = s.cfu ∧ (s.unpin n).now = s.now ∧
    (s.unpin n).pending = s.pending ∧ (s.unpin n).heads = s.heads ∧ (s.unpin n).pipes = s.pipes ∧
    (s.unpin n).ports = s.ports ∧ (s.unpin n).cca.lru = s.cca.lru ∧ (s.unpin n).cca.samples = s.cca.samples ∧
    (s.unpin n).tlm = s.tlm ∧ (s.unpin n).lnk = s.lnk ∧ (s.unpin n).evr = s.evr :=
  by and_intros <;> rfl

@[simp] theorem State.unpin_cca_slots (s : State) (n : Fin 64) :
    (s.unpin n).cca.slots = s.cca.slots.set n { s.cca.slots[n] with pins := s.cca.slots[n].pins - 1 } := rfl

/-- What `State.allocate` leaves. -/
@[simp] theorem State.allocate_keeps (s : State) (n : Fin 64) (k : Key) (p : Nat) :
    (s.allocate n k p).jcu = s.jcu ∧ (s.allocate n k p).stu = s.stu ∧ (s.allocate n k p).cfu = s.cfu ∧
    (s.allocate n k p).now = s.now ∧ (s.allocate n k p).pending = s.pending ∧
    (s.allocate n k p).heads = s.heads ∧ (s.allocate n k p).pipes = s.pipes ∧
    (s.allocate n k p).ports = s.ports ∧ (s.allocate n k p).cca.samples = s.cca.samples ∧
    (s.allocate n k p).tlm = s.tlm ∧ (s.allocate n k p).lnk = s.lnk ∧ (s.allocate n k p).evr = s.evr :=
  by and_intros <;> rfl

@[simp] theorem State.allocate_cca_slots (s : State) (n : Fin 64) (k : Key) (p : Nat) :
    (s.allocate n k p).cca.slots = s.cca.slots.set n { state := .filling, key := some k, lock := false, pins := p, fill := 0 } := rfl

/-- What `State.emptySlot` leaves. -/
@[simp] theorem State.emptySlot_keeps (s : State) (n : Fin 64) :
    (s.emptySlot n).jcu = s.jcu ∧ (s.emptySlot n).stu = s.stu ∧ (s.emptySlot n).cfu = s.cfu ∧
    (s.emptySlot n).now = s.now ∧ (s.emptySlot n).pending = s.pending ∧ (s.emptySlot n).heads = s.heads ∧
    (s.emptySlot n).pipes = s.pipes ∧ (s.emptySlot n).ports = s.ports ∧ (s.emptySlot n).cca.lru = s.cca.lru ∧
    (s.emptySlot n).cca.samples = s.cca.samples ∧ (s.emptySlot n).tlm = s.tlm ∧ (s.emptySlot n).lnk = s.lnk ∧
    (s.emptySlot n).evr = s.evr :=
  by and_intros <;> rfl

@[simp] theorem State.emptySlot_cca_slots (s : State) (n : Fin 64) :
    (s.emptySlot n).cca.slots = s.cca.slots.set n Slot.empty := rfl

/-- What `State.setLock` leaves. -/
@[simp] theorem State.setLock_keeps (s : State) (n : Fin 64) (b : Bool) :
    (s.setLock n b).jcu = s.jcu ∧ (s.setLock n b).stu = s.stu ∧ (s.setLock n b).cfu = s.cfu ∧
    (s.setLock n b).now = s.now ∧ (s.setLock n b).pending = s.pending ∧ (s.setLock n b).heads = s.heads ∧
    (s.setLock n b).pipes = s.pipes ∧ (s.setLock n b).ports = s.ports ∧ (s.setLock n b).cca.lru = s.cca.lru ∧
    (s.setLock n b).cca.samples = s.cca.samples ∧ (s.setLock n b).tlm = s.tlm ∧ (s.setLock n b).lnk = s.lnk ∧
    (s.setLock n b).evr = s.evr :=
  by and_intros <;> rfl

@[simp] theorem State.setLock_cca_slots (s : State) (n : Fin 64) (b : Bool) :
    (s.setLock n b).cca.slots = s.cca.slots.set n { s.cca.slots[n] with lock := b } := rfl

/-- What `State.storeSegment` leaves. -/
@[simp] theorem State.storeSegment_keeps (s : State) (n : Fin 64) (sg : Segment) :
    (s.storeSegment n sg).jcu = s.jcu ∧ (s.storeSegment n sg).stu = s.stu ∧ (s.storeSegment n sg).cfu = s.cfu ∧
    (s.storeSegment n sg).now = s.now ∧ (s.storeSegment n sg).pending = s.pending ∧
    (s.storeSegment n sg).heads = s.heads ∧ (s.storeSegment n sg).pipes = s.pipes ∧
    (s.storeSegment n sg).ports = s.ports ∧ (s.storeSegment n sg).cca.lru = s.cca.lru ∧
    (s.storeSegment n sg).tlm = s.tlm ∧ (s.storeSegment n sg).lnk = s.lnk ∧ (s.storeSegment n sg).evr = s.evr :=
  by and_intros <;> rfl

@[simp] theorem State.storeSegment_cca_slots (s : State) (n : Fin 64) (sg : Segment) :
    (s.storeSegment n sg).cca.slots = s.cca.slots.set n { s.cca.slots[n] with fill := s.cca.slots[n].fill + sg.words.length } := rfl

@[simp] theorem State.storeSegment_cca_samples (s : State) (n : Fin 64) (sg : Segment) :
    (s.storeSegment n sg).cca.samples = sampleWriteAll s.cca.samples (sampleAddress n sg.offset.toNat) sg.words := rfl

/-- What `State.modRequest` leaves. -/
@[simp] theorem State.modRequest_keeps (s : State) (k : Key) (f : Request → Request) :
    (s.modRequest k f).jcu = s.jcu ∧ (s.modRequest k f).stu = s.stu ∧ (s.modRequest k f).now = s.now ∧
    (s.modRequest k f).pending = s.pending ∧ (s.modRequest k f).heads = s.heads ∧
    (s.modRequest k f).pipes = s.pipes ∧ (s.modRequest k f).ports = s.ports ∧ (s.modRequest k f).cca = s.cca ∧
    (s.modRequest k f).tlm = s.tlm ∧ (s.modRequest k f).lnk = s.lnk ∧ (s.modRequest k f).evr = s.evr :=
  by and_intros <;> rfl

@[simp] theorem State.modRequest_cfu (s : State) (k : Key) (f : Request → Request) :
    (s.modRequest k f).cfu = { s.cfu with requests := s.cfu.requests.map fun r => if r.key = k then f r else r } := rfl

/-- What `State.removeRequest` leaves. -/
@[simp] theorem State.removeRequest_keeps (s : State) (r : Request) :
    (s.removeRequest r).jcu = s.jcu ∧ (s.removeRequest r).stu = s.stu ∧ (s.removeRequest r).now = s.now ∧
    (s.removeRequest r).pending = s.pending ∧ (s.removeRequest r).heads = s.heads ∧
    (s.removeRequest r).pipes = s.pipes ∧ (s.removeRequest r).ports = s.ports ∧
    (s.removeRequest r).cca = s.cca ∧ (s.removeRequest r).tlm = s.tlm ∧
    (s.removeRequest r).lnk.state = s.lnk.state ∧ (s.removeRequest r).lnk.lastSymbol = s.lnk.lastSymbol ∧
    (s.removeRequest r).lnk.reception = s.lnk.reception ∧ (s.removeRequest r).lnk.inbound = s.lnk.inbound ∧
    (s.removeRequest r).lnk.hold = s.lnk.hold ∧ (s.removeRequest r).lnk.draws = s.lnk.draws ∧
    (s.removeRequest r).evr = s.evr :=
  by and_intros <;> rfl

@[simp] theorem State.removeRequest_cfu (s : State) (r : Request) :
    (s.removeRequest r).cfu = { s.cfu with requests := s.cfu.requests.filter fun q => q.key != r.key } := rfl

@[simp] theorem State.removeRequest_lnk (s : State) (r : Request) :
    (s.removeRequest r).lnk = { s.lnk with requestQueue := s.lnk.requestQueue.filter fun q => r.id == 0 || q.id != r.id } := rfl

/-- What `State.markPending` leaves. -/
@[simp] theorem State.markPending_keeps (s : State) (g c : Byte) :
    (s.markPending g c).jcu = s.jcu ∧ (s.markPending g c).stu = s.stu ∧ (s.markPending g c).cfu = s.cfu ∧
    (s.markPending g c).now = s.now ∧ (s.markPending g c).pending = s.pending ∧
    (s.markPending g c).heads = s.heads ∧ (s.markPending g c).pipes = s.pipes ∧
    (s.markPending g c).ports = s.ports ∧ (s.markPending g c).cca = s.cca ∧
    (s.markPending g c).tlm.reading = s.tlm.reading ∧ (s.markPending g c).lnk = s.lnk ∧
    (s.markPending g c).evr = s.evr :=
  by and_intros <;> rfl

@[simp] theorem State.markPending_tlm (s : State) (g c : Byte) :
    (s.markPending g c).tlm = { s.tlm with gradPending := s.tlm.gradPending ||| g, calPending := s.tlm.calPending ||| c } := rfl

/-- What `State.beginFrame` leaves. -/
@[simp] theorem State.beginFrame_keeps (s : State) (f : UpFrame) :
    (s.beginFrame f).jcu = s.jcu ∧ (s.beginFrame f).stu = s.stu ∧ (s.beginFrame f).cfu = s.cfu ∧
    (s.beginFrame f).now = s.now ∧ (s.beginFrame f).pending = s.pending ∧ (s.beginFrame f).heads = s.heads ∧
    (s.beginFrame f).pipes = s.pipes ∧ (s.beginFrame f).ports = s.ports ∧ (s.beginFrame f).cca = s.cca ∧
    (s.beginFrame f).tlm = s.tlm ∧ (s.beginFrame f).lnk.state = s.lnk.state ∧
    (s.beginFrame f).lnk.lastSymbol = s.lnk.lastSymbol ∧ (s.beginFrame f).lnk.reception = s.lnk.reception ∧
    (s.beginFrame f).lnk.inbound = s.lnk.inbound ∧ (s.beginFrame f).lnk.hold = s.lnk.hold ∧
    (s.beginFrame f).lnk.draws = s.lnk.draws ∧ (s.beginFrame f).evr = s.evr :=
  by and_intros <;> rfl

@[simp] theorem State.beginFrame_lnk (s : State) (f : UpFrame) :
    (s.beginFrame f).lnk = { s.lnk with sending := some ⟨f, s.lnk.hold⟩ } := rfl

/-- What `State.setReception` leaves. -/
@[simp] theorem State.setReception_keeps (s : State) (r : Option (List Byte)) :
    (s.setReception r).jcu = s.jcu ∧ (s.setReception r).stu = s.stu ∧ (s.setReception r).cfu = s.cfu ∧
    (s.setReception r).now = s.now ∧ (s.setReception r).pending = s.pending ∧
    (s.setReception r).heads = s.heads ∧ (s.setReception r).pipes = s.pipes ∧
    (s.setReception r).ports = s.ports ∧ (s.setReception r).cca = s.cca ∧ (s.setReception r).tlm = s.tlm ∧
    (s.setReception r).lnk.state = s.lnk.state ∧ (s.setReception r).lnk.lastSymbol = s.lnk.lastSymbol ∧
    (s.setReception r).lnk.inbound = s.lnk.inbound ∧ (s.setReception r).lnk.hold = s.lnk.hold ∧
    (s.setReception r).lnk.draws = s.lnk.draws ∧ (s.setReception r).evr = s.evr :=
  by and_intros <;> rfl

@[simp] theorem State.setReception_lnk (s : State) (r : Option (List Byte)) :
    (s.setReception r).lnk = { s.lnk with reception := r } := rfl

/-- What `State.seeSymbol` leaves. -/
@[simp] theorem State.seeSymbol_keeps (s : State) (n : Nat) :
    (s.seeSymbol n).jcu = s.jcu ∧ (s.seeSymbol n).stu = s.stu ∧ (s.seeSymbol n).cfu = s.cfu ∧
    (s.seeSymbol n).now = s.now ∧ (s.seeSymbol n).pending = s.pending ∧ (s.seeSymbol n).heads = s.heads ∧
    (s.seeSymbol n).pipes = s.pipes ∧ (s.seeSymbol n).ports = s.ports ∧ (s.seeSymbol n).cca = s.cca ∧
    (s.seeSymbol n).tlm = s.tlm ∧ (s.seeSymbol n).lnk.state = s.lnk.state ∧
    (s.seeSymbol n).lnk.reception = s.lnk.reception ∧ (s.seeSymbol n).lnk.inbound = s.lnk.inbound ∧
    (s.seeSymbol n).lnk.hold = s.lnk.hold ∧ (s.seeSymbol n).lnk.draws = s.lnk.draws ∧
    (s.seeSymbol n).evr = s.evr :=
  by and_intros <;> rfl

@[simp] theorem State.seeSymbol_lnk (s : State) (n : Nat) :
    (s.seeSymbol n).lnk = { s.lnk with lastSymbol := max s.lnk.lastSymbol n } := rfl

/-- What `State.store` leaves. -/
@[simp] theorem State.store_keeps (s : State) (f : Frame) :
    (s.store f).jcu = s.jcu ∧ (s.store f).stu = s.stu ∧ (s.store f).cfu = s.cfu ∧ (s.store f).now = s.now ∧
    (s.store f).pending = s.pending ∧ (s.store f).heads = s.heads ∧ (s.store f).pipes = s.pipes ∧
    (s.store f).ports = s.ports ∧ (s.store f).cca = s.cca ∧ (s.store f).tlm = s.tlm ∧
    (s.store f).lnk.state = s.lnk.state ∧ (s.store f).lnk.lastSymbol = s.lnk.lastSymbol ∧
    (s.store f).lnk.reception = s.lnk.reception ∧ (s.store f).lnk.hold = s.lnk.hold ∧
    (s.store f).lnk.draws = s.lnk.draws ∧ (s.store f).evr = s.evr :=
  by and_intros <;> rfl

@[simp] theorem State.store_lnk (s : State) (f : Frame) :
    (s.store f).lnk = { s.lnk with inbound := s.lnk.inbound ++ [f] } := rfl

/-- What `State.resetBlocks` leaves. -/
@[simp] theorem State.resetBlocks_keeps (s : State) :
    (s.resetBlocks).now = s.now ∧ (s.resetBlocks).pending = s.pending ∧
    (s.resetBlocks).cca.samples = s.cca.samples ∧ (s.resetBlocks).tlm = s.tlm ∧ (s.resetBlocks).lnk = s.lnk :=
  by and_intros <;> rfl

@[simp] theorem State.resetBlocks_jcu (s : State) : (s.resetBlocks).jcu = Job.reset := rfl

@[simp] theorem State.resetBlocks_stu (s : State) : (s.resetBlocks).stu = Spindle.reset s.stu.indexPin := rfl

@[simp] theorem State.resetBlocks_cca (s : State) :
    (s.resetBlocks).cca = { Cache.reset with samples := s.cca.samples } := rfl

@[simp] theorem State.resetBlocks_cfu (s : State) : (s.resetBlocks).cfu = Fetch.reset := rfl

@[simp] theorem State.resetBlocks_heads (s : State) : (s.resetBlocks).heads = Vector.replicate 8 Channel.reset := rfl

@[simp] theorem State.resetBlocks_pipes (s : State) : (s.resetBlocks).pipes = Vector.replicate 8 Pipe.reset := rfl

@[simp] theorem State.resetBlocks_evr (s : State) : (s.resetBlocks).evr = Events.reset := rfl

/-- What `Spindle.takeLevels` leaves. -/
@[simp] theorem Spindle.takeLevels_keeps (u : Spindle) (low held : Nat) :
    (u.takeLevels low held).state = u.state ∧ (u.takeLevels low held).ring = u.ring ∧
    (u.takeLevels low held).writePtr = u.writePtr ∧ (u.takeLevels low held).valid = u.valid ∧
    (u.takeLevels low held).tPrev = u.tPrev ∧ (u.takeLevels low held).run = u.run ∧
    (u.takeLevels low held).pAvg = u.pAvg ∧ (u.takeLevels low held).rev = u.rev :=
  by and_intros <;> rfl

end Sys2Proof.Machine
end

