-- ==== Sys2Proof/Laws/Frames.lean ====
section
/-! SUPPORT. Laws/Frames.lean: what each operation of the machine leaves as it was, said once for each. -/

namespace Sys2Proof.Machine

/-- The eight heads, one after the other. -/
theorem State.eachHead_eq (s : State) (f : Head → State → State) :
    s.eachHead f = f 7 (f 6 (f 5 (f 4 (f 3 (f 2 (f 1 (f 0 s))))))) := rfl

/-- What `State.beginReport` leaves. -/
@[simp] theorem State.beginReport_keeps (s : State) (k : EventKind) :
    (s.beginReport k).jcu = s.jcu ∧ (s.beginReport k).stu = s.stu ∧ (s.beginReport k).cfu = s.cfu ∧
    (s.beginReport k).now = s.now ∧ (s.beginReport k).pending = s.pending ∧ (s.beginReport k).heads = s.heads ∧
    (s.beginReport k).pipes = s.pipes ∧ (s.beginReport k).ports = s.ports ∧ (s.beginReport k).cca = s.cca ∧
    (s.beginReport k).tlm = s.tlm ∧ (s.beginReport k).lnk.state = s.lnk.state ∧
    (s.beginReport k).lnk.lastSymbol = s.lnk.lastSymbol ∧ (s.beginReport k).lnk.reception = s.lnk.reception ∧
    (s.beginReport k).lnk.inbound = s.lnk.inbound ∧ (s.beginReport k).lnk.hold = s.lnk.hold ∧
    (s.beginReport k).lnk.draws = s.lnk.draws ∧ (s.beginReport k).evr.due = s.evr.due :=
  by unfold State.beginReport; split <;> simp

/-- What `State.arbitrate` leaves. -/
@[simp] theorem State.arbitrate_keeps (s : State) :
    (s.arbitrate).jcu = s.jcu ∧ (s.arbitrate).stu = s.stu ∧ (s.arbitrate).cfu = s.cfu ∧
    (s.arbitrate).now = s.now ∧ (s.arbitrate).pending = s.pending ∧ (s.arbitrate).heads = s.heads ∧
    (s.arbitrate).pipes = s.pipes ∧ (s.arbitrate).ports = s.ports ∧ (s.arbitrate).cca = s.cca ∧
    (s.arbitrate).tlm = s.tlm ∧ (s.arbitrate).lnk.state = s.lnk.state ∧
    (s.arbitrate).lnk.lastSymbol = s.lnk.lastSymbol ∧ (s.arbitrate).lnk.reception = s.lnk.reception ∧
    (s.arbitrate).lnk.inbound = s.lnk.inbound ∧ (s.arbitrate).lnk.hold = s.lnk.hold ∧
    (s.arbitrate).lnk.draws = s.lnk.draws ∧ (s.arbitrate).evr.due = s.evr.due :=
  by unfold State.arbitrate; (repeat' split) <;> simp

/-- What `State.queueRequest` leaves. -/
@[simp] theorem State.queueRequest_keeps (s : State) (r : ColumnRequest) :
    (s.queueRequest r).jcu = s.jcu ∧ (s.queueRequest r).stu = s.stu ∧ (s.queueRequest r).cfu = s.cfu ∧
    (s.queueRequest r).now = s.now ∧ (s.queueRequest r).pending = s.pending ∧
    (s.queueRequest r).heads = s.heads ∧ (s.queueRequest r).pipes = s.pipes ∧
    (s.queueRequest r).ports = s.ports ∧ (s.queueRequest r).cca = s.cca ∧ (s.queueRequest r).tlm = s.tlm ∧
    (s.queueRequest r).lnk.state = s.lnk.state ∧ (s.queueRequest r).lnk.lastSymbol = s.lnk.lastSymbol ∧
    (s.queueRequest r).lnk.reception = s.lnk.reception ∧ (s.queueRequest r).lnk.inbound = s.lnk.inbound ∧
    (s.queueRequest r).lnk.hold = s.lnk.hold ∧ (s.queueRequest r).lnk.draws = s.lnk.draws ∧
    (s.queueRequest r).evr.due = s.evr.due :=
  by simp [State.queueRequest]

/-- What `State.queueReply` leaves. -/
@[simp] theorem State.queueReply_keeps (s : State) (r : CommandReply) :
    (s.queueReply r).jcu = s.jcu ∧ (s.queueReply r).stu = s.stu ∧ (s.queueReply r).cfu = s.cfu ∧
    (s.queueReply r).now = s.now ∧ (s.queueReply r).pending = s.pending ∧ (s.queueReply r).heads = s.heads ∧
    (s.queueReply r).pipes = s.pipes ∧ (s.queueReply r).ports = s.ports ∧ (s.queueReply r).cca = s.cca ∧
    (s.queueReply r).tlm = s.tlm ∧ (s.queueReply r).lnk.state = s.lnk.state ∧
    (s.queueReply r).lnk.lastSymbol = s.lnk.lastSymbol ∧ (s.queueReply r).lnk.reception = s.lnk.reception ∧
    (s.queueReply r).lnk.inbound = s.lnk.inbound ∧ (s.queueReply r).lnk.hold = s.lnk.hold ∧
    (s.queueReply r).lnk.draws = s.lnk.draws ∧ (s.queueReply r).evr.due = s.evr.due :=
  by simp [State.queueReply]

/-- What `State.queueData` leaves. -/
@[simp] theorem State.queueData_keeps (s : State) (d : TableData) :
    (s.queueData d).jcu = s.jcu ∧ (s.queueData d).stu = s.stu ∧ (s.queueData d).cfu = s.cfu ∧
    (s.queueData d).now = s.now ∧ (s.queueData d).pending = s.pending ∧ (s.queueData d).heads = s.heads ∧
    (s.queueData d).pipes = s.pipes ∧ (s.queueData d).ports = s.ports ∧ (s.queueData d).cca = s.cca ∧
    (s.queueData d).tlm = s.tlm ∧ (s.queueData d).lnk.state = s.lnk.state ∧
    (s.queueData d).lnk.lastSymbol = s.lnk.lastSymbol ∧ (s.queueData d).lnk.reception = s.lnk.reception ∧
    (s.queueData d).lnk.inbound = s.lnk.inbound ∧ (s.queueData d).lnk.hold = s.lnk.hold ∧
    (s.queueData d).lnk.draws = s.lnk.draws ∧ (s.queueData d).evr.due = s.evr.due :=
  by simp [State.queueData]

/-- What `State.queueFlow` leaves. -/
@[simp] theorem State.queueFlow_keeps (s : State) (b : Bool) :
    (s.queueFlow b).jcu = s.jcu ∧ (s.queueFlow b).stu = s.stu ∧ (s.queueFlow b).cfu = s.cfu ∧
    (s.queueFlow b).now = s.now ∧ (s.queueFlow b).pending = s.pending ∧ (s.queueFlow b).heads = s.heads ∧
    (s.queueFlow b).pipes = s.pipes ∧ (s.queueFlow b).ports = s.ports ∧ (s.queueFlow b).cca = s.cca ∧
    (s.queueFlow b).tlm = s.tlm ∧ (s.queueFlow b).lnk.state = s.lnk.state ∧
    (s.queueFlow b).lnk.lastSymbol = s.lnk.lastSymbol ∧ (s.queueFlow b).lnk.reception = s.lnk.reception ∧
    (s.queueFlow b).lnk.inbound = s.lnk.inbound ∧ (s.queueFlow b).lnk.draws = s.lnk.draws ∧
    (s.queueFlow b).evr.due = s.evr.due :=
  by unfold State.queueFlow; split <;> simp

/-- What `State.answer` leaves. -/
@[simp] theorem State.answer_keeps (s : State) (tag code : Byte) (r : Result) :
    (s.answer tag code r).jcu = s.jcu ∧ (s.answer tag code r).stu = s.stu ∧ (s.answer tag code r).cfu = s.cfu ∧
    (s.answer tag code r).now = s.now ∧ (s.answer tag code r).pending = s.pending ∧
    (s.answer tag code r).heads = s.heads ∧ (s.answer tag code r).pipes = s.pipes ∧
    (s.answer tag code r).ports = s.ports ∧ (s.answer tag code r).cca = s.cca ∧
    (s.answer tag code r).tlm = s.tlm ∧ (s.answer tag code r).lnk.state = s.lnk.state ∧
    (s.answer tag code r).lnk.lastSymbol = s.lnk.lastSymbol ∧
    (s.answer tag code r).lnk.reception = s.lnk.reception ∧ (s.answer tag code r).lnk.inbound = s.lnk.inbound ∧
    (s.answer tag code r).lnk.hold = s.lnk.hold ∧ (s.answer tag code r).lnk.draws = s.lnk.draws ∧
    (s.answer tag code r).evr.due = s.evr.due :=
  by simp [State.answer]

/-- What `State.watermarkCheck` leaves. -/
@[simp] theorem State.watermarkCheck_keeps (s : State) :
    (s.watermarkCheck).jcu = s.jcu ∧ (s.watermarkCheck).stu = s.stu ∧ (s.watermarkCheck).cfu = s.cfu ∧
    (s.watermarkCheck).now = s.now ∧ (s.watermarkCheck).pending = s.pending ∧
    (s.watermarkCheck).heads = s.heads ∧ (s.watermarkCheck).pipes = s.pipes ∧
    (s.watermarkCheck).ports = s.ports ∧ (s.watermarkCheck).cca = s.cca ∧ (s.watermarkCheck).tlm = s.tlm ∧
    (s.watermarkCheck).lnk.state = s.lnk.state ∧ (s.watermarkCheck).lnk.lastSymbol = s.lnk.lastSymbol ∧
    (s.watermarkCheck).lnk.reception = s.lnk.reception ∧ (s.watermarkCheck).lnk.inbound = s.lnk.inbound ∧
    (s.watermarkCheck).lnk.draws = s.lnk.draws ∧ (s.watermarkCheck).evr.due = s.evr.due :=
  by unfold State.watermarkCheck; (repeat' split) <;> simp

/-- What `State.recordEvent` leaves. -/
@[simp] theorem State.recordEvent_keeps (s : State) (k : EventKind) (d : Word32) (m : BitVec 8) :
    (s.recordEvent k d m).jcu = s.jcu ∧ (s.recordEvent k d m).stu = s.stu ∧ (s.recordEvent k d m).cfu = s.cfu ∧
    (s.recordEvent k d m).now = s.now ∧ (s.recordEvent k d m).pending = s.pending ∧
    (s.recordEvent k d m).heads = s.heads ∧ (s.recordEvent k d m).pipes = s.pipes ∧
    (s.recordEvent k d m).ports = s.ports ∧ (s.recordEvent k d m).cca = s.cca ∧
    (s.recordEvent k d m).tlm = s.tlm ∧ (s.recordEvent k d m).lnk.state = s.lnk.state ∧
    (s.recordEvent k d m).lnk.lastSymbol = s.lnk.lastSymbol ∧
    (s.recordEvent k d m).lnk.reception = s.lnk.reception ∧ (s.recordEvent k d m).lnk.inbound = s.lnk.inbound ∧
    (s.recordEvent k d m).lnk.hold = s.lnk.hold ∧ (s.recordEvent k d m).lnk.draws = s.lnk.draws ∧
    (s.recordEvent k d m).evr.due = s.evr.due :=
  by unfold State.recordEvent; dsimp only; (repeat' split) <;> simp

/-- What `State.raise` leaves. -/
@[simp] theorem State.raise_keeps (s : State) (k : EventKind) (d : Word32) (m : BitVec 8) :
    (s.raise k d m).jcu = s.jcu ∧ (s.raise k d m).stu = s.stu ∧ (s.raise k d m).cfu = s.cfu ∧
    (s.raise k d m).now = s.now ∧ (s.raise k d m).pending = s.pending ∧ (s.raise k d m).heads = s.heads ∧
    (s.raise k d m).pipes = s.pipes ∧ (s.raise k d m).ports = s.ports ∧ (s.raise k d m).cca = s.cca ∧
    (s.raise k d m).tlm = s.tlm ∧ (s.raise k d m).lnk.state = s.lnk.state ∧
    (s.raise k d m).lnk.lastSymbol = s.lnk.lastSymbol ∧ (s.raise k d m).lnk.reception = s.lnk.reception ∧
    (s.raise k d m).lnk.inbound = s.lnk.inbound ∧ (s.raise k d m).lnk.hold = s.lnk.hold ∧
    (s.raise k d m).lnk.draws = s.lnk.draws :=
  by unfold State.raise; split <;> simp

/-- What `State.raisePlain` leaves. -/
@[simp] theorem State.raisePlain_keeps (s : State) (k : EventKind) (d : Word32) :
    (s.raisePlain k d).jcu = s.jcu ∧ (s.raisePlain k d).stu = s.stu ∧ (s.raisePlain k d).cfu = s.cfu ∧
    (s.raisePlain k d).now = s.now ∧ (s.raisePlain k d).pending = s.pending ∧
    (s.raisePlain k d).heads = s.heads ∧ (s.raisePlain k d).pipes = s.pipes ∧
    (s.raisePlain k d).ports = s.ports ∧ (s.raisePlain k d).cca = s.cca ∧ (s.raisePlain k d).tlm = s.tlm ∧
    (s.raisePlain k d).lnk.state = s.lnk.state ∧ (s.raisePlain k d).lnk.lastSymbol = s.lnk.lastSymbol ∧
    (s.raisePlain k d).lnk.reception = s.lnk.reception ∧ (s.raisePlain k d).lnk.inbound = s.lnk.inbound ∧
    (s.raisePlain k d).lnk.hold = s.lnk.hold ∧ (s.raisePlain k d).lnk.draws = s.lnk.draws :=
  by simp [State.raisePlain]

/-- What `State.raiseHead` leaves. -/
@[simp] theorem State.raiseHead_keeps (s : State) (h : Head) (k : EventKind) (d : Word32) :
    (s.raiseHead h k d).jcu = s.jcu ∧ (s.raiseHead h k d).stu = s.stu ∧ (s.raiseHead h k d).cfu = s.cfu ∧
    (s.raiseHead h k d).now = s.now ∧ (s.raiseHead h k d).pending = s.pending ∧
    (s.raiseHead h k d).heads = s.heads ∧ (s.raiseHead h k d).pipes = s.pipes ∧
    (s.raiseHead h k d).ports = s.ports ∧ (s.raiseHead h k d).cca = s.cca ∧ (s.raiseHead h k d).tlm = s.tlm ∧
    (s.raiseHead h k d).lnk.state = s.lnk.state ∧ (s.raiseHead h k d).lnk.lastSymbol = s.lnk.lastSymbol ∧
    (s.raiseHead h k d).lnk.reception = s.lnk.reception ∧ (s.raiseHead h k d).lnk.inbound = s.lnk.inbound ∧
    (s.raiseHead h k d).lnk.hold = s.lnk.hold ∧ (s.raiseHead h k d).lnk.draws = s.lnk.draws :=
  by simp [State.raiseHead]

/-- What `State.unpinRecord` leaves. -/
@[simp] theorem State.unpinRecord_keeps (s : State) (r : TrackRecord) :
    (s.unpinRecord r).jcu = s.jcu ∧ (s.unpinRecord r).stu = s.stu ∧ (s.unpinRecord r).cfu = s.cfu ∧
    (s.unpinRecord r).now = s.now ∧ (s.unpinRecord r).pending = s.pending ∧ (s.unpinRecord r).heads = s.heads ∧
    (s.unpinRecord r).pipes = s.pipes ∧ (s.unpinRecord r).ports = s.ports ∧
    (s.unpinRecord r).cca.lru = s.cca.lru ∧ (s.unpinRecord r).cca.samples = s.cca.samples ∧
    (s.unpinRecord r).tlm = s.tlm ∧ (s.unpinRecord r).lnk = s.lnk ∧ (s.unpinRecord r).evr = s.evr :=
  by unfold State.unpinRecord; split <;> simp

/-- What `State.applyCommit` leaves. -/
@[simp] theorem State.applyCommit_keeps (s : State) (g c : BitVec 8) (o : Occasion) :
    (s.applyCommit g c o).jcu = s.jcu ∧ (s.applyCommit g c o).stu = s.stu ∧ (s.applyCommit g c o).cfu = s.cfu ∧
    (s.applyCommit g c o).now = s.now ∧ (s.applyCommit g c o).pending = s.pending ∧
    (s.applyCommit g c o).heads = s.heads ∧ (s.applyCommit g c o).pipes = s.pipes ∧
    (s.applyCommit g c o).ports = s.ports ∧ (s.applyCommit g c o).cca = s.cca ∧
    (s.applyCommit g c o).tlm.layout = s.tlm.layout ∧ (s.applyCommit g c o).tlm.lanes = s.tlm.lanes ∧
    (s.applyCommit g c o).tlm.tiles = s.tlm.tiles ∧ (s.applyCommit g c o).tlm.expands = s.tlm.expands ∧
    (s.applyCommit g c o).tlm.setups = s.tlm.setups ∧ (s.applyCommit g c o).tlm.cals = s.tlm.cals ∧
    (s.applyCommit g c o).tlm.grads = s.tlm.grads ∧ (s.applyCommit g c o).tlm.wear = s.tlm.wear ∧
    (s.applyCommit g c o).tlm.route = s.tlm.route ∧ (s.applyCommit g c o).tlm.reading = s.tlm.reading ∧
    (s.applyCommit g c o).lnk.state = s.lnk.state ∧ (s.applyCommit g c o).lnk.lastSymbol = s.lnk.lastSymbol ∧
    (s.applyCommit g c o).lnk.reception = s.lnk.reception ∧ (s.applyCommit g c o).lnk.inbound = s.lnk.inbound ∧
    (s.applyCommit g c o).lnk.hold = s.lnk.hold ∧ (s.applyCommit g c o).lnk.draws = s.lnk.draws :=
  by unfold State.applyCommit; split <;> simp [Tables.copyShadows]

/-- What `State.applyPending` leaves. -/
@[simp] theorem State.applyPending_keeps (s : State) (o : Occasion) :
    (s.applyPending o).jcu = s.jcu ∧ (s.applyPending o).stu = s.stu ∧ (s.applyPending o).cfu = s.cfu ∧
    (s.applyPending o).now = s.now ∧ (s.applyPending o).pending = s.pending ∧
    (s.applyPending o).heads = s.heads ∧ (s.applyPending o).pipes = s.pipes ∧
    (s.applyPending o).ports = s.ports ∧ (s.applyPending o).cca = s.cca ∧
    (s.applyPending o).tlm.layout = s.tlm.layout ∧ (s.applyPending o).tlm.lanes = s.tlm.lanes ∧
    (s.applyPending o).tlm.tiles = s.tlm.tiles ∧ (s.applyPending o).tlm.expands = s.tlm.expands ∧
    (s.applyPending o).tlm.setups = s.tlm.setups ∧ (s.applyPending o).tlm.cals = s.tlm.cals ∧
    (s.applyPending o).tlm.grads = s.tlm.grads ∧ (s.applyPending o).tlm.wear = s.tlm.wear ∧
    (s.applyPending o).tlm.route = s.tlm.route ∧ (s.applyPending o).tlm.reading = s.tlm.reading ∧
    (s.applyPending o).lnk.state = s.lnk.state ∧ (s.applyPending o).lnk.lastSymbol = s.lnk.lastSymbol ∧
    (s.applyPending o).lnk.reception = s.lnk.reception ∧ (s.applyPending o).lnk.inbound = s.lnk.inbound ∧
    (s.applyPending o).lnk.hold = s.lnk.hold ∧ (s.applyPending o).lnk.draws = s.lnk.draws :=
  by simp [State.applyPending]

/-- What `State.setJob` leaves. -/
@[simp] theorem State.setJob_keeps (s : State) (j : JobState) (c : JobCause) :
    (s.setJob j c).stu = s.stu ∧ (s.setJob j c).cfu = s.cfu ∧ (s.setJob j c).now = s.now ∧
    (s.setJob j c).pending = s.pending ∧ (s.setJob j c).heads = s.heads ∧ (s.setJob j c).pipes = s.pipes ∧
    (s.setJob j c).ports = s.ports ∧ (s.setJob j c).cca = s.cca ∧ (s.setJob j c).tlm.layout = s.tlm.layout ∧
    (s.setJob j c).tlm.lanes = s.tlm.lanes ∧ (s.setJob j c).tlm.tiles = s.tlm.tiles ∧
    (s.setJob j c).tlm.expands = s.tlm.expands ∧ (s.setJob j c).tlm.setups = s.tlm.setups ∧
    (s.setJob j c).tlm.cals = s.tlm.cals ∧ (s.setJob j c).tlm.grads = s.tlm.grads ∧
    (s.setJob j c).tlm.wear = s.tlm.wear ∧ (s.setJob j c).tlm.route = s.tlm.route ∧
    (s.setJob j c).tlm.reading = s.tlm.reading ∧ (s.setJob j c).lnk.state = s.lnk.state ∧
    (s.setJob j c).lnk.lastSymbol = s.lnk.lastSymbol ∧ (s.setJob j c).lnk.reception = s.lnk.reception ∧
    (s.setJob j c).lnk.inbound = s.lnk.inbound ∧ (s.setJob j c).lnk.hold = s.lnk.hold ∧
    (s.setJob j c).lnk.draws = s.lnk.draws :=
  by unfold State.setJob; split <;> simp

/-- What `State.headsCheck` leaves. -/
@[simp] theorem State.headsCheck_keeps (s : State) :
    (s.headsCheck).stu = s.stu ∧ (s.headsCheck).cfu = s.cfu ∧ (s.headsCheck).now = s.now ∧
    (s.headsCheck).pending = s.pending ∧ (s.headsCheck).heads = s.heads ∧ (s.headsCheck).pipes = s.pipes ∧
    (s.headsCheck).ports = s.ports ∧ (s.headsCheck).cca = s.cca ∧ (s.headsCheck).tlm.layout = s.tlm.layout ∧
    (s.headsCheck).tlm.lanes = s.tlm.lanes ∧ (s.headsCheck).tlm.tiles = s.tlm.tiles ∧
    (s.headsCheck).tlm.expands = s.tlm.expands ∧ (s.headsCheck).tlm.setups = s.tlm.setups ∧
    (s.headsCheck).tlm.cals = s.tlm.cals ∧ (s.headsCheck).tlm.grads = s.tlm.grads ∧
    (s.headsCheck).tlm.wear = s.tlm.wear ∧ (s.headsCheck).tlm.route = s.tlm.route ∧
    (s.headsCheck).tlm.reading = s.tlm.reading ∧ (s.headsCheck).lnk.state = s.lnk.state ∧
    (s.headsCheck).lnk.lastSymbol = s.lnk.lastSymbol ∧ (s.headsCheck).lnk.reception = s.lnk.reception ∧
    (s.headsCheck).lnk.inbound = s.lnk.inbound ∧ (s.headsCheck).lnk.hold = s.lnk.hold ∧
    (s.headsCheck).lnk.draws = s.lnk.draws :=
  by unfold State.headsCheck; (repeat' split) <;> simp

/-- Unpinning a run of records touches the slots alone. -/
@[simp] theorem State.foldl_unpin_keeps (rs : List TrackRecord) : ∀ s : State,
    (rs.foldl State.unpinRecord s).jcu = s.jcu ∧ (rs.foldl State.unpinRecord s).stu = s.stu ∧
    (rs.foldl State.unpinRecord s).cfu = s.cfu ∧ (rs.foldl State.unpinRecord s).now = s.now ∧
    (rs.foldl State.unpinRecord s).pending = s.pending ∧ (rs.foldl State.unpinRecord s).heads = s.heads ∧
    (rs.foldl State.unpinRecord s).pipes = s.pipes ∧ (rs.foldl State.unpinRecord s).ports = s.ports ∧
    (rs.foldl State.unpinRecord s).cca.lru = s.cca.lru ∧
    (rs.foldl State.unpinRecord s).cca.samples = s.cca.samples ∧ (rs.foldl State.unpinRecord s).tlm = s.tlm ∧
    (rs.foldl State.unpinRecord s).lnk = s.lnk ∧ (rs.foldl State.unpinRecord s).evr = s.evr := by
  induction rs with
  | nil => intro s; simp
  | cons r rs ih => intro s; simp [ih]

/-- What `State.dropPlanned` leaves. -/
@[simp] theorem State.dropPlanned_keeps (s : State) (h : Head) :
    (s.dropPlanned h).jcu = s.jcu ∧ (s.dropPlanned h).stu = s.stu ∧ (s.dropPlanned h).cfu = s.cfu ∧
    (s.dropPlanned h).now = s.now ∧ (s.dropPlanned h).pending = s.pending ∧ (s.dropPlanned h).pipes = s.pipes ∧
    (s.dropPlanned h).ports = s.ports ∧ (s.dropPlanned h).cca.lru = s.cca.lru ∧
    (s.dropPlanned h).cca.samples = s.cca.samples ∧ (s.dropPlanned h).tlm = s.tlm ∧
    (s.dropPlanned h).lnk = s.lnk ∧ (s.dropPlanned h).evr = s.evr :=
  by simp [State.dropPlanned]

/-- What `State.clearQueue` leaves. -/
@[simp] theorem State.clearQueue_keeps (s : State) (h : Head) :
    (s.clearQueue h).jcu = s.jcu ∧ (s.clearQueue h).stu = s.stu ∧ (s.clearQueue h).cfu = s.cfu ∧
    (s.clearQueue h).now = s.now ∧ (s.clearQueue h).pending = s.pending ∧ (s.clearQueue h).ports = s.ports ∧
    (s.clearQueue h).cca.lru = s.cca.lru ∧ (s.clearQueue h).cca.samples = s.cca.samples ∧
    (s.clearQueue h).tlm = s.tlm ∧ (s.clearQueue h).lnk = s.lnk ∧ (s.clearQueue h).evr = s.evr :=
  by simp [State.clearQueue]

/-- What `State.createRequest` leaves. -/
@[simp] theorem State.createRequest_keeps (s : State) (k : Key) (n : Fin 64) :
    (s.createRequest k n).jcu = s.jcu ∧ (s.createRequest k n).stu = s.stu ∧ (s.createRequest k n).now = s.now ∧
    (s.createRequest k n).pending = s.pending ∧ (s.createRequest k n).heads = s.heads ∧
    (s.createRequest k n).pipes = s.pipes ∧ (s.createRequest k n).ports = s.ports ∧
    (s.createRequest k n).cca = s.cca ∧ (s.createRequest k n).tlm = s.tlm ∧
    (s.createRequest k n).lnk.state = s.lnk.state ∧ (s.createRequest k n).lnk.lastSymbol = s.lnk.lastSymbol ∧
    (s.createRequest k n).lnk.reception = s.lnk.reception ∧ (s.createRequest k n).lnk.inbound = s.lnk.inbound ∧
    (s.createRequest k n).lnk.hold = s.lnk.hold ∧ (s.createRequest k n).lnk.draws = s.lnk.draws ∧
    (s.createRequest k n).evr.due = s.evr.due :=
  by simp [State.createRequest]

/-- What `State.extendQueue` leaves. -/
@[simp] theorem State.extendQueue_keeps (h : Head) (n : Nat) : ∀ s : State,
    (State.extendQueue h n s).jcu = s.jcu ∧ (State.extendQueue h n s).stu = s.stu ∧
    (State.extendQueue h n s).cfu = s.cfu ∧ (State.extendQueue h n s).now = s.now ∧
    (State.extendQueue h n s).pending = s.pending ∧ (State.extendQueue h n s).pipes = s.pipes ∧
    (State.extendQueue h n s).ports = s.ports ∧ (State.extendQueue h n s).cca = s.cca ∧
    (State.extendQueue h n s).tlm = s.tlm ∧ (State.extendQueue h n s).lnk = s.lnk ∧
    (State.extendQueue h n s).evr = s.evr := by
  induction n with
  | zero => intro s; simp [State.extendQueue]
  | succ n ih => intro s; unfold State.extendQueue; split <;> simp [ih]

/-- What `State.extendHead` leaves. -/
@[simp] theorem State.extendHead_keeps (h : Head) (s : State) :
    (State.extendHead h s).jcu = s.jcu ∧ (State.extendHead h s).stu = s.stu ∧
    (State.extendHead h s).cfu = s.cfu ∧ (State.extendHead h s).now = s.now ∧
    (State.extendHead h s).pending = s.pending ∧ (State.extendHead h s).pipes = s.pipes ∧
    (State.extendHead h s).ports = s.ports ∧ (State.extendHead h s).cca = s.cca ∧
    (State.extendHead h s).tlm = s.tlm ∧ (State.extendHead h s).lnk = s.lnk ∧ (State.extendHead h s).evr = s.evr :=
  by unfold State.extendHead; split <;> simp

/-- What `State.resolveRecord` leaves. -/
@[simp] theorem State.resolveRecord_keeps (h : Head) (s : State) (j : Nat) :
    (State.resolveRecord h s j).jcu = s.jcu ∧ (State.resolveRecord h s j).stu = s.stu ∧
    (State.resolveRecord h s j).now = s.now ∧ (State.resolveRecord h s j).pending = s.pending ∧
    (State.resolveRecord h s j).pipes = s.pipes ∧ (State.resolveRecord h s j).ports = s.ports ∧
    (State.resolveRecord h s j).cca.samples = s.cca.samples ∧ (State.resolveRecord h s j).tlm = s.tlm ∧
    (State.resolveRecord h s j).lnk.state = s.lnk.state ∧
    (State.resolveRecord h s j).lnk.lastSymbol = s.lnk.lastSymbol ∧
    (State.resolveRecord h s j).lnk.reception = s.lnk.reception ∧
    (State.resolveRecord h s j).lnk.inbound = s.lnk.inbound ∧
    (State.resolveRecord h s j).lnk.hold = s.lnk.hold ∧ (State.resolveRecord h s j).lnk.draws = s.lnk.draws :=
  by unfold State.resolveRecord; (repeat' split) <;> simp

/-- Resolving a run of records leaves what resolving one leaves. -/
@[simp] theorem State.foldl_resolve_keeps (h : Head) (js : List Nat) : ∀ s : State,
    (js.foldl (State.resolveRecord h) s).jcu = s.jcu ∧ (js.foldl (State.resolveRecord h) s).stu = s.stu ∧
    (js.foldl (State.resolveRecord h) s).now = s.now ∧
    (js.foldl (State.resolveRecord h) s).pending = s.pending ∧
    (js.foldl (State.resolveRecord h) s).pipes = s.pipes ∧
    (js.foldl (State.resolveRecord h) s).ports = s.ports ∧
    (js.foldl (State.resolveRecord h) s).cca.samples = s.cca.samples ∧
    (js.foldl (State.resolveRecord h) s).tlm = s.tlm ∧
    (js.foldl (State.resolveRecord h) s).lnk.state = s.lnk.state ∧
    (js.foldl (State.resolveRecord h) s).lnk.lastSymbol = s.lnk.lastSymbol ∧
    (js.foldl (State.resolveRecord h) s).lnk.reception = s.lnk.reception ∧
    (js.foldl (State.resolveRecord h) s).lnk.inbound = s.lnk.inbound ∧
    (js.foldl (State.resolveRecord h) s).lnk.hold = s.lnk.hold ∧
    (js.foldl (State.resolveRecord h) s).lnk.draws = s.lnk.draws := by
  induction js with
  | nil => intro s; simp
  | cons j js ih => intro s; simp [ih]

/-- What `State.resolveHead` leaves. -/
@[simp] theorem State.resolveHead_keeps (h : Head) (s : State) :
    (State.resolveHead h s).jcu = s.jcu ∧ (State.resolveHead h s).stu = s.stu ∧
    (State.resolveHead h s).now = s.now ∧ (State.resolveHead h s).pending = s.pending ∧
    (State.resolveHead h s).pipes = s.pipes ∧ (State.resolveHead h s).ports = s.ports ∧
    (State.resolveHead h s).cca.samples = s.cca.samples ∧ (State.resolveHead h s).tlm = s.tlm ∧
    (State.resolveHead h s).lnk.state = s.lnk.state ∧
    (State.resolveHead h s).lnk.lastSymbol = s.lnk.lastSymbol ∧
    (State.resolveHead h s).lnk.reception = s.lnk.reception ∧
    (State.resolveHead h s).lnk.inbound = s.lnk.inbound ∧ (State.resolveHead h s).lnk.hold = s.lnk.hold ∧
    (State.resolveHead h s).lnk.draws = s.lnk.draws :=
  by unfold State.resolveHead; split <;> simp

/-- What `State.planningPass` leaves. -/
@[simp] theorem State.planningPass_keeps (s : State) :
    (s.planningPass).jcu = s.jcu ∧ (s.planningPass).stu = s.stu ∧ (s.planningPass).now = s.now ∧
    (s.planningPass).pending = s.pending ∧ (s.planningPass).pipes = s.pipes ∧
    (s.planningPass).ports = s.ports ∧ (s.planningPass).cca.samples = s.cca.samples ∧
    (s.planningPass).tlm = s.tlm ∧ (s.planningPass).lnk.state = s.lnk.state ∧
    (s.planningPass).lnk.lastSymbol = s.lnk.lastSymbol ∧ (s.planningPass).lnk.reception = s.lnk.reception ∧
    (s.planningPass).lnk.inbound = s.lnk.inbound ∧ (s.planningPass).lnk.hold = s.lnk.hold ∧
    (s.planningPass).lnk.draws = s.lnk.draws :=
  by simp [State.planningPass, State.eachHead_eq]

/-- What `State.startTrack` leaves. -/
@[simp] theorem State.startTrack_keeps (s : State) (h : Head) :
    (s.startTrack h).jcu = s.jcu ∧ (s.startTrack h).stu = s.stu ∧ (s.startTrack h).cfu = s.cfu ∧
    (s.startTrack h).now = s.now ∧ (s.startTrack h).pending = s.pending ∧ (s.startTrack h).ports = s.ports ∧
    (s.startTrack h).cca = s.cca ∧ (s.startTrack h).tlm = s.tlm ∧ (s.startTrack h).lnk = s.lnk ∧
    (s.startTrack h).evr = s.evr :=
  by simp [State.startTrack]

/-- What `State.idleRevolution` leaves. -/
@[simp] theorem State.idleRevolution_keeps (s : State) (h : Head) (r : IdleReason) :
    (s.idleRevolution h r).jcu = s.jcu ∧ (s.idleRevolution h r).stu = s.stu ∧
    (s.idleRevolution h r).cfu = s.cfu ∧ (s.idleRevolution h r).now = s.now ∧
    (s.idleRevolution h r).pending = s.pending ∧ (s.idleRevolution h r).pipes = s.pipes ∧
    (s.idleRevolution h r).ports = s.ports ∧ (s.idleRevolution h r).cca.lru = s.cca.lru ∧
    (s.idleRevolution h r).cca.samples = s.cca.samples ∧ (s.idleRevolution h r).tlm = s.tlm ∧
    (s.idleRevolution h r).lnk.state = s.lnk.state ∧ (s.idleRevolution h r).lnk.lastSymbol = s.lnk.lastSymbol ∧
    (s.idleRevolution h r).lnk.reception = s.lnk.reception ∧
    (s.idleRevolution h r).lnk.inbound = s.lnk.inbound ∧ (s.idleRevolution h r).lnk.hold = s.lnk.hold ∧
    (s.idleRevolution h r).lnk.draws = s.lnk.draws :=
  by unfold State.idleRevolution; split <;> simp

/-- What `State.testStart` leaves. -/
@[simp] theorem State.testStart_keeps (s : State) (h : Head) :
    (s.testStart h).jcu = s.jcu ∧ (s.testStart h).stu = s.stu ∧ (s.testStart h).cfu = s.cfu ∧
    (s.testStart h).now = s.now ∧ (s.testStart h).pending = s.pending ∧ (s.testStart h).ports = s.ports ∧
    (s.testStart h).cca.lru = s.cca.lru ∧ (s.testStart h).cca.samples = s.cca.samples ∧
    (s.testStart h).tlm = s.tlm ∧ (s.testStart h).lnk.state = s.lnk.state ∧
    (s.testStart h).lnk.lastSymbol = s.lnk.lastSymbol ∧ (s.testStart h).lnk.reception = s.lnk.reception ∧
    (s.testStart h).lnk.inbound = s.lnk.inbound ∧ (s.testStart h).lnk.hold = s.lnk.hold ∧
    (s.testStart h).lnk.draws = s.lnk.draws :=
  by unfold State.testStart; split <;> simp

/-- What `State.countDone` leaves. -/
@[simp] theorem State.countDone_keeps (s : State) (h : Head) (k : Nat) :
    (s.countDone h k).jcu = s.jcu ∧ (s.countDone h k).stu = s.stu ∧ (s.countDone h k).cfu = s.cfu ∧
    (s.countDone h k).now = s.now ∧ (s.countDone h k).pending = s.pending ∧ (s.countDone h k).pipes = s.pipes ∧
    (s.countDone h k).ports = s.ports ∧ (s.countDone h k).cca = s.cca ∧ (s.countDone h k).tlm = s.tlm ∧
    (s.countDone h k).lnk.state = s.lnk.state ∧ (s.countDone h k).lnk.lastSymbol = s.lnk.lastSymbol ∧
    (s.countDone h k).lnk.reception = s.lnk.reception ∧ (s.countDone h k).lnk.inbound = s.lnk.inbound ∧
    (s.countDone h k).lnk.hold = s.lnk.hold ∧ (s.countDone h k).lnk.draws = s.lnk.draws :=
  by unfold State.countDone; dsimp only; split <;> simp

/-- What `State.addDefect` leaves. -/
@[simp] theorem State.addDefect_keeps (s : State) (h : Head) (k : Nat) (c : DefectCause) :
    (s.addDefect h k c).jcu = s.jcu ∧ (s.addDefect h k c).stu = s.stu ∧ (s.addDefect h k c).cfu = s.cfu ∧
    (s.addDefect h k c).now = s.now ∧ (s.addDefect h k c).pending = s.pending ∧
    (s.addDefect h k c).pipes = s.pipes ∧ (s.addDefect h k c).ports = s.ports ∧
    (s.addDefect h k c).cca = s.cca ∧ (s.addDefect h k c).tlm = s.tlm ∧
    (s.addDefect h k c).lnk.state = s.lnk.state ∧ (s.addDefect h k c).lnk.lastSymbol = s.lnk.lastSymbol ∧
    (s.addDefect h k c).lnk.reception = s.lnk.reception ∧ (s.addDefect h k c).lnk.inbound = s.lnk.inbound ∧
    (s.addDefect h k c).lnk.hold = s.lnk.hold ∧ (s.addDefect h k c).lnk.draws = s.lnk.draws :=
  by unfold State.addDefect; split <;> simp

/-- What `State.countDefect` leaves. -/
@[simp] theorem State.countDefect_keeps (s : State) (h : Head) (k : Nat) (c : DefectCause) :
    (s.countDefect h k c).jcu = s.jcu ∧ (s.countDefect h k c).stu = s.stu ∧ (s.countDefect h k c).cfu = s.cfu ∧
    (s.countDefect h k c).now = s.now ∧ (s.countDefect h k c).pending = s.pending ∧
    (s.countDefect h k c).pipes = s.pipes ∧ (s.countDefect h k c).ports = s.ports ∧
    (s.countDefect h k c).cca = s.cca ∧ (s.countDefect h k c).tlm = s.tlm ∧
    (s.countDefect h k c).lnk.state = s.lnk.state ∧ (s.countDefect h k c).lnk.lastSymbol = s.lnk.lastSymbol ∧
    (s.countDefect h k c).lnk.reception = s.lnk.reception ∧ (s.countDefect h k c).lnk.inbound = s.lnk.inbound ∧
    (s.countDefect h k c).lnk.hold = s.lnk.hold ∧ (s.countDefect h k c).lnk.draws = s.lnk.draws :=
  by simp [State.countDefect]

/-- What `State.countEnd` leaves. -/
@[simp] theorem State.countEnd_keeps (s : State) (h : Head) (k : Nat) (o : Option DefectCause) :
    (s.countEnd h k o).jcu = s.jcu ∧ (s.countEnd h k o).stu = s.stu ∧ (s.countEnd h k o).cfu = s.cfu ∧
    (s.countEnd h k o).now = s.now ∧ (s.countEnd h k o).pending = s.pending ∧
    (s.countEnd h k o).pipes = s.pipes ∧ (s.countEnd h k o).ports = s.ports ∧ (s.countEnd h k o).cca = s.cca ∧
    (s.countEnd h k o).tlm = s.tlm ∧ (s.countEnd h k o).lnk.state = s.lnk.state ∧
    (s.countEnd h k o).lnk.lastSymbol = s.lnk.lastSymbol ∧ (s.countEnd h k o).lnk.reception = s.lnk.reception ∧
    (s.countEnd h k o).lnk.inbound = s.lnk.inbound ∧ (s.countEnd h k o).lnk.hold = s.lnk.hold ∧
    (s.countEnd h k o).lnk.draws = s.lnk.draws :=
  by cases o <;> simp [State.countEnd]

/-- What `State.removeActive` leaves. -/
@[simp] theorem State.removeActive_keeps (s : State) (h : Head) (r : TrackRecord) :
    (s.removeActive h r).jcu = s.jcu ∧ (s.removeActive h r).stu = s.stu ∧ (s.removeActive h r).cfu = s.cfu ∧
    (s.removeActive h r).now = s.now ∧ (s.removeActive h r).pending = s.pending ∧
    (s.removeActive h r).ports = s.ports ∧ (s.removeActive h r).cca.lru = s.cca.lru ∧
    (s.removeActive h r).cca.samples = s.cca.samples ∧ (s.removeActive h r).tlm = s.tlm ∧
    (s.removeActive h r).lnk = s.lnk ∧ (s.removeActive h r).evr = s.evr :=
  by simp [State.removeActive]

/-- What `State.closeTrack` leaves. -/
@[simp] theorem State.closeTrack_keeps (s : State) (h : Head) (k : Nat) (o : Bool) :
    (s.closeTrack h k o).jcu = s.jcu ∧ (s.closeTrack h k o).stu = s.stu ∧ (s.closeTrack h k o).cfu = s.cfu ∧
    (s.closeTrack h k o).now = s.now ∧ (s.closeTrack h k o).pending = s.pending ∧
    (s.closeTrack h k o).pipes = s.pipes ∧ (s.closeTrack h k o).ports = s.ports ∧
    (s.closeTrack h k o).cca = s.cca ∧ (s.closeTrack h k o).tlm = s.tlm ∧ (s.closeTrack h k o).lnk = s.lnk ∧
    (s.closeTrack h k o).evr = s.evr :=
  by unfold State.closeTrack; (repeat' split) <;> simp

/-- What `State.endTrack` leaves. -/
@[simp] theorem State.endTrack_keeps (s : State) (h : Head) (o : Option DefectCause) :
    (s.endTrack h o).jcu = s.jcu ∧ (s.endTrack h o).stu = s.stu ∧ (s.endTrack h o).cfu = s.cfu ∧
    (s.endTrack h o).now = s.now ∧ (s.endTrack h o).pending = s.pending ∧ (s.endTrack h o).ports = s.ports ∧
    (s.endTrack h o).cca.lru = s.cca.lru ∧ (s.endTrack h o).cca.samples = s.cca.samples ∧
    (s.endTrack h o).tlm = s.tlm ∧ (s.endTrack h o).lnk.state = s.lnk.state ∧
    (s.endTrack h o).lnk.lastSymbol = s.lnk.lastSymbol ∧ (s.endTrack h o).lnk.reception = s.lnk.reception ∧
    (s.endTrack h o).lnk.inbound = s.lnk.inbound ∧ (s.endTrack h o).lnk.hold = s.lnk.hold ∧
    (s.endTrack h o).lnk.draws = s.lnk.draws :=
  by unfold State.endTrack; split <;> simp

/-- What `State.park` leaves. -/
@[simp] theorem State.park_keeps (s : State) (h : Head) (k : Nat) :
    (s.park h k).jcu = s.jcu ∧ (s.park h k).stu = s.stu ∧ (s.park h k).cfu = s.cfu ∧ (s.park h k).now = s.now ∧
    (s.park h k).pending = s.pending ∧ (s.park h k).pipes = s.pipes ∧ (s.park h k).ports = s.ports ∧
    (s.park h k).cca.lru = s.cca.lru ∧ (s.park h k).cca.samples = s.cca.samples ∧ (s.park h k).tlm = s.tlm ∧
    (s.park h k).lnk.state = s.lnk.state ∧ (s.park h k).lnk.lastSymbol = s.lnk.lastSymbol ∧
    (s.park h k).lnk.reception = s.lnk.reception ∧ (s.park h k).lnk.inbound = s.lnk.inbound ∧
    (s.park h k).lnk.hold = s.lnk.hold ∧ (s.park h k).lnk.draws = s.lnk.draws :=
  by simp [State.park]

/-- What `State.stopNow` leaves. -/
@[simp] theorem State.stopNow_keeps (s : State) (h : Head) :
    (s.stopNow h).jcu = s.jcu ∧ (s.stopNow h).stu = s.stu ∧ (s.stopNow h).cfu = s.cfu ∧
    (s.stopNow h).now = s.now ∧ (s.stopNow h).pending = s.pending ∧ (s.stopNow h).pipes = s.pipes ∧
    (s.stopNow h).ports = s.ports ∧ (s.stopNow h).cca.lru = s.cca.lru ∧
    (s.stopNow h).cca.samples = s.cca.samples ∧ (s.stopNow h).tlm = s.tlm ∧ (s.stopNow h).lnk = s.lnk ∧
    (s.stopNow h).evr = s.evr :=
  by simp [State.stopNow]

/-- What `State.waitAfterEnd` leaves. -/
@[simp] theorem State.waitAfterEnd_keeps (s : State) (h : Head) (o : Bool) :
    (s.waitAfterEnd h o).jcu = s.jcu ∧ (s.waitAfterEnd h o).stu = s.stu ∧ (s.waitAfterEnd h o).cfu = s.cfu ∧
    (s.waitAfterEnd h o).now = s.now ∧ (s.waitAfterEnd h o).pending = s.pending ∧
    (s.waitAfterEnd h o).pipes = s.pipes ∧ (s.waitAfterEnd h o).cca = s.cca ∧
    (s.waitAfterEnd h o).tlm = s.tlm ∧ (s.waitAfterEnd h o).lnk = s.lnk ∧ (s.waitAfterEnd h o).evr = s.evr :=
  by unfold State.waitAfterEnd; split <;> simp

/-- What `State.afterEnd` leaves. -/
@[simp] theorem State.afterEnd_keeps (s : State) (h : Head) (k : Nat) (a b : Bool) :
    (s.afterEnd h k a b).jcu = s.jcu ∧ (s.afterEnd h k a b).stu = s.stu ∧ (s.afterEnd h k a b).cfu = s.cfu ∧
    (s.afterEnd h k a b).now = s.now ∧ (s.afterEnd h k a b).pending = s.pending ∧
    (s.afterEnd h k a b).pipes = s.pipes ∧ (s.afterEnd h k a b).cca.lru = s.cca.lru ∧
    (s.afterEnd h k a b).cca.samples = s.cca.samples ∧ (s.afterEnd h k a b).tlm = s.tlm ∧
    (s.afterEnd h k a b).lnk.state = s.lnk.state ∧ (s.afterEnd h k a b).lnk.lastSymbol = s.lnk.lastSymbol ∧
    (s.afterEnd h k a b).lnk.reception = s.lnk.reception ∧ (s.afterEnd h k a b).lnk.inbound = s.lnk.inbound ∧
    (s.afterEnd h k a b).lnk.hold = s.lnk.hold ∧ (s.afterEnd h k a b).lnk.draws = s.lnk.draws :=
  by unfold State.afterEnd; (repeat' split) <;> simp

/-- What `State.indexHead` leaves. -/
@[simp] theorem State.indexHead_keeps (h : Head) (s : State) :
    (State.indexHead h s).jcu = s.jcu ∧ (State.indexHead h s).stu = s.stu ∧ (State.indexHead h s).cfu = s.cfu ∧
    (State.indexHead h s).now = s.now ∧ (State.indexHead h s).pending = s.pending ∧
    (State.indexHead h s).cca.lru = s.cca.lru ∧ (State.indexHead h s).cca.samples = s.cca.samples ∧
    (State.indexHead h s).tlm = s.tlm ∧ (State.indexHead h s).lnk.state = s.lnk.state ∧
    (State.indexHead h s).lnk.lastSymbol = s.lnk.lastSymbol ∧
    (State.indexHead h s).lnk.reception = s.lnk.reception ∧ (State.indexHead h s).lnk.inbound = s.lnk.inbound ∧
    (State.indexHead h s).lnk.hold = s.lnk.hold ∧ (State.indexHead h s).lnk.draws = s.lnk.draws :=
  by unfold State.indexHead; dsimp only; (repeat' split) <;> simp

/-- What `State.shortRevHead` leaves. -/
@[simp] theorem State.shortRevHead_keeps (a b : Bool) (h : Head) (s : State) :
    (State.shortRevHead a b h s).jcu = s.jcu ∧ (State.shortRevHead a b h s).stu = s.stu ∧
    (State.shortRevHead a b h s).cfu = s.cfu ∧ (State.shortRevHead a b h s).now = s.now ∧
    (State.shortRevHead a b h s).pending = s.pending ∧ (State.shortRevHead a b h s).cca.lru = s.cca.lru ∧
    (State.shortRevHead a b h s).cca.samples = s.cca.samples ∧ (State.shortRevHead a b h s).tlm = s.tlm ∧
    (State.shortRevHead a b h s).lnk.state = s.lnk.state ∧
    (State.shortRevHead a b h s).lnk.lastSymbol = s.lnk.lastSymbol ∧
    (State.shortRevHead a b h s).lnk.reception = s.lnk.reception ∧
    (State.shortRevHead a b h s).lnk.inbound = s.lnk.inbound ∧
    (State.shortRevHead a b h s).lnk.hold = s.lnk.hold ∧ (State.shortRevHead a b h s).lnk.draws = s.lnk.draws :=
  by unfold State.shortRevHead; dsimp only; (repeat' split) <;> simp

/-- What `State.stopHead` leaves. -/
@[simp] theorem State.stopHead_keeps (h : Head) (s : State) :
    (State.stopHead h s).jcu = s.jcu ∧ (State.stopHead h s).stu = s.stu ∧ (State.stopHead h s).cfu = s.cfu ∧
    (State.stopHead h s).now = s.now ∧ (State.stopHead h s).pending = s.pending ∧
    (State.stopHead h s).pipes = s.pipes ∧ (State.stopHead h s).ports = s.ports ∧
    (State.stopHead h s).cca.lru = s.cca.lru ∧ (State.stopHead h s).cca.samples = s.cca.samples ∧
    (State.stopHead h s).tlm = s.tlm ∧ (State.stopHead h s).lnk = s.lnk ∧ (State.stopHead h s).evr = s.evr :=
  by unfold State.stopHead; split <;> simp

/-- What `State.haltHead` leaves. -/
@[simp] theorem State.haltHead_keeps (c : DefectCause) (h : Head) (s : State) :
    (State.haltHead c h s).jcu = s.jcu ∧ (State.haltHead c h s).stu = s.stu ∧
    (State.haltHead c h s).cfu = s.cfu ∧ (State.haltHead c h s).now = s.now ∧
    (State.haltHead c h s).pending = s.pending ∧ (State.haltHead c h s).ports = s.ports ∧
    (State.haltHead c h s).cca.lru = s.cca.lru ∧ (State.haltHead c h s).cca.samples = s.cca.samples ∧
    (State.haltHead c h s).tlm = s.tlm ∧ (State.haltHead c h s).lnk.state = s.lnk.state ∧
    (State.haltHead c h s).lnk.lastSymbol = s.lnk.lastSymbol ∧
    (State.haltHead c h s).lnk.reception = s.lnk.reception ∧
    (State.haltHead c h s).lnk.inbound = s.lnk.inbound ∧ (State.haltHead c h s).lnk.hold = s.lnk.hold ∧
    (State.haltHead c h s).lnk.draws = s.lnk.draws :=
  by unfold State.haltHead; split <;> simp

/-- What `State.tripHead` leaves. -/
@[simp] theorem State.tripHead_keeps (s : State) (h : Head) :
    (s.tripHead h).jcu = s.jcu ∧ (s.tripHead h).stu = s.stu ∧ (s.tripHead h).cfu = s.cfu ∧
    (s.tripHead h).now = s.now ∧ (s.tripHead h).pending = s.pending ∧ (s.tripHead h).ports = s.ports ∧
    (s.tripHead h).cca.lru = s.cca.lru ∧ (s.tripHead h).cca.samples = s.cca.samples ∧
    (s.tripHead h).tlm = s.tlm ∧ (s.tripHead h).lnk.state = s.lnk.state ∧
    (s.tripHead h).lnk.lastSymbol = s.lnk.lastSymbol ∧ (s.tripHead h).lnk.reception = s.lnk.reception ∧
    (s.tripHead h).lnk.inbound = s.lnk.inbound ∧ (s.tripHead h).lnk.hold = s.lnk.hold ∧
    (s.tripHead h).lnk.draws = s.lnk.draws :=
  by simp [State.tripHead]

/-- What `State.raiseTrip` leaves. -/
@[simp] theorem State.raiseTrip_keeps (s : State) (h : Head) (b : Channel) (c : TripCause) :
    (s.raiseTrip h b c).jcu = s.jcu ∧ (s.raiseTrip h b c).stu = s.stu ∧ (s.raiseTrip h b c).cfu = s.cfu ∧
    (s.raiseTrip h b c).now = s.now ∧ (s.raiseTrip h b c).pending = s.pending ∧
    (s.raiseTrip h b c).heads = s.heads ∧ (s.raiseTrip h b c).pipes = s.pipes ∧
    (s.raiseTrip h b c).ports = s.ports ∧ (s.raiseTrip h b c).cca = s.cca ∧ (s.raiseTrip h b c).tlm = s.tlm ∧
    (s.raiseTrip h b c).lnk.state = s.lnk.state ∧ (s.raiseTrip h b c).lnk.lastSymbol = s.lnk.lastSymbol ∧
    (s.raiseTrip h b c).lnk.reception = s.lnk.reception ∧ (s.raiseTrip h b c).lnk.inbound = s.lnk.inbound ∧
    (s.raiseTrip h b c).lnk.hold = s.lnk.hold ∧ (s.raiseTrip h b c).lnk.draws = s.lnk.draws :=
  by simp [State.raiseTrip]

/-- What `State.setWaiting` leaves. -/
@[simp] theorem State.setWaiting_keeps (h : Head) (s : State) :
    (State.setWaiting h s).jcu = s.jcu ∧ (State.setWaiting h s).stu = s.stu ∧
    (State.setWaiting h s).cfu = s.cfu ∧ (State.setWaiting h s).now = s.now ∧
    (State.setWaiting h s).pending = s.pending ∧ (State.setWaiting h s).cca.lru = s.cca.lru ∧
    (State.setWaiting h s).cca.samples = s.cca.samples ∧ (State.setWaiting h s).tlm = s.tlm ∧
    (State.setWaiting h s).lnk.state = s.lnk.state ∧ (State.setWaiting h s).lnk.lastSymbol = s.lnk.lastSymbol ∧
    (State.setWaiting h s).lnk.reception = s.lnk.reception ∧
    (State.setWaiting h s).lnk.inbound = s.lnk.inbound ∧ (State.setWaiting h s).lnk.hold = s.lnk.hold ∧
    (State.setWaiting h s).lnk.draws = s.lnk.draws :=
  by unfold State.setWaiting; dsimp only; (repeat' split) <;> simp

/-- What `State.resumeHead` leaves. -/
@[simp] theorem State.resumeHead_keeps (h : Head) (s : State) :
    (State.resumeHead h s).jcu = s.jcu ∧ (State.resumeHead h s).stu = s.stu ∧
    (State.resumeHead h s).cfu = s.cfu ∧ (State.resumeHead h s).now = s.now ∧
    (State.resumeHead h s).pending = s.pending ∧ (State.resumeHead h s).cca.lru = s.cca.lru ∧
    (State.resumeHead h s).cca.samples = s.cca.samples ∧ (State.resumeHead h s).tlm = s.tlm ∧
    (State.resumeHead h s).lnk.state = s.lnk.state ∧ (State.resumeHead h s).lnk.lastSymbol = s.lnk.lastSymbol ∧
    (State.resumeHead h s).lnk.reception = s.lnk.reception ∧
    (State.resumeHead h s).lnk.inbound = s.lnk.inbound ∧ (State.resumeHead h s).lnk.hold = s.lnk.hold ∧
    (State.resumeHead h s).lnk.draws = s.lnk.draws :=
  by unfold State.resumeHead; split <;> simp

/-- What `State.startHead` leaves. -/
@[simp] theorem State.startHead_keeps (h : Head) (s : State) :
    (State.startHead h s).jcu = s.jcu ∧ (State.startHead h s).stu = s.stu ∧ (State.startHead h s).cfu = s.cfu ∧
    (State.startHead h s).now = s.now ∧ (State.startHead h s).pending = s.pending ∧
    (State.startHead h s).cca.lru = s.cca.lru ∧ (State.startHead h s).cca.samples = s.cca.samples ∧
    (State.startHead h s).tlm = s.tlm ∧ (State.startHead h s).lnk.state = s.lnk.state ∧
    (State.startHead h s).lnk.lastSymbol = s.lnk.lastSymbol ∧
    (State.startHead h s).lnk.reception = s.lnk.reception ∧ (State.startHead h s).lnk.inbound = s.lnk.inbound ∧
    (State.startHead h s).lnk.hold = s.lnk.hold ∧ (State.startHead h s).lnk.draws = s.lnk.draws :=
  by unfold State.startHead; split <;> simp

/-- What `State.armHead` leaves. -/
@[simp] theorem State.armHead_keeps (h : Head) (s : State) :
    (State.armHead h s).jcu = s.jcu ∧ (State.armHead h s).stu = s.stu ∧ (State.armHead h s).cfu = s.cfu ∧
    (State.armHead h s).now = s.now ∧ (State.armHead h s).pending = s.pending ∧
    (State.armHead h s).ports = s.ports ∧ (State.armHead h s).cca = s.cca ∧ (State.armHead h s).tlm = s.tlm ∧
    (State.armHead h s).lnk = s.lnk ∧ (State.armHead h s).evr = s.evr :=
  by simp [State.armHead]

/-- What `State.clearHead` leaves. -/
@[simp] theorem State.clearHead_keeps (h : Head) (s : State) :
    (State.clearHead h s).jcu = s.jcu ∧ (State.clearHead h s).stu = s.stu ∧ (State.clearHead h s).cfu = s.cfu ∧
    (State.clearHead h s).now = s.now ∧ (State.clearHead h s).pending = s.pending ∧
    (State.clearHead h s).ports = s.ports ∧ (State.clearHead h s).cca.lru = s.cca.lru ∧
    (State.clearHead h s).cca.samples = s.cca.samples ∧ (State.clearHead h s).tlm = s.tlm ∧
    (State.clearHead h s).lnk = s.lnk ∧ (State.clearHead h s).evr = s.evr :=
  by simp [State.clearHead]

/-- What `State.haltJob` leaves. -/
@[simp] theorem State.haltJob_keeps (s : State) (c : JobCause) :
    (s.haltJob c).stu = s.stu ∧ (s.haltJob c).cfu = s.cfu ∧ (s.haltJob c).now = s.now ∧
    (s.haltJob c).pending = s.pending ∧ (s.haltJob c).pipes = s.pipes ∧ (s.haltJob c).ports = s.ports ∧
    (s.haltJob c).cca.lru = s.cca.lru ∧ (s.haltJob c).cca.samples = s.cca.samples ∧
    (s.haltJob c).tlm.layout = s.tlm.layout ∧ (s.haltJob c).tlm.lanes = s.tlm.lanes ∧
    (s.haltJob c).tlm.tiles = s.tlm.tiles ∧ (s.haltJob c).tlm.expands = s.tlm.expands ∧
    (s.haltJob c).tlm.setups = s.tlm.setups ∧ (s.haltJob c).tlm.cals = s.tlm.cals ∧
    (s.haltJob c).tlm.grads = s.tlm.grads ∧ (s.haltJob c).tlm.wear = s.tlm.wear ∧
    (s.haltJob c).tlm.route = s.tlm.route ∧ (s.haltJob c).tlm.reading = s.tlm.reading ∧
    (s.haltJob c).lnk.state = s.lnk.state ∧ (s.haltJob c).lnk.lastSymbol = s.lnk.lastSymbol ∧
    (s.haltJob c).lnk.reception = s.lnk.reception ∧ (s.haltJob c).lnk.inbound = s.lnk.inbound ∧
    (s.haltJob c).lnk.hold = s.lnk.hold ∧ (s.haltJob c).lnk.draws = s.lnk.draws :=
  by simp [State.haltJob, State.eachHead_eq]

/-- What `State.abortJob` leaves. -/
@[simp] theorem State.abortJob_keeps (s : State) (c : JobCause) :
    (s.abortJob c).stu = s.stu ∧ (s.abortJob c).cfu = s.cfu ∧ (s.abortJob c).now = s.now ∧
    (s.abortJob c).pending = s.pending ∧ (s.abortJob c).ports = s.ports ∧ (s.abortJob c).cca.lru = s.cca.lru ∧
    (s.abortJob c).cca.samples = s.cca.samples ∧ (s.abortJob c).tlm.layout = s.tlm.layout ∧
    (s.abortJob c).tlm.lanes = s.tlm.lanes ∧ (s.abortJob c).tlm.tiles = s.tlm.tiles ∧
    (s.abortJob c).tlm.expands = s.tlm.expands ∧ (s.abortJob c).tlm.setups = s.tlm.setups ∧
    (s.abortJob c).tlm.cals = s.tlm.cals ∧ (s.abortJob c).tlm.grads = s.tlm.grads ∧
    (s.abortJob c).tlm.wear = s.tlm.wear ∧ (s.abortJob c).tlm.route = s.tlm.route ∧
    (s.abortJob c).tlm.reading = s.tlm.reading ∧ (s.abortJob c).lnk.state = s.lnk.state ∧
    (s.abortJob c).lnk.lastSymbol = s.lnk.lastSymbol ∧ (s.abortJob c).lnk.reception = s.lnk.reception ∧
    (s.abortJob c).lnk.inbound = s.lnk.inbound ∧ (s.abortJob c).lnk.hold = s.lnk.hold ∧
    (s.abortJob c).lnk.draws = s.lnk.draws :=
  by simp [State.abortJob, State.eachHead_eq]

/-- What `State.faultJob` leaves. -/
@[simp] theorem State.faultJob_keeps (s : State) :
    (s.faultJob).stu = s.stu ∧ (s.faultJob).cfu = s.cfu ∧ (s.faultJob).now = s.now ∧
    (s.faultJob).pending = s.pending ∧ (s.faultJob).ports = s.ports ∧ (s.faultJob).cca.lru = s.cca.lru ∧
    (s.faultJob).cca.samples = s.cca.samples ∧ (s.faultJob).tlm.layout = s.tlm.layout ∧
    (s.faultJob).tlm.lanes = s.tlm.lanes ∧ (s.faultJob).tlm.tiles = s.tlm.tiles ∧
    (s.faultJob).tlm.expands = s.tlm.expands ∧ (s.faultJob).tlm.setups = s.tlm.setups ∧
    (s.faultJob).tlm.cals = s.tlm.cals ∧ (s.faultJob).tlm.grads = s.tlm.grads ∧
    (s.faultJob).tlm.wear = s.tlm.wear ∧ (s.faultJob).tlm.route = s.tlm.route ∧
    (s.faultJob).tlm.reading = s.tlm.reading ∧ (s.faultJob).lnk.state = s.lnk.state ∧
    (s.faultJob).lnk.lastSymbol = s.lnk.lastSymbol ∧ (s.faultJob).lnk.reception = s.lnk.reception ∧
    (s.faultJob).lnk.inbound = s.lnk.inbound ∧ (s.faultJob).lnk.hold = s.lnk.hold ∧
    (s.faultJob).lnk.draws = s.lnk.draws :=
  by simp [State.faultJob, State.eachHead_eq]

/-- What `State.startJob` leaves. -/
@[simp] theorem State.startJob_keeps (s : State) :
    (s.startJob).stu = s.stu ∧ (s.startJob).now = s.now ∧ (s.startJob).pending = s.pending ∧
    (s.startJob).cca.samples = s.cca.samples ∧ (s.startJob).tlm.layout = s.tlm.layout ∧
    (s.startJob).tlm.lanes = s.tlm.lanes ∧ (s.startJob).tlm.tiles = s.tlm.tiles ∧
    (s.startJob).tlm.expands = s.tlm.expands ∧ (s.startJob).tlm.setups = s.tlm.setups ∧
    (s.startJob).tlm.cals = s.tlm.cals ∧ (s.startJob).tlm.grads = s.tlm.grads ∧
    (s.startJob).tlm.wear = s.tlm.wear ∧ (s.startJob).tlm.route = s.tlm.route ∧
    (s.startJob).tlm.reading = s.tlm.reading ∧ (s.startJob).lnk.state = s.lnk.state ∧
    (s.startJob).lnk.lastSymbol = s.lnk.lastSymbol ∧ (s.startJob).lnk.reception = s.lnk.reception ∧
    (s.startJob).lnk.inbound = s.lnk.inbound ∧ (s.startJob).lnk.hold = s.lnk.hold ∧
    (s.startJob).lnk.draws = s.lnk.draws :=
  by simp [State.startJob, State.eachHead_eq]

/-- What `State.armJob` leaves. -/
@[simp] theorem State.armJob_keeps (s : State) :
    (s.armJob).stu = s.stu ∧ (s.armJob).cfu = s.cfu ∧ (s.armJob).now = s.now ∧ (s.armJob).pending = s.pending ∧
    (s.armJob).ports = s.ports ∧ (s.armJob).cca = s.cca ∧ (s.armJob).tlm.layout = s.tlm.layout ∧
    (s.armJob).tlm.lanes = s.tlm.lanes ∧ (s.armJob).tlm.tiles = s.tlm.tiles ∧
    (s.armJob).tlm.expands = s.tlm.expands ∧ (s.armJob).tlm.setups = s.tlm.setups ∧
    (s.armJob).tlm.cals = s.tlm.cals ∧ (s.armJob).tlm.grads = s.tlm.grads ∧ (s.armJob).tlm.wear = s.tlm.wear ∧
    (s.armJob).tlm.route = s.tlm.route ∧ (s.armJob).tlm.reading = s.tlm.reading ∧
    (s.armJob).lnk.state = s.lnk.state ∧ (s.armJob).lnk.lastSymbol = s.lnk.lastSymbol ∧
    (s.armJob).lnk.reception = s.lnk.reception ∧ (s.armJob).lnk.inbound = s.lnk.inbound ∧
    (s.armJob).lnk.hold = s.lnk.hold ∧ (s.armJob).lnk.draws = s.lnk.draws :=
  by simp [State.armJob, State.eachHead_eq]

/-- What `State.clearJob` leaves. -/
@[simp] theorem State.clearJob_keeps (s : State) :
    (s.clearJob).stu = s.stu ∧ (s.clearJob).cfu = s.cfu ∧ (s.clearJob).now = s.now ∧
    (s.clearJob).pending = s.pending ∧ (s.clearJob).ports = s.ports ∧ (s.clearJob).cca.lru = s.cca.lru ∧
    (s.clearJob).cca.samples = s.cca.samples ∧ (s.clearJob).tlm.layout = s.tlm.layout ∧
    (s.clearJob).tlm.lanes = s.tlm.lanes ∧ (s.clearJob).tlm.tiles = s.tlm.tiles ∧
    (s.clearJob).tlm.expands = s.tlm.expands ∧ (s.clearJob).tlm.setups = s.tlm.setups ∧
    (s.clearJob).tlm.cals = s.tlm.cals ∧ (s.clearJob).tlm.grads = s.tlm.grads ∧
    (s.clearJob).tlm.wear = s.tlm.wear ∧ (s.clearJob).tlm.route = s.tlm.route ∧
    (s.clearJob).tlm.reading = s.tlm.reading ∧ (s.clearJob).lnk.state = s.lnk.state ∧
    (s.clearJob).lnk.lastSymbol = s.lnk.lastSymbol ∧ (s.clearJob).lnk.reception = s.lnk.reception ∧
    (s.clearJob).lnk.inbound = s.lnk.inbound ∧ (s.clearJob).lnk.hold = s.lnk.hold ∧
    (s.clearJob).lnk.draws = s.lnk.draws :=
  by simp [State.clearJob, State.eachHead_eq]

/-- What `State.routeEffect` leaves. -/
@[simp] theorem State.routeEffect_keeps (s : State) (a : DueAction) :
    (s.routeEffect a).stu = s.stu ∧ (s.routeEffect a).cfu = s.cfu ∧ (s.routeEffect a).now = s.now ∧
    (s.routeEffect a).pending = s.pending ∧ (s.routeEffect a).ports = s.ports ∧
    (s.routeEffect a).cca.lru = s.cca.lru ∧ (s.routeEffect a).cca.samples = s.cca.samples ∧
    (s.routeEffect a).tlm.layout = s.tlm.layout ∧ (s.routeEffect a).tlm.lanes = s.tlm.lanes ∧
    (s.routeEffect a).tlm.tiles = s.tlm.tiles ∧ (s.routeEffect a).tlm.expands = s.tlm.expands ∧
    (s.routeEffect a).tlm.setups = s.tlm.setups ∧ (s.routeEffect a).tlm.cals = s.tlm.cals ∧
    (s.routeEffect a).tlm.grads = s.tlm.grads ∧ (s.routeEffect a).tlm.wear = s.tlm.wear ∧
    (s.routeEffect a).tlm.route = s.tlm.route ∧ (s.routeEffect a).tlm.reading = s.tlm.reading ∧
    (s.routeEffect a).lnk.state = s.lnk.state ∧ (s.routeEffect a).lnk.lastSymbol = s.lnk.lastSymbol ∧
    (s.routeEffect a).lnk.reception = s.lnk.reception ∧ (s.routeEffect a).lnk.inbound = s.lnk.inbound ∧
    (s.routeEffect a).lnk.hold = s.lnk.hold ∧ (s.routeEffect a).lnk.draws = s.lnk.draws :=
  by unfold State.routeEffect; (repeat' split) <;> simp

/-- What taking actions leaves. -/
@[simp] theorem State.takeActions_keeps (n : Nat) : ∀ (acts : List DueAction) (s : State),
    (State.takeActions n acts s).stu = s.stu ∧ (State.takeActions n acts s).cfu = s.cfu ∧
    (State.takeActions n acts s).now = s.now ∧ (State.takeActions n acts s).pending = s.pending ∧
    (State.takeActions n acts s).ports = s.ports ∧ (State.takeActions n acts s).cca.lru = s.cca.lru ∧
    (State.takeActions n acts s).cca.samples = s.cca.samples ∧
    (State.takeActions n acts s).tlm.layout = s.tlm.layout ∧
    (State.takeActions n acts s).tlm.lanes = s.tlm.lanes ∧
    (State.takeActions n acts s).tlm.tiles = s.tlm.tiles ∧
    (State.takeActions n acts s).tlm.expands = s.tlm.expands ∧
    (State.takeActions n acts s).tlm.setups = s.tlm.setups ∧
    (State.takeActions n acts s).tlm.cals = s.tlm.cals ∧ (State.takeActions n acts s).tlm.grads = s.tlm.grads ∧
    (State.takeActions n acts s).tlm.wear = s.tlm.wear ∧ (State.takeActions n acts s).tlm.route = s.tlm.route ∧
    (State.takeActions n acts s).tlm.reading = s.tlm.reading ∧
    (State.takeActions n acts s).lnk.state = s.lnk.state ∧
    (State.takeActions n acts s).lnk.lastSymbol = s.lnk.lastSymbol ∧
    (State.takeActions n acts s).lnk.reception = s.lnk.reception ∧
    (State.takeActions n acts s).lnk.inbound = s.lnk.inbound ∧
    (State.takeActions n acts s).lnk.hold = s.lnk.hold ∧ (State.takeActions n acts s).lnk.draws = s.lnk.draws := by
  induction n with
  | zero => intro acts s; simp [State.takeActions]
  | succ n ih =>
    intro acts
    induction acts with
    | nil => intro s; simp [State.takeActions]
    | cons a acts ih2 =>
      intro s
      have h := ih2 (State.takeActions n (((s.setDue []).routeEffect a).evr.due)
        (((s.setDue []).routeEffect a).setDue []))
      simp only [State.takeActions, List.foldl_cons] at h ⊢
      simp [h, ih]

/-- A projection that `f` and the head check keep is kept by the check that follows `f`. -/
theorem State.withCheck_keeps {α : Type} (P : State → α) (s : State) (h : Head) (f : State → State)
    (hf : P (f s) = P s) (hc : ∀ t : State, P t.headsCheck = P t) : P (s.withCheck h f) = P s := by
  unfold State.withCheck
  dsimp only
  split
  · exact hf
  · rw [hc, hf]

/-- A projection that `f`, the actions and their list keep is kept by the part of an event that is `f`. -/
theorem State.within_keeps {α : Type} (P : State → α) (s : State) (f : State → State)
    (hd : ∀ (t : State) d, P (t.setDue d) = P t) (ha : ∀ n acts (t : State), P (State.takeActions n acts t) = P t)
    (hf : ∀ t : State, P (f t) = P t) : P (s.within f) = P s := by
  simp only [State.within, hd, ha, hf]

/-- A part of an event leaves the actions that were due before it. -/
@[simp] theorem State.within_due (s : State) (f : State → State) : (s.within f).evr.due = s.evr.due := by
  simp [State.within]

/-- What `State.emptyTileSlot` leaves. -/
@[simp] theorem State.emptyTileSlot_keeps (t : Fin 32) (s : State) (n : Fin 64) :
    (State.emptyTileSlot t s n).jcu = s.jcu ∧ (State.emptyTileSlot t s n).stu = s.stu ∧
    (State.emptyTileSlot t s n).cfu = s.cfu ∧ (State.emptyTileSlot t s n).now = s.now ∧
    (State.emptyTileSlot t s n).pending = s.pending ∧ (State.emptyTileSlot t s n).heads = s.heads ∧
    (State.emptyTileSlot t s n).pipes = s.pipes ∧ (State.emptyTileSlot t s n).ports = s.ports ∧
    (State.emptyTileSlot t s n).cca.lru = s.cca.lru ∧ (State.emptyTileSlot t s n).cca.samples = s.cca.samples ∧
    (State.emptyTileSlot t s n).tlm = s.tlm ∧ (State.emptyTileSlot t s n).lnk = s.lnk ∧
    (State.emptyTileSlot t s n).evr = s.evr :=
  by unfold State.emptyTileSlot; split <;> simp

/-- Emptying a tile's slots touches the slots alone. -/
@[simp] theorem State.foldl_emptyTile_keeps (t : Fin 32) (ns : List (Fin 64)) : ∀ s : State,
    (ns.foldl (State.emptyTileSlot t) s).jcu = s.jcu ∧ (ns.foldl (State.emptyTileSlot t) s).stu = s.stu ∧
    (ns.foldl (State.emptyTileSlot t) s).cfu = s.cfu ∧ (ns.foldl (State.emptyTileSlot t) s).now = s.now ∧
    (ns.foldl (State.emptyTileSlot t) s).pending = s.pending ∧
    (ns.foldl (State.emptyTileSlot t) s).heads = s.heads ∧
    (ns.foldl (State.emptyTileSlot t) s).pipes = s.pipes ∧
    (ns.foldl (State.emptyTileSlot t) s).ports = s.ports ∧
    (ns.foldl (State.emptyTileSlot t) s).cca.lru = s.cca.lru ∧
    (ns.foldl (State.emptyTileSlot t) s).cca.samples = s.cca.samples ∧
    (ns.foldl (State.emptyTileSlot t) s).tlm = s.tlm ∧ (ns.foldl (State.emptyTileSlot t) s).lnk = s.lnk ∧
    (ns.foldl (State.emptyTileSlot t) s).evr = s.evr := by
  induction ns with
  | nil => intro s; simp
  | cons n ns ih => intro s; simp [ih]

/-- What `State.emptyTile` leaves. -/
@[simp] theorem State.emptyTile_keeps (s : State) (t : Fin 32) :
    (s.emptyTile t).jcu = s.jcu ∧ (s.emptyTile t).stu = s.stu ∧ (s.emptyTile t).cfu = s.cfu ∧
    (s.emptyTile t).now = s.now ∧ (s.emptyTile t).pending = s.pending ∧ (s.emptyTile t).heads = s.heads ∧
    (s.emptyTile t).pipes = s.pipes ∧ (s.emptyTile t).ports = s.ports ∧ (s.emptyTile t).cca.lru = s.cca.lru ∧
    (s.emptyTile t).cca.samples = s.cca.samples ∧ (s.emptyTile t).tlm = s.tlm ∧ (s.emptyTile t).lnk = s.lnk ∧
    (s.emptyTile t).evr = s.evr :=
  by simp [State.emptyTile]

/-- What `State.clearSilenced` leaves. -/
@[simp] theorem State.clearSilenced_keeps (n : Nat) : ∀ (s : State) (i : Nat),
    (s.clearSilenced i n).jcu = s.jcu ∧ (s.clearSilenced i n).stu = s.stu ∧ (s.clearSilenced i n).cfu = s.cfu ∧
    (s.clearSilenced i n).now = s.now ∧ (s.clearSilenced i n).pending = s.pending ∧
    (s.clearSilenced i n).heads = s.heads ∧ (s.clearSilenced i n).pipes = s.pipes ∧
    (s.clearSilenced i n).ports = s.ports ∧ (s.clearSilenced i n).cca = s.cca ∧
    (s.clearSilenced i n).tlm = s.tlm ∧ (s.clearSilenced i n).lnk = s.lnk ∧
    (s.clearSilenced i n).evr.due = s.evr.due := by
  induction n with
  | zero => intro s i; simp [State.clearSilenced]
  | succ n ih =>
    intro s i
    unfold State.clearSilenced
    dsimp only
    split
    · split <;> simp [ih]
    · simp [ih]

/-- What `State.writeEffect` leaves. -/
@[simp] theorem State.writeEffect_keeps (s : State) (k : ObjKind) (n a b : Nat) :
    (s.writeEffect k n a b).jcu = s.jcu ∧ (s.writeEffect k n a b).stu = s.stu ∧
    (s.writeEffect k n a b).cfu = s.cfu ∧ (s.writeEffect k n a b).now = s.now ∧
    (s.writeEffect k n a b).pending = s.pending ∧ (s.writeEffect k n a b).heads = s.heads ∧
    (s.writeEffect k n a b).pipes = s.pipes ∧ (s.writeEffect k n a b).ports = s.ports ∧
    (s.writeEffect k n a b).cca.lru = s.cca.lru ∧ (s.writeEffect k n a b).cca.samples = s.cca.samples ∧
    (s.writeEffect k n a b).tlm = s.tlm ∧ (s.writeEffect k n a b).lnk = s.lnk ∧
    (s.writeEffect k n a b).evr.due = s.evr.due :=
  by cases k <;> simp [State.writeEffect]

/-- Storing an object leaves the read in progress. -/
@[simp] theorem Tables.store_reading (t : Tables) (k : ObjKind) (n : Nat) (o : Items) :
    (t.store k n o).reading = t.reading := by cases k <;> rfl

/-- What `State.storeWrite` leaves. -/
@[simp] theorem State.storeWrite_keeps (s : State) (tag : Byte) (k : ObjKind) (n a : Nat) (w : Items) :
    (s.storeWrite tag k n a w).jcu = s.jcu ∧ (s.storeWrite tag k n a w).stu = s.stu ∧
    (s.storeWrite tag k n a w).cfu = s.cfu ∧ (s.storeWrite tag k n a w).now = s.now ∧
    (s.storeWrite tag k n a w).pending = s.pending ∧ (s.storeWrite tag k n a w).heads = s.heads ∧
    (s.storeWrite tag k n a w).pipes = s.pipes ∧ (s.storeWrite tag k n a w).ports = s.ports ∧
    (s.storeWrite tag k n a w).cca.lru = s.cca.lru ∧ (s.storeWrite tag k n a w).cca.samples = s.cca.samples ∧
    (s.storeWrite tag k n a w).tlm.reading = s.tlm.reading ∧
    (s.storeWrite tag k n a w).lnk.state = s.lnk.state ∧
    (s.storeWrite tag k n a w).lnk.lastSymbol = s.lnk.lastSymbol ∧
    (s.storeWrite tag k n a w).lnk.reception = s.lnk.reception ∧
    (s.storeWrite tag k n a w).lnk.inbound = s.lnk.inbound ∧ (s.storeWrite tag k n a w).lnk.hold = s.lnk.hold ∧
    (s.storeWrite tag k n a w).lnk.draws = s.lnk.draws ∧ (s.storeWrite tag k n a w).evr.due = s.evr.due :=
  by simp [State.storeWrite]

/-- What `State.tableWrite` leaves. -/
@[simp] theorem State.tableWrite_keeps (s : State) (tag k c : Byte) (a : Item) (w : Items) :
    (s.tableWrite tag k c a w).jcu = s.jcu ∧ (s.tableWrite tag k c a w).stu = s.stu ∧
    (s.tableWrite tag k c a w).cfu = s.cfu ∧ (s.tableWrite tag k c a w).now = s.now ∧
    (s.tableWrite tag k c a w).pending = s.pending ∧ (s.tableWrite tag k c a w).heads = s.heads ∧
    (s.tableWrite tag k c a w).pipes = s.pipes ∧ (s.tableWrite tag k c a w).ports = s.ports ∧
    (s.tableWrite tag k c a w).cca.lru = s.cca.lru ∧ (s.tableWrite tag k c a w).cca.samples = s.cca.samples ∧
    (s.tableWrite tag k c a w).tlm.reading = s.tlm.reading ∧
    (s.tableWrite tag k c a w).lnk.state = s.lnk.state ∧
    (s.tableWrite tag k c a w).lnk.lastSymbol = s.lnk.lastSymbol ∧
    (s.tableWrite tag k c a w).lnk.reception = s.lnk.reception ∧
    (s.tableWrite tag k c a w).lnk.inbound = s.lnk.inbound ∧ (s.tableWrite tag k c a w).lnk.hold = s.lnk.hold ∧
    (s.tableWrite tag k c a w).lnk.draws = s.lnk.draws ∧ (s.tableWrite tag k c a w).evr.due = s.evr.due :=
  by unfold State.tableWrite; split <;> simp

/-- What `State.readEvent` leaves. -/
@[simp] theorem State.readEvent_keeps (s : State) (r : Reading) :
    (s.readEvent r).jcu = s.jcu ∧ (s.readEvent r).stu = s.stu ∧ (s.readEvent r).cfu = s.cfu ∧
    (s.readEvent r).now = s.now ∧ (s.readEvent r).pending = s.pending ∧ (s.readEvent r).heads = s.heads ∧
    (s.readEvent r).pipes = s.pipes ∧ (s.readEvent r).ports = s.ports ∧ (s.readEvent r).cca = s.cca ∧
    (s.readEvent r).tlm.layout = s.tlm.layout ∧ (s.readEvent r).tlm.lanes = s.tlm.lanes ∧
    (s.readEvent r).tlm.tiles = s.tlm.tiles ∧ (s.readEvent r).tlm.expands = s.tlm.expands ∧
    (s.readEvent r).tlm.setups = s.tlm.setups ∧ (s.readEvent r).tlm.cals = s.tlm.cals ∧
    (s.readEvent r).tlm.calsActive = s.tlm.calsActive ∧ (s.readEvent r).tlm.grads = s.tlm.grads ∧
    (s.readEvent r).tlm.gradsActive = s.tlm.gradsActive ∧ (s.readEvent r).tlm.wear = s.tlm.wear ∧
    (s.readEvent r).tlm.route = s.tlm.route ∧ (s.readEvent r).tlm.gradPending = s.tlm.gradPending ∧
    (s.readEvent r).tlm.calPending = s.tlm.calPending ∧ (s.readEvent r).lnk.state = s.lnk.state ∧
    (s.readEvent r).lnk.lastSymbol = s.lnk.lastSymbol ∧ (s.readEvent r).lnk.reception = s.lnk.reception ∧
    (s.readEvent r).lnk.inbound = s.lnk.inbound ∧ (s.readEvent r).lnk.hold = s.lnk.hold ∧
    (s.readEvent r).lnk.draws = s.lnk.draws ∧ (s.readEvent r).evr.due = s.evr.due :=
  by unfold State.readEvent; dsimp only; split <;> simp

/-- What `State.tableRead` leaves. -/
@[simp] theorem State.tableRead_keeps (s : State) (tag k c : Byte) (a n : Item) :
    (s.tableRead tag k c a n).jcu = s.jcu ∧ (s.tableRead tag k c a n).stu = s.stu ∧
    (s.tableRead tag k c a n).cfu = s.cfu ∧ (s.tableRead tag k c a n).now = s.now ∧
    (s.tableRead tag k c a n).pending = s.pending ∧ (s.tableRead tag k c a n).heads = s.heads ∧
    (s.tableRead tag k c a n).pipes = s.pipes ∧ (s.tableRead tag k c a n).ports = s.ports ∧
    (s.tableRead tag k c a n).cca = s.cca ∧ (s.tableRead tag k c a n).tlm.layout = s.tlm.layout ∧
    (s.tableRead tag k c a n).tlm.lanes = s.tlm.lanes ∧ (s.tableRead tag k c a n).tlm.tiles = s.tlm.tiles ∧
    (s.tableRead tag k c a n).tlm.expands = s.tlm.expands ∧
    (s.tableRead tag k c a n).tlm.setups = s.tlm.setups ∧ (s.tableRead tag k c a n).tlm.cals = s.tlm.cals ∧
    (s.tableRead tag k c a n).tlm.calsActive = s.tlm.calsActive ∧
    (s.tableRead tag k c a n).tlm.grads = s.tlm.grads ∧
    (s.tableRead tag k c a n).tlm.gradsActive = s.tlm.gradsActive ∧
    (s.tableRead tag k c a n).tlm.wear = s.tlm.wear ∧ (s.tableRead tag k c a n).tlm.route = s.tlm.route ∧
    (s.tableRead tag k c a n).tlm.gradPending = s.tlm.gradPending ∧
    (s.tableRead tag k c a n).tlm.calPending = s.tlm.calPending ∧
    (s.tableRead tag k c a n).lnk.state = s.lnk.state ∧
    (s.tableRead tag k c a n).lnk.lastSymbol = s.lnk.lastSymbol ∧
    (s.tableRead tag k c a n).lnk.reception = s.lnk.reception ∧
    (s.tableRead tag k c a n).lnk.inbound = s.lnk.inbound ∧ (s.tableRead tag k c a n).lnk.hold = s.lnk.hold ∧
    (s.tableRead tag k c a n).lnk.draws = s.lnk.draws ∧ (s.tableRead tag k c a n).evr.due = s.evr.due :=
  by unfold State.tableRead; (repeat' split) <;> simp

/-- What `State.strayData` leaves. -/
@[simp] theorem State.strayData_keeps (s : State) (sg : Segment) :
    (s.strayData sg).jcu = s.jcu ∧ (s.strayData sg).stu = s.stu ∧ (s.strayData sg).cfu = s.cfu ∧
    (s.strayData sg).now = s.now ∧ (s.strayData sg).pending = s.pending ∧ (s.strayData sg).heads = s.heads ∧
    (s.strayData sg).pipes = s.pipes ∧ (s.strayData sg).ports = s.ports ∧ (s.strayData sg).cca = s.cca ∧
    (s.strayData sg).tlm = s.tlm ∧ (s.strayData sg).lnk.state = s.lnk.state ∧
    (s.strayData sg).lnk.lastSymbol = s.lnk.lastSymbol ∧ (s.strayData sg).lnk.reception = s.lnk.reception ∧
    (s.strayData sg).lnk.inbound = s.lnk.inbound ∧ (s.strayData sg).lnk.hold = s.lnk.hold ∧
    (s.strayData sg).lnk.draws = s.lnk.draws :=
  by simp [State.strayData]

/-- What `State.fillOrder` leaves. -/
@[simp] theorem State.fillOrder_keeps (s : State) (sg : Segment) (c : OrderCause) :
    (s.fillOrder sg c).jcu = s.jcu ∧ (s.fillOrder sg c).stu = s.stu ∧ (s.fillOrder sg c).cfu = s.cfu ∧
    (s.fillOrder sg c).now = s.now ∧ (s.fillOrder sg c).pending = s.pending ∧
    (s.fillOrder sg c).heads = s.heads ∧ (s.fillOrder sg c).pipes = s.pipes ∧
    (s.fillOrder sg c).ports = s.ports ∧ (s.fillOrder sg c).cca = s.cca ∧ (s.fillOrder sg c).tlm = s.tlm ∧
    (s.fillOrder sg c).lnk.state = s.lnk.state ∧ (s.fillOrder sg c).lnk.lastSymbol = s.lnk.lastSymbol ∧
    (s.fillOrder sg c).lnk.reception = s.lnk.reception ∧ (s.fillOrder sg c).lnk.inbound = s.lnk.inbound ∧
    (s.fillOrder sg c).lnk.hold = s.lnk.hold ∧ (s.fillOrder sg c).lnk.draws = s.lnk.draws :=
  by simp [State.fillOrder]

/-- What `State.lockAtCompletion` leaves. -/
@[simp] theorem State.lockAtCompletion_keeps (s : State) (r : Request) :
    (s.lockAtCompletion r).jcu = s.jcu ∧ (s.lockAtCompletion r).stu = s.stu ∧
    (s.lockAtCompletion r).cfu = s.cfu ∧ (s.lockAtCompletion r).now = s.now ∧
    (s.lockAtCompletion r).pending = s.pending ∧ (s.lockAtCompletion r).heads = s.heads ∧
    (s.lockAtCompletion r).pipes = s.pipes ∧ (s.lockAtCompletion r).ports = s.ports ∧
    (s.lockAtCompletion r).cca.lru = s.cca.lru ∧ (s.lockAtCompletion r).cca.samples = s.cca.samples ∧
    (s.lockAtCompletion r).tlm = s.tlm ∧ (s.lockAtCompletion r).lnk.state = s.lnk.state ∧
    (s.lockAtCompletion r).lnk.lastSymbol = s.lnk.lastSymbol ∧
    (s.lockAtCompletion r).lnk.reception = s.lnk.reception ∧
    (s.lockAtCompletion r).lnk.inbound = s.lnk.inbound ∧ (s.lockAtCompletion r).lnk.hold = s.lnk.hold ∧
    (s.lockAtCompletion r).lnk.draws = s.lnk.draws :=
  by unfold State.lockAtCompletion; split <;> simp

/-- What `State.completeFill` leaves. -/
@[simp] theorem State.completeFill_keeps (s : State) (r : Request) :
    (s.completeFill r).jcu = s.jcu ∧ (s.completeFill r).stu = s.stu ∧ (s.completeFill r).now = s.now ∧
    (s.completeFill r).pending = s.pending ∧ (s.completeFill r).heads = s.heads ∧
    (s.completeFill r).pipes = s.pipes ∧ (s.completeFill r).ports = s.ports ∧
    (s.completeFill r).cca.lru = s.cca.lru ∧ (s.completeFill r).cca.samples = s.cca.samples ∧
    (s.completeFill r).tlm = s.tlm ∧ (s.completeFill r).lnk.state = s.lnk.state ∧
    (s.completeFill r).lnk.lastSymbol = s.lnk.lastSymbol ∧ (s.completeFill r).lnk.reception = s.lnk.reception ∧
    (s.completeFill r).lnk.inbound = s.lnk.inbound ∧ (s.completeFill r).lnk.hold = s.lnk.hold ∧
    (s.completeFill r).lnk.draws = s.lnk.draws :=
  by unfold State.completeFill; split <;> simp

/-- What `State.preloadConflict` leaves. -/
@[simp] theorem State.preloadConflict_keeps (s : State) (k : Key) :
    (s.preloadConflict k).jcu = s.jcu ∧ (s.preloadConflict k).stu = s.stu ∧ (s.preloadConflict k).cfu = s.cfu ∧
    (s.preloadConflict k).now = s.now ∧ (s.preloadConflict k).pending = s.pending ∧
    (s.preloadConflict k).heads = s.heads ∧ (s.preloadConflict k).pipes = s.pipes ∧
    (s.preloadConflict k).ports = s.ports ∧ (s.preloadConflict k).cca = s.cca ∧
    (s.preloadConflict k).tlm = s.tlm ∧ (s.preloadConflict k).lnk.state = s.lnk.state ∧
    (s.preloadConflict k).lnk.lastSymbol = s.lnk.lastSymbol ∧
    (s.preloadConflict k).lnk.reception = s.lnk.reception ∧ (s.preloadConflict k).lnk.inbound = s.lnk.inbound ∧
    (s.preloadConflict k).lnk.hold = s.lnk.hold ∧ (s.preloadConflict k).lnk.draws = s.lnk.draws :=
  by simp [State.preloadConflict]

/-- What `State.revertRecords` leaves. -/
@[simp] theorem State.revertRecords_keeps (s : State) (n : Fin 64) :
    (s.revertRecords n).jcu = s.jcu ∧ (s.revertRecords n).stu = s.stu ∧ (s.revertRecords n).cfu = s.cfu ∧
    (s.revertRecords n).now = s.now ∧ (s.revertRecords n).pending = s.pending ∧
    (s.revertRecords n).pipes = s.pipes ∧ (s.revertRecords n).ports = s.ports ∧
    (s.revertRecords n).cca = s.cca ∧ (s.revertRecords n).tlm = s.tlm ∧ (s.revertRecords n).lnk = s.lnk ∧
    (s.revertRecords n).evr = s.evr :=
  by simp [State.revertRecords, State.eachHead_eq]

/-- What `State.expireFill` leaves. -/
@[simp] theorem State.expireFill_keeps (s : State) (r : Request) :
    (s.expireFill r).jcu = s.jcu ∧ (s.expireFill r).stu = s.stu ∧ (s.expireFill r).now = s.now ∧
    (s.expireFill r).pending = s.pending ∧ (s.expireFill r).pipes = s.pipes ∧
    (s.expireFill r).ports = s.ports ∧ (s.expireFill r).cca.lru = s.cca.lru ∧
    (s.expireFill r).cca.samples = s.cca.samples ∧ (s.expireFill r).tlm = s.tlm ∧
    (s.expireFill r).lnk.state = s.lnk.state ∧ (s.expireFill r).lnk.lastSymbol = s.lnk.lastSymbol ∧
    (s.expireFill r).lnk.reception = s.lnk.reception ∧ (s.expireFill r).lnk.inbound = s.lnk.inbound ∧
    (s.expireFill r).lnk.hold = s.lnk.hold ∧ (s.expireFill r).lnk.draws = s.lnk.draws :=
  by simp [State.expireFill]

/-- What `State.acceptSegment` leaves. -/
@[simp] theorem State.acceptSegment_keeps (s : State) (r : Request) (sg : Segment) :
    (s.acceptSegment r sg).stu = s.stu ∧ (s.acceptSegment r sg).now = s.now ∧
    (s.acceptSegment r sg).pending = s.pending ∧ (s.acceptSegment r sg).ports = s.ports ∧
    (s.acceptSegment r sg).tlm.layout = s.tlm.layout ∧ (s.acceptSegment r sg).tlm.lanes = s.tlm.lanes ∧
    (s.acceptSegment r sg).tlm.tiles = s.tlm.tiles ∧ (s.acceptSegment r sg).tlm.expands = s.tlm.expands ∧
    (s.acceptSegment r sg).tlm.setups = s.tlm.setups ∧ (s.acceptSegment r sg).tlm.cals = s.tlm.cals ∧
    (s.acceptSegment r sg).tlm.grads = s.tlm.grads ∧ (s.acceptSegment r sg).tlm.wear = s.tlm.wear ∧
    (s.acceptSegment r sg).tlm.route = s.tlm.route ∧ (s.acceptSegment r sg).tlm.reading = s.tlm.reading ∧
    (s.acceptSegment r sg).lnk.state = s.lnk.state ∧ (s.acceptSegment r sg).lnk.lastSymbol = s.lnk.lastSymbol ∧
    (s.acceptSegment r sg).lnk.reception = s.lnk.reception ∧
    (s.acceptSegment r sg).lnk.inbound = s.lnk.inbound ∧ (s.acceptSegment r sg).lnk.hold = s.lnk.hold ∧
    (s.acceptSegment r sg).lnk.draws = s.lnk.draws ∧ (s.acceptSegment r sg).evr.due = s.evr.due :=
  by unfold State.acceptSegment; dsimp only; split <;> simp [State.within]

/-- What `State.matchedSegment` leaves. -/
@[simp] theorem State.matchedSegment_keeps (s : State) (r : Request) (sg : Segment) :
    (s.matchedSegment r sg).stu = s.stu ∧ (s.matchedSegment r sg).now = s.now ∧
    (s.matchedSegment r sg).pending = s.pending ∧ (s.matchedSegment r sg).ports = s.ports ∧
    (s.matchedSegment r sg).tlm.layout = s.tlm.layout ∧ (s.matchedSegment r sg).tlm.lanes = s.tlm.lanes ∧
    (s.matchedSegment r sg).tlm.tiles = s.tlm.tiles ∧ (s.matchedSegment r sg).tlm.expands = s.tlm.expands ∧
    (s.matchedSegment r sg).tlm.setups = s.tlm.setups ∧ (s.matchedSegment r sg).tlm.cals = s.tlm.cals ∧
    (s.matchedSegment r sg).tlm.grads = s.tlm.grads ∧ (s.matchedSegment r sg).tlm.wear = s.tlm.wear ∧
    (s.matchedSegment r sg).tlm.route = s.tlm.route ∧ (s.matchedSegment r sg).tlm.reading = s.tlm.reading ∧
    (s.matchedSegment r sg).lnk.state = s.lnk.state ∧
    (s.matchedSegment r sg).lnk.lastSymbol = s.lnk.lastSymbol ∧
    (s.matchedSegment r sg).lnk.reception = s.lnk.reception ∧
    (s.matchedSegment r sg).lnk.inbound = s.lnk.inbound ∧ (s.matchedSegment r sg).lnk.hold = s.lnk.hold ∧
    (s.matchedSegment r sg).lnk.draws = s.lnk.draws ∧ (s.matchedSegment r sg).evr.due = s.evr.due :=
  by unfold State.matchedSegment; split <;> simp [State.within]

/-- What `State.preloadSegment` leaves. -/
@[simp] theorem State.preloadSegment_keeps (s : State) (sg : Segment) :
    (s.preloadSegment sg).stu = s.stu ∧ (s.preloadSegment sg).now = s.now ∧
    (s.preloadSegment sg).pending = s.pending ∧ (s.preloadSegment sg).ports = s.ports ∧
    (s.preloadSegment sg).tlm.layout = s.tlm.layout ∧ (s.preloadSegment sg).tlm.lanes = s.tlm.lanes ∧
    (s.preloadSegment sg).tlm.tiles = s.tlm.tiles ∧ (s.preloadSegment sg).tlm.expands = s.tlm.expands ∧
    (s.preloadSegment sg).tlm.setups = s.tlm.setups ∧ (s.preloadSegment sg).tlm.cals = s.tlm.cals ∧
    (s.preloadSegment sg).tlm.grads = s.tlm.grads ∧ (s.preloadSegment sg).tlm.wear = s.tlm.wear ∧
    (s.preloadSegment sg).tlm.route = s.tlm.route ∧ (s.preloadSegment sg).tlm.reading = s.tlm.reading ∧
    (s.preloadSegment sg).lnk.state = s.lnk.state ∧ (s.preloadSegment sg).lnk.lastSymbol = s.lnk.lastSymbol ∧
    (s.preloadSegment sg).lnk.reception = s.lnk.reception ∧ (s.preloadSegment sg).lnk.inbound = s.lnk.inbound ∧
    (s.preloadSegment sg).lnk.hold = s.lnk.hold ∧ (s.preloadSegment sg).lnk.draws = s.lnk.draws ∧
    (s.preloadSegment sg).evr.due = s.evr.due :=
  by unfold State.preloadSegment; dsimp only; (repeat' split) <;> simp [State.within]

/-- What `State.takeSegment` leaves. -/
@[simp] theorem State.takeSegment_keeps (s : State) (sg : Segment) :
    (s.takeSegment sg).stu = s.stu ∧ (s.takeSegment sg).now = s.now ∧ (s.takeSegment sg).pending = s.pending ∧
    (s.takeSegment sg).ports = s.ports ∧ (s.takeSegment sg).tlm.layout = s.tlm.layout ∧
    (s.takeSegment sg).tlm.lanes = s.tlm.lanes ∧ (s.takeSegment sg).tlm.tiles = s.tlm.tiles ∧
    (s.takeSegment sg).tlm.expands = s.tlm.expands ∧ (s.takeSegment sg).tlm.setups = s.tlm.setups ∧
    (s.takeSegment sg).tlm.cals = s.tlm.cals ∧ (s.takeSegment sg).tlm.grads = s.tlm.grads ∧
    (s.takeSegment sg).tlm.wear = s.tlm.wear ∧ (s.takeSegment sg).tlm.route = s.tlm.route ∧
    (s.takeSegment sg).tlm.reading = s.tlm.reading ∧ (s.takeSegment sg).lnk.state = s.lnk.state ∧
    (s.takeSegment sg).lnk.lastSymbol = s.lnk.lastSymbol ∧ (s.takeSegment sg).lnk.reception = s.lnk.reception ∧
    (s.takeSegment sg).lnk.inbound = s.lnk.inbound ∧ (s.takeSegment sg).lnk.hold = s.lnk.hold ∧
    (s.takeSegment sg).lnk.draws = s.lnk.draws ∧ (s.takeSegment sg).evr.due = s.evr.due :=
  by unfold State.takeSegment; (repeat' split) <;> simp [State.within]

/-- What `State.fillExpiry` leaves. -/
@[simp] theorem State.fillExpiry_keeps (s : State) :
    (s.fillExpiry).stu = s.stu ∧ (s.fillExpiry).now = s.now ∧ (s.fillExpiry).pending = s.pending ∧
    (s.fillExpiry).ports = s.ports ∧ (s.fillExpiry).cca.samples = s.cca.samples ∧
    (s.fillExpiry).tlm.layout = s.tlm.layout ∧ (s.fillExpiry).tlm.lanes = s.tlm.lanes ∧
    (s.fillExpiry).tlm.tiles = s.tlm.tiles ∧ (s.fillExpiry).tlm.expands = s.tlm.expands ∧
    (s.fillExpiry).tlm.setups = s.tlm.setups ∧ (s.fillExpiry).tlm.cals = s.tlm.cals ∧
    (s.fillExpiry).tlm.grads = s.tlm.grads ∧ (s.fillExpiry).tlm.wear = s.tlm.wear ∧
    (s.fillExpiry).tlm.route = s.tlm.route ∧ (s.fillExpiry).tlm.reading = s.tlm.reading ∧
    (s.fillExpiry).lnk.state = s.lnk.state ∧ (s.fillExpiry).lnk.lastSymbol = s.lnk.lastSymbol ∧
    (s.fillExpiry).lnk.reception = s.lnk.reception ∧ (s.fillExpiry).lnk.inbound = s.lnk.inbound ∧
    (s.fillExpiry).lnk.hold = s.lnk.hold ∧ (s.fillExpiry).lnk.draws = s.lnk.draws ∧
    (s.fillExpiry).evr.due = s.evr.due :=
  by unfold State.fillExpiry; split <;> simp [State.within]

/-- What `State.engraveCell` leaves. -/
@[simp] theorem State.engraveCell_keeps (s : State) (h : Head) (p : Phase) (c d : Nat) :
    (s.engraveCell h p c d).jcu = s.jcu ∧ (s.engraveCell h p c d).stu = s.stu ∧
    (s.engraveCell h p c d).cfu = s.cfu ∧ (s.engraveCell h p c d).now = s.now ∧
    (s.engraveCell h p c d).pending = s.pending ∧ (s.engraveCell h p c d).heads = s.heads ∧
    (s.engraveCell h p c d).cca = s.cca ∧ (s.engraveCell h p c d).tlm.reading = s.tlm.reading ∧
    (s.engraveCell h p c d).lnk = s.lnk ∧ (s.engraveCell h p c d).evr = s.evr :=
  by simp [State.engraveCell]

/-- What `State.saturateCell` leaves. -/
@[simp] theorem State.saturateCell_keeps (s : State) (h : Head) (k c : Nat) (b : Bool) :
    (s.saturateCell h k c b).jcu = s.jcu ∧ (s.saturateCell h k c b).stu = s.stu ∧
    (s.saturateCell h k c b).cfu = s.cfu ∧ (s.saturateCell h k c b).now = s.now ∧
    (s.saturateCell h k c b).pending = s.pending ∧ (s.saturateCell h k c b).heads = s.heads ∧
    (s.saturateCell h k c b).ports = s.ports ∧ (s.saturateCell h k c b).cca = s.cca ∧
    (s.saturateCell h k c b).tlm = s.tlm ∧ (s.saturateCell h k c b).lnk.state = s.lnk.state ∧
    (s.saturateCell h k c b).lnk.lastSymbol = s.lnk.lastSymbol ∧
    (s.saturateCell h k c b).lnk.reception = s.lnk.reception ∧
    (s.saturateCell h k c b).lnk.inbound = s.lnk.inbound ∧ (s.saturateCell h k c b).lnk.hold = s.lnk.hold ∧
    (s.saturateCell h k c b).lnk.draws = s.lnk.draws :=
  by simp [State.saturateCell]

/-- What `State.suppressCell` leaves. -/
@[simp] theorem State.suppressCell_keeps (s : State) (h : Head) (p : Phase) (k c : Nat) :
    (s.suppressCell h p k c).jcu = s.jcu ∧ (s.suppressCell h p k c).stu = s.stu ∧
    (s.suppressCell h p k c).cfu = s.cfu ∧ (s.suppressCell h p k c).now = s.now ∧
    (s.suppressCell h p k c).pending = s.pending ∧ (s.suppressCell h p k c).cca = s.cca ∧
    (s.suppressCell h p k c).tlm = s.tlm ∧ (s.suppressCell h p k c).lnk.state = s.lnk.state ∧
    (s.suppressCell h p k c).lnk.lastSymbol = s.lnk.lastSymbol ∧
    (s.suppressCell h p k c).lnk.reception = s.lnk.reception ∧
    (s.suppressCell h p k c).lnk.inbound = s.lnk.inbound ∧ (s.suppressCell h p k c).lnk.hold = s.lnk.hold ∧
    (s.suppressCell h p k c).lnk.draws = s.lnk.draws :=
  by simp [State.suppressCell]

/-- What `State.strobeCell` leaves. -/
@[simp] theorem State.strobeCell_keeps (s : State) (h : Head) (p : Phase) (r : TrackRecord) (c : Nat) :
    (s.strobeCell h p r c).jcu = s.jcu ∧ (s.strobeCell h p r c).stu = s.stu ∧
    (s.strobeCell h p r c).cfu = s.cfu ∧ (s.strobeCell h p r c).now = s.now ∧
    (s.strobeCell h p r c).pending = s.pending ∧ (s.strobeCell h p r c).cca = s.cca ∧
    (s.strobeCell h p r c).tlm.reading = s.tlm.reading ∧ (s.strobeCell h p r c).lnk.state = s.lnk.state ∧
    (s.strobeCell h p r c).lnk.lastSymbol = s.lnk.lastSymbol ∧
    (s.strobeCell h p r c).lnk.reception = s.lnk.reception ∧
    (s.strobeCell h p r c).lnk.inbound = s.lnk.inbound ∧ (s.strobeCell h p r c).lnk.hold = s.lnk.hold ∧
    (s.strobeCell h p r c).lnk.draws = s.lnk.draws :=
  by unfold State.strobeCell; (repeat' split) <;> simp

/-- What `State.windowStart` leaves. -/
@[simp] theorem State.windowStart_keeps (s : State) (h : Head) (k : Nat) :
    (s.windowStart h k).jcu = s.jcu ∧ (s.windowStart h k).stu = s.stu ∧ (s.windowStart h k).cfu = s.cfu ∧
    (s.windowStart h k).now = s.now ∧ (s.windowStart h k).pending = s.pending ∧
    (s.windowStart h k).pipes = s.pipes ∧ (s.windowStart h k).cca = s.cca ∧ (s.windowStart h k).tlm = s.tlm ∧
    (s.windowStart h k).lnk = s.lnk ∧ (s.windowStart h k).evr = s.evr :=
  by unfold State.windowStart; split <;> simp

/-- What `State.strobeEngaged` leaves. -/
@[simp] theorem State.strobeEngaged_keeps (s : State) (h : Head) (p : Phase) (c : Nat) :
    (s.strobeEngaged h p c).jcu = s.jcu ∧ (s.strobeEngaged h p c).stu = s.stu ∧
    (s.strobeEngaged h p c).cfu = s.cfu ∧ (s.strobeEngaged h p c).now = s.now ∧
    (s.strobeEngaged h p c).pending = s.pending ∧ (s.strobeEngaged h p c).cca = s.cca ∧
    (s.strobeEngaged h p c).tlm.reading = s.tlm.reading ∧ (s.strobeEngaged h p c).lnk.state = s.lnk.state ∧
    (s.strobeEngaged h p c).lnk.lastSymbol = s.lnk.lastSymbol ∧
    (s.strobeEngaged h p c).lnk.reception = s.lnk.reception ∧
    (s.strobeEngaged h p c).lnk.inbound = s.lnk.inbound ∧ (s.strobeEngaged h p c).lnk.hold = s.lnk.hold ∧
    (s.strobeEngaged h p c).lnk.draws = s.lnk.draws :=
  by unfold State.strobeEngaged; (repeat' split) <;> simp

/-- What `State.strobeHead` leaves. -/
@[simp] theorem State.strobeHead_keeps (p : Phase) (c : Nat) (h : Head) (s : State) :
    (State.strobeHead p c h s).jcu = s.jcu ∧ (State.strobeHead p c h s).stu = s.stu ∧
    (State.strobeHead p c h s).cfu = s.cfu ∧ (State.strobeHead p c h s).now = s.now ∧
    (State.strobeHead p c h s).pending = s.pending ∧ (State.strobeHead p c h s).cca = s.cca ∧
    (State.strobeHead p c h s).tlm.reading = s.tlm.reading ∧
    (State.strobeHead p c h s).lnk.state = s.lnk.state ∧
    (State.strobeHead p c h s).lnk.lastSymbol = s.lnk.lastSymbol ∧
    (State.strobeHead p c h s).lnk.reception = s.lnk.reception ∧
    (State.strobeHead p c h s).lnk.inbound = s.lnk.inbound ∧ (State.strobeHead p c h s).lnk.hold = s.lnk.hold ∧
    (State.strobeHead p c h s).lnk.draws = s.lnk.draws :=
  by unfold State.strobeHead; (repeat' split) <;> simp

/-- What `State.setPhase` leaves. -/
@[simp] theorem State.setPhase_keeps (h : Head) (s : State) :
    (State.setPhase h s).jcu = s.jcu ∧ (State.setPhase h s).stu = s.stu ∧ (State.setPhase h s).cfu = s.cfu ∧
    (State.setPhase h s).now = s.now ∧ (State.setPhase h s).pending = s.pending ∧
    (State.setPhase h s).heads = s.heads ∧ (State.setPhase h s).pipes = s.pipes ∧
    (State.setPhase h s).cca = s.cca ∧ (State.setPhase h s).tlm = s.tlm ∧ (State.setPhase h s).lnk = s.lnk ∧
    (State.setPhase h s).evr = s.evr :=
  by simp [State.setPhase]

/-- What `State.stepDoneActive` leaves. -/
@[simp] theorem State.stepDoneActive_keeps (s : State) (h : Head) (n : Nat) :
    (s.stepDoneActive h n).jcu = s.jcu ∧ (s.stepDoneActive h n).stu = s.stu ∧
    (s.stepDoneActive h n).cfu = s.cfu ∧ (s.stepDoneActive h n).now = s.now ∧
    (s.stepDoneActive h n).pending = s.pending ∧ (s.stepDoneActive h n).pipes = s.pipes ∧
    (s.stepDoneActive h n).cca = s.cca ∧ (s.stepDoneActive h n).tlm = s.tlm ∧
    (s.stepDoneActive h n).lnk = s.lnk ∧ (s.stepDoneActive h n).evr = s.evr :=
  by unfold State.stepDoneActive; (repeat' split) <;> simp

/-- What `State.stepDoneInactive` leaves. -/
@[simp] theorem State.stepDoneInactive_keeps (s : State) (h : Head) (n : Nat) :
    (s.stepDoneInactive h n).jcu = s.jcu ∧ (s.stepDoneInactive h n).stu = s.stu ∧
    (s.stepDoneInactive h n).cfu = s.cfu ∧ (s.stepDoneInactive h n).now = s.now ∧
    (s.stepDoneInactive h n).pending = s.pending ∧ (s.stepDoneInactive h n).heads = s.heads ∧
    (s.stepDoneInactive h n).pipes = s.pipes ∧ (s.stepDoneInactive h n).cca = s.cca ∧
    (s.stepDoneInactive h n).tlm = s.tlm ∧ (s.stepDoneInactive h n).lnk = s.lnk ∧
    (s.stepDoneInactive h n).evr = s.evr :=
  by simp [State.stepDoneInactive]

/-- What `State.faultInactive` leaves. -/
@[simp] theorem State.faultInactive_keeps (s : State) (h : Head) (n : Nat) :
    (s.faultInactive h n).jcu = s.jcu ∧ (s.faultInactive h n).stu = s.stu ∧ (s.faultInactive h n).cfu = s.cfu ∧
    (s.faultInactive h n).now = s.now ∧ (s.faultInactive h n).pending = s.pending ∧
    (s.faultInactive h n).heads = s.heads ∧ (s.faultInactive h n).pipes = s.pipes ∧
    (s.faultInactive h n).cca = s.cca ∧ (s.faultInactive h n).tlm = s.tlm ∧ (s.faultInactive h n).lnk = s.lnk ∧
    (s.faultInactive h n).evr = s.evr :=
  by simp [State.faultInactive]

/-- What `State.withCheck_indexHead` leaves. -/
@[simp] theorem State.withCheck_indexHead_keeps (s : State) (h : Head) :
    (s.withCheck h (State.indexHead h)).stu = s.stu ∧ (s.withCheck h (State.indexHead h)).cfu = s.cfu ∧
    (s.withCheck h (State.indexHead h)).now = s.now ∧ (s.withCheck h (State.indexHead h)).pending = s.pending ∧
    (s.withCheck h (State.indexHead h)).cca.lru = s.cca.lru ∧
    (s.withCheck h (State.indexHead h)).cca.samples = s.cca.samples ∧
    (s.withCheck h (State.indexHead h)).tlm.layout = s.tlm.layout ∧
    (s.withCheck h (State.indexHead h)).tlm.lanes = s.tlm.lanes ∧
    (s.withCheck h (State.indexHead h)).tlm.tiles = s.tlm.tiles ∧
    (s.withCheck h (State.indexHead h)).tlm.expands = s.tlm.expands ∧
    (s.withCheck h (State.indexHead h)).tlm.setups = s.tlm.setups ∧
    (s.withCheck h (State.indexHead h)).tlm.cals = s.tlm.cals ∧
    (s.withCheck h (State.indexHead h)).tlm.grads = s.tlm.grads ∧
    (s.withCheck h (State.indexHead h)).tlm.wear = s.tlm.wear ∧
    (s.withCheck h (State.indexHead h)).tlm.route = s.tlm.route ∧
    (s.withCheck h (State.indexHead h)).tlm.reading = s.tlm.reading ∧
    (s.withCheck h (State.indexHead h)).lnk.state = s.lnk.state ∧
    (s.withCheck h (State.indexHead h)).lnk.lastSymbol = s.lnk.lastSymbol ∧
    (s.withCheck h (State.indexHead h)).lnk.reception = s.lnk.reception ∧
    (s.withCheck h (State.indexHead h)).lnk.inbound = s.lnk.inbound ∧
    (s.withCheck h (State.indexHead h)).lnk.hold = s.lnk.hold ∧
    (s.withCheck h (State.indexHead h)).lnk.draws = s.lnk.draws :=
  by unfold State.withCheck; dsimp only; split <;> simp

/-- What `State.withCheck_shortRevHead` leaves. -/
@[simp] theorem State.withCheck_shortRevHead_keeps (s : State) (h : Head) (a b : Bool) :
    (s.withCheck h (State.shortRevHead a b h)).stu = s.stu ∧
    (s.withCheck h (State.shortRevHead a b h)).cfu = s.cfu ∧
    (s.withCheck h (State.shortRevHead a b h)).now = s.now ∧
    (s.withCheck h (State.shortRevHead a b h)).pending = s.pending ∧
    (s.withCheck h (State.shortRevHead a b h)).cca.lru = s.cca.lru ∧
    (s.withCheck h (State.shortRevHead a b h)).cca.samples = s.cca.samples ∧
    (s.withCheck h (State.shortRevHead a b h)).tlm.layout = s.tlm.layout ∧
    (s.withCheck h (State.shortRevHead a b h)).tlm.lanes = s.tlm.lanes ∧
    (s.withCheck h (State.shortRevHead a b h)).tlm.tiles = s.tlm.tiles ∧
    (s.withCheck h (State.shortRevHead a b h)).tlm.expands = s.tlm.expands ∧
    (s.withCheck h (State.shortRevHead a b h)).tlm.setups = s.tlm.setups ∧
    (s.withCheck h (State.shortRevHead a b h)).tlm.cals = s.tlm.cals ∧
    (s.withCheck h (State.shortRevHead a b h)).tlm.grads = s.tlm.grads ∧
    (s.withCheck h (State.shortRevHead a b h)).tlm.wear = s.tlm.wear ∧
    (s.withCheck h (State.shortRevHead a b h)).tlm.route = s.tlm.route ∧
    (s.withCheck h (State.shortRevHead a b h)).tlm.reading = s.tlm.reading ∧
    (s.withCheck h (State.shortRevHead a b h)).lnk.state = s.lnk.state ∧
    (s.withCheck h (State.shortRevHead a b h)).lnk.lastSymbol = s.lnk.lastSymbol ∧
    (s.withCheck h (State.shortRevHead a b h)).lnk.reception = s.lnk.reception ∧
    (s.withCheck h (State.shortRevHead a b h)).lnk.inbound = s.lnk.inbound ∧
    (s.withCheck h (State.shortRevHead a b h)).lnk.hold = s.lnk.hold ∧
    (s.withCheck h (State.shortRevHead a b h)).lnk.draws = s.lnk.draws :=
  by unfold State.withCheck; dsimp only; split <;> simp

/-- What `State.withCheck_stopHead` leaves. -/
@[simp] theorem State.withCheck_stopHead_keeps (s : State) (h : Head) :
    (s.withCheck h (State.stopHead h)).stu = s.stu ∧ (s.withCheck h (State.stopHead h)).cfu = s.cfu ∧
    (s.withCheck h (State.stopHead h)).now = s.now ∧ (s.withCheck h (State.stopHead h)).pending = s.pending ∧
    (s.withCheck h (State.stopHead h)).pipes = s.pipes ∧ (s.withCheck h (State.stopHead h)).ports = s.ports ∧
    (s.withCheck h (State.stopHead h)).cca.lru = s.cca.lru ∧
    (s.withCheck h (State.stopHead h)).cca.samples = s.cca.samples ∧
    (s.withCheck h (State.stopHead h)).tlm.layout = s.tlm.layout ∧
    (s.withCheck h (State.stopHead h)).tlm.lanes = s.tlm.lanes ∧
    (s.withCheck h (State.stopHead h)).tlm.tiles = s.tlm.tiles ∧
    (s.withCheck h (State.stopHead h)).tlm.expands = s.tlm.expands ∧
    (s.withCheck h (State.stopHead h)).tlm.setups = s.tlm.setups ∧
    (s.withCheck h (State.stopHead h)).tlm.cals = s.tlm.cals ∧
    (s.withCheck h (State.stopHead h)).tlm.grads = s.tlm.grads ∧
    (s.withCheck h (State.stopHead h)).tlm.wear = s.tlm.wear ∧
    (s.withCheck h (State.stopHead h)).tlm.route = s.tlm.route ∧
    (s.withCheck h (State.stopHead h)).tlm.reading = s.tlm.reading ∧
    (s.withCheck h (State.stopHead h)).lnk.state = s.lnk.state ∧
    (s.withCheck h (State.stopHead h)).lnk.lastSymbol = s.lnk.lastSymbol ∧
    (s.withCheck h (State.stopHead h)).lnk.reception = s.lnk.reception ∧
    (s.withCheck h (State.stopHead h)).lnk.inbound = s.lnk.inbound ∧
    (s.withCheck h (State.stopHead h)).lnk.hold = s.lnk.hold ∧
    (s.withCheck h (State.stopHead h)).lnk.draws = s.lnk.draws :=
  by unfold State.withCheck; dsimp only; split <;> simp

/-- What `State.withCheck_haltHead` leaves. -/
@[simp] theorem State.withCheck_haltHead_keeps (s : State) (h : Head) (c : DefectCause) :
    (s.withCheck h (State.haltHead c h)).stu = s.stu ∧ (s.withCheck h (State.haltHead c h)).cfu = s.cfu ∧
    (s.withCheck h (State.haltHead c h)).now = s.now ∧
    (s.withCheck h (State.haltHead c h)).pending = s.pending ∧
    (s.withCheck h (State.haltHead c h)).ports = s.ports ∧
    (s.withCheck h (State.haltHead c h)).cca.lru = s.cca.lru ∧
    (s.withCheck h (State.haltHead c h)).cca.samples = s.cca.samples ∧
    (s.withCheck h (State.haltHead c h)).tlm.layout = s.tlm.layout ∧
    (s.withCheck h (State.haltHead c h)).tlm.lanes = s.tlm.lanes ∧
    (s.withCheck h (State.haltHead c h)).tlm.tiles = s.tlm.tiles ∧
    (s.withCheck h (State.haltHead c h)).tlm.expands = s.tlm.expands ∧
    (s.withCheck h (State.haltHead c h)).tlm.setups = s.tlm.setups ∧
    (s.withCheck h (State.haltHead c h)).tlm.cals = s.tlm.cals ∧
    (s.withCheck h (State.haltHead c h)).tlm.grads = s.tlm.grads ∧
    (s.withCheck h (State.haltHead c h)).tlm.wear = s.tlm.wear ∧
    (s.withCheck h (State.haltHead c h)).tlm.route = s.tlm.route ∧
    (s.withCheck h (State.haltHead c h)).tlm.reading = s.tlm.reading ∧
    (s.withCheck h (State.haltHead c h)).lnk.state = s.lnk.state ∧
    (s.withCheck h (State.haltHead c h)).lnk.lastSymbol = s.lnk.lastSymbol ∧
    (s.withCheck h (State.haltHead c h)).lnk.reception = s.lnk.reception ∧
    (s.withCheck h (State.haltHead c h)).lnk.inbound = s.lnk.inbound ∧
    (s.withCheck h (State.haltHead c h)).lnk.hold = s.lnk.hold ∧
    (s.withCheck h (State.haltHead c h)).lnk.draws = s.lnk.draws :=
  by unfold State.withCheck; dsimp only; split <;> simp

/-- What `State.withCheck_resumeHead` leaves. -/
@[simp] theorem State.withCheck_resumeHead_keeps (s : State) (h : Head) :
    (s.withCheck h (State.resumeHead h)).stu = s.stu ∧ (s.withCheck h (State.resumeHead h)).cfu = s.cfu ∧
    (s.withCheck h (State.resumeHead h)).now = s.now ∧
    (s.withCheck h (State.resumeHead h)).pending = s.pending ∧
    (s.withCheck h (State.resumeHead h)).cca.lru = s.cca.lru ∧
    (s.withCheck h (State.resumeHead h)).cca.samples = s.cca.samples ∧
    (s.withCheck h (State.resumeHead h)).tlm.layout = s.tlm.layout ∧
    (s.withCheck h (State.resumeHead h)).tlm.lanes = s.tlm.lanes ∧
    (s.withCheck h (State.resumeHead h)).tlm.tiles = s.tlm.tiles ∧
    (s.withCheck h (State.resumeHead h)).tlm.expands = s.tlm.expands ∧
    (s.withCheck h (State.resumeHead h)).tlm.setups = s.tlm.setups ∧
    (s.withCheck h (State.resumeHead h)).tlm.cals = s.tlm.cals ∧
    (s.withCheck h (State.resumeHead h)).tlm.grads = s.tlm.grads ∧
    (s.withCheck h (State.resumeHead h)).tlm.wear = s.tlm.wear ∧
    (s.withCheck h (State.resumeHead h)).tlm.route = s.tlm.route ∧
    (s.withCheck h (State.resumeHead h)).tlm.reading = s.tlm.reading ∧
    (s.withCheck h (State.resumeHead h)).lnk.state = s.lnk.state ∧
    (s.withCheck h (State.resumeHead h)).lnk.lastSymbol = s.lnk.lastSymbol ∧
    (s.withCheck h (State.resumeHead h)).lnk.reception = s.lnk.reception ∧
    (s.withCheck h (State.resumeHead h)).lnk.inbound = s.lnk.inbound ∧
    (s.withCheck h (State.resumeHead h)).lnk.hold = s.lnk.hold ∧
    (s.withCheck h (State.resumeHead h)).lnk.draws = s.lnk.draws :=
  by unfold State.withCheck; dsimp only; split <;> simp

/-- What `State.withCheck_tripHead` leaves. -/
@[simp] theorem State.withCheck_tripHead_keeps (s : State) (h : Head) (b : Channel) (c : TripCause) :
    (s.withCheck h (fun v => (v.tripHead h).raiseTrip h b c)).stu = s.stu ∧
    (s.withCheck h (fun v => (v.tripHead h).raiseTrip h b c)).cfu = s.cfu ∧
    (s.withCheck h (fun v => (v.tripHead h).raiseTrip h b c)).now = s.now ∧
    (s.withCheck h (fun v => (v.tripHead h).raiseTrip h b c)).pending = s.pending ∧
    (s.withCheck h (fun v => (v.tripHead h).raiseTrip h b c)).ports = s.ports ∧
    (s.withCheck h (fun v => (v.tripHead h).raiseTrip h b c)).cca.lru = s.cca.lru ∧
    (s.withCheck h (fun v => (v.tripHead h).raiseTrip h b c)).cca.samples = s.cca.samples ∧
    (s.withCheck h (fun v => (v.tripHead h).raiseTrip h b c)).tlm.layout = s.tlm.layout ∧
    (s.withCheck h (fun v => (v.tripHead h).raiseTrip h b c)).tlm.lanes = s.tlm.lanes ∧
    (s.withCheck h (fun v => (v.tripHead h).raiseTrip h b c)).tlm.tiles = s.tlm.tiles ∧
    (s.withCheck h (fun v => (v.tripHead h).raiseTrip h b c)).tlm.expands = s.tlm.expands ∧
    (s.withCheck h (fun v => (v.tripHead h).raiseTrip h b c)).tlm.setups = s.tlm.setups ∧
    (s.withCheck h (fun v => (v.tripHead h).raiseTrip h b c)).tlm.cals = s.tlm.cals ∧
    (s.withCheck h (fun v => (v.tripHead h).raiseTrip h b c)).tlm.grads = s.tlm.grads ∧
    (s.withCheck h (fun v => (v.tripHead h).raiseTrip h b c)).tlm.wear = s.tlm.wear ∧
    (s.withCheck h (fun v => (v.tripHead h).raiseTrip h b c)).tlm.route = s.tlm.route ∧
    (s.withCheck h (fun v => (v.tripHead h).raiseTrip h b c)).tlm.reading = s.tlm.reading ∧
    (s.withCheck h (fun v => (v.tripHead h).raiseTrip h b c)).lnk.state = s.lnk.state ∧
    (s.withCheck h (fun v => (v.tripHead h).raiseTrip h b c)).lnk.lastSymbol = s.lnk.lastSymbol ∧
    (s.withCheck h (fun v => (v.tripHead h).raiseTrip h b c)).lnk.reception = s.lnk.reception ∧
    (s.withCheck h (fun v => (v.tripHead h).raiseTrip h b c)).lnk.inbound = s.lnk.inbound ∧
    (s.withCheck h (fun v => (v.tripHead h).raiseTrip h b c)).lnk.hold = s.lnk.hold ∧
    (s.withCheck h (fun v => (v.tripHead h).raiseTrip h b c)).lnk.draws = s.lnk.draws :=
  by unfold State.withCheck; dsimp only; split <;> simp

/-- What `State.withCheck_setHeadState` leaves. -/
@[simp] theorem State.withCheck_setHeadState_keeps (s : State) (h : Head) (x : HeadState) :
    (s.withCheck h (fun v => v.setHeadState h x)).stu = s.stu ∧
    (s.withCheck h (fun v => v.setHeadState h x)).cfu = s.cfu ∧
    (s.withCheck h (fun v => v.setHeadState h x)).now = s.now ∧
    (s.withCheck h (fun v => v.setHeadState h x)).pending = s.pending ∧
    (s.withCheck h (fun v => v.setHeadState h x)).pipes = s.pipes ∧
    (s.withCheck h (fun v => v.setHeadState h x)).ports = s.ports ∧
    (s.withCheck h (fun v => v.setHeadState h x)).cca = s.cca ∧
    (s.withCheck h (fun v => v.setHeadState h x)).tlm.layout = s.tlm.layout ∧
    (s.withCheck h (fun v => v.setHeadState h x)).tlm.lanes = s.tlm.lanes ∧
    (s.withCheck h (fun v => v.setHeadState h x)).tlm.tiles = s.tlm.tiles ∧
    (s.withCheck h (fun v => v.setHeadState h x)).tlm.expands = s.tlm.expands ∧
    (s.withCheck h (fun v => v.setHeadState h x)).tlm.setups = s.tlm.setups ∧
    (s.withCheck h (fun v => v.setHeadState h x)).tlm.cals = s.tlm.cals ∧
    (s.withCheck h (fun v => v.setHeadState h x)).tlm.grads = s.tlm.grads ∧
    (s.withCheck h (fun v => v.setHeadState h x)).tlm.wear = s.tlm.wear ∧
    (s.withCheck h (fun v => v.setHeadState h x)).tlm.route = s.tlm.route ∧
    (s.withCheck h (fun v => v.setHeadState h x)).tlm.reading = s.tlm.reading ∧
    (s.withCheck h (fun v => v.setHeadState h x)).lnk.state = s.lnk.state ∧
    (s.withCheck h (fun v => v.setHeadState h x)).lnk.lastSymbol = s.lnk.lastSymbol ∧
    (s.withCheck h (fun v => v.setHeadState h x)).lnk.reception = s.lnk.reception ∧
    (s.withCheck h (fun v => v.setHeadState h x)).lnk.inbound = s.lnk.inbound ∧
    (s.withCheck h (fun v => v.setHeadState h x)).lnk.hold = s.lnk.hold ∧
    (s.withCheck h (fun v => v.setHeadState h x)).lnk.draws = s.lnk.draws :=
  by unfold State.withCheck; dsimp only; split <;> simp

/-- What `State.faultTaken` leaves. -/
@[simp] theorem State.faultTaken_keeps (s : State) (h : Head) :
    (s.faultTaken h).stu = s.stu ∧ (s.faultTaken h).cfu = s.cfu ∧ (s.faultTaken h).now = s.now ∧
    (s.faultTaken h).pending = s.pending ∧ (s.faultTaken h).cca.lru = s.cca.lru ∧
    (s.faultTaken h).cca.samples = s.cca.samples ∧ (s.faultTaken h).tlm.layout = s.tlm.layout ∧
    (s.faultTaken h).tlm.lanes = s.tlm.lanes ∧ (s.faultTaken h).tlm.tiles = s.tlm.tiles ∧
    (s.faultTaken h).tlm.expands = s.tlm.expands ∧ (s.faultTaken h).tlm.setups = s.tlm.setups ∧
    (s.faultTaken h).tlm.cals = s.tlm.cals ∧ (s.faultTaken h).tlm.grads = s.tlm.grads ∧
    (s.faultTaken h).tlm.wear = s.tlm.wear ∧ (s.faultTaken h).tlm.route = s.tlm.route ∧
    (s.faultTaken h).tlm.reading = s.tlm.reading ∧ (s.faultTaken h).lnk.state = s.lnk.state ∧
    (s.faultTaken h).lnk.lastSymbol = s.lnk.lastSymbol ∧ (s.faultTaken h).lnk.reception = s.lnk.reception ∧
    (s.faultTaken h).lnk.inbound = s.lnk.inbound ∧ (s.faultTaken h).lnk.hold = s.lnk.hold ∧
    (s.faultTaken h).lnk.draws = s.lnk.draws ∧ (s.faultTaken h).evr.due = s.evr.due :=
  by unfold State.faultTaken; dsimp only; split <;> simp [State.within]

/-- What `State.faultActive` leaves. -/
@[simp] theorem State.faultActive_keeps (s : State) (h : Head) (n : Nat) :
    (s.faultActive h n).stu = s.stu ∧ (s.faultActive h n).cfu = s.cfu ∧ (s.faultActive h n).now = s.now ∧
    (s.faultActive h n).pending = s.pending ∧ (s.faultActive h n).cca.lru = s.cca.lru ∧
    (s.faultActive h n).cca.samples = s.cca.samples ∧ (s.faultActive h n).tlm.layout = s.tlm.layout ∧
    (s.faultActive h n).tlm.lanes = s.tlm.lanes ∧ (s.faultActive h n).tlm.tiles = s.tlm.tiles ∧
    (s.faultActive h n).tlm.expands = s.tlm.expands ∧ (s.faultActive h n).tlm.setups = s.tlm.setups ∧
    (s.faultActive h n).tlm.cals = s.tlm.cals ∧ (s.faultActive h n).tlm.grads = s.tlm.grads ∧
    (s.faultActive h n).tlm.wear = s.tlm.wear ∧ (s.faultActive h n).tlm.route = s.tlm.route ∧
    (s.faultActive h n).tlm.reading = s.tlm.reading ∧ (s.faultActive h n).lnk.state = s.lnk.state ∧
    (s.faultActive h n).lnk.lastSymbol = s.lnk.lastSymbol ∧
    (s.faultActive h n).lnk.reception = s.lnk.reception ∧ (s.faultActive h n).lnk.inbound = s.lnk.inbound ∧
    (s.faultActive h n).lnk.hold = s.lnk.hold ∧ (s.faultActive h n).lnk.draws = s.lnk.draws ∧
    (s.faultActive h n).evr.due = s.evr.due :=
  by unfold State.faultActive; split <;> simp

end Sys2Proof.Machine
end

