-- ==== Sys2Proof/Laws/Events.lean ====
section
/-! SUPPORT. Laws/Events.lean: what the whole events of the machine leave as it was, said once for each. -/

namespace Sys2Proof.Machine

/-- What `State.crcError` leaves. -/
@[simp] theorem State.crcError_keeps (s : State) (n : Nat) (c : CrcCause) :
    (s.crcError n c).stu = s.stu ∧ (s.crcError n c).cfu = s.cfu ∧ (s.crcError n c).now = s.now ∧
    (s.crcError n c).pending = s.pending ∧ (s.crcError n c).ports = s.ports ∧
    (s.crcError n c).cca.lru = s.cca.lru ∧ (s.crcError n c).cca.samples = s.cca.samples ∧
    (s.crcError n c).tlm.layout = s.tlm.layout ∧ (s.crcError n c).tlm.lanes = s.tlm.lanes ∧
    (s.crcError n c).tlm.tiles = s.tlm.tiles ∧ (s.crcError n c).tlm.expands = s.tlm.expands ∧
    (s.crcError n c).tlm.setups = s.tlm.setups ∧ (s.crcError n c).tlm.cals = s.tlm.cals ∧
    (s.crcError n c).tlm.grads = s.tlm.grads ∧ (s.crcError n c).tlm.wear = s.tlm.wear ∧
    (s.crcError n c).tlm.route = s.tlm.route ∧ (s.crcError n c).tlm.reading = s.tlm.reading ∧
    (s.crcError n c).lnk.state = s.lnk.state ∧ (s.crcError n c).lnk.lastSymbol = s.lnk.lastSymbol ∧
    (s.crcError n c).lnk.reception = s.lnk.reception ∧ (s.crcError n c).lnk.inbound = s.lnk.inbound ∧
    (s.crcError n c).lnk.hold = s.lnk.hold ∧ (s.crcError n c).lnk.draws = s.lnk.draws ∧
    (s.crcError n c).evr.due = s.evr.due :=
  by simp [State.crcError, State.within]

/-- What `State.offer` leaves. -/
@[simp] theorem State.offer_keeps (s : State) (f : Frame) :
    (s.offer f).stu = s.stu ∧ (s.offer f).cfu = s.cfu ∧ (s.offer f).now = s.now ∧
    (s.offer f).pending = s.pending ∧ (s.offer f).ports = s.ports ∧ (s.offer f).cca.lru = s.cca.lru ∧
    (s.offer f).cca.samples = s.cca.samples ∧ (s.offer f).tlm.layout = s.tlm.layout ∧
    (s.offer f).tlm.lanes = s.tlm.lanes ∧ (s.offer f).tlm.tiles = s.tlm.tiles ∧
    (s.offer f).tlm.expands = s.tlm.expands ∧ (s.offer f).tlm.setups = s.tlm.setups ∧
    (s.offer f).tlm.cals = s.tlm.cals ∧ (s.offer f).tlm.grads = s.tlm.grads ∧
    (s.offer f).tlm.wear = s.tlm.wear ∧ (s.offer f).tlm.route = s.tlm.route ∧
    (s.offer f).tlm.reading = s.tlm.reading ∧ (s.offer f).lnk.state = s.lnk.state ∧
    (s.offer f).lnk.lastSymbol = s.lnk.lastSymbol ∧ (s.offer f).lnk.reception = s.lnk.reception ∧
    (s.offer f).lnk.draws = s.lnk.draws ∧ (s.offer f).evr.due = s.evr.due :=
  by unfold State.offer; (repeat' split) <;> simp [State.within]

/-- What `State.popInbound` leaves. -/
@[simp] theorem State.popInbound_keeps (s : State) :
    (s.popInbound).jcu = s.jcu ∧ (s.popInbound).stu = s.stu ∧ (s.popInbound).cfu = s.cfu ∧
    (s.popInbound).now = s.now ∧ (s.popInbound).pending = s.pending ∧ (s.popInbound).heads = s.heads ∧
    (s.popInbound).pipes = s.pipes ∧ (s.popInbound).ports = s.ports ∧ (s.popInbound).cca = s.cca ∧
    (s.popInbound).tlm = s.tlm ∧ (s.popInbound).lnk.state = s.lnk.state ∧
    (s.popInbound).lnk.lastSymbol = s.lnk.lastSymbol ∧ (s.popInbound).lnk.reception = s.lnk.reception ∧
    (s.popInbound).lnk.draws = s.lnk.draws ∧ (s.popInbound).evr.due = s.evr.due :=
  by simp [State.popInbound]

/-- What `State.takeUnknown` leaves. -/
@[simp] theorem State.takeUnknown_keeps (s : State) (k tag : Byte) (c : Option Byte) :
    (s.takeUnknown k tag c).jcu = s.jcu ∧ (s.takeUnknown k tag c).stu = s.stu ∧
    (s.takeUnknown k tag c).cfu = s.cfu ∧ (s.takeUnknown k tag c).now = s.now ∧
    (s.takeUnknown k tag c).pending = s.pending ∧ (s.takeUnknown k tag c).heads = s.heads ∧
    (s.takeUnknown k tag c).pipes = s.pipes ∧ (s.takeUnknown k tag c).ports = s.ports ∧
    (s.takeUnknown k tag c).cca = s.cca ∧ (s.takeUnknown k tag c).tlm = s.tlm ∧
    (s.takeUnknown k tag c).lnk.state = s.lnk.state ∧
    (s.takeUnknown k tag c).lnk.lastSymbol = s.lnk.lastSymbol ∧
    (s.takeUnknown k tag c).lnk.reception = s.lnk.reception ∧
    (s.takeUnknown k tag c).lnk.inbound = s.lnk.inbound ∧ (s.takeUnknown k tag c).lnk.hold = s.lnk.hold ∧
    (s.takeUnknown k tag c).evr.due = s.evr.due :=
  by unfold State.takeUnknown; (repeat' split) <;> simp

/-- What `State.enterUp` leaves. -/
@[simp] theorem State.enterUp_keeps (s : State) :
    (s.enterUp).stu = s.stu ∧ (s.enterUp).cfu = s.cfu ∧ (s.enterUp).now = s.now ∧
    (s.enterUp).pending = s.pending ∧ (s.enterUp).ports = s.ports ∧ (s.enterUp).cca.lru = s.cca.lru ∧
    (s.enterUp).cca.samples = s.cca.samples ∧ (s.enterUp).tlm.layout = s.tlm.layout ∧
    (s.enterUp).tlm.lanes = s.tlm.lanes ∧ (s.enterUp).tlm.tiles = s.tlm.tiles ∧
    (s.enterUp).tlm.expands = s.tlm.expands ∧ (s.enterUp).tlm.setups = s.tlm.setups ∧
    (s.enterUp).tlm.cals = s.tlm.cals ∧ (s.enterUp).tlm.grads = s.tlm.grads ∧
    (s.enterUp).tlm.wear = s.tlm.wear ∧ (s.enterUp).tlm.route = s.tlm.route ∧
    (s.enterUp).tlm.reading = s.tlm.reading ∧ (s.enterUp).lnk.lastSymbol = s.lnk.lastSymbol ∧
    (s.enterUp).lnk.reception = s.lnk.reception ∧ (s.enterUp).lnk.inbound = s.lnk.inbound ∧
    (s.enterUp).lnk.draws = s.lnk.draws ∧ (s.enterUp).evr.due = s.evr.due :=
  by simp [State.enterUp, State.within]

/-- What `State.loseLink` leaves. -/
@[simp] theorem State.loseLink_keeps (s : State) :
    (s.loseLink).stu = s.stu ∧ (s.loseLink).cfu = s.cfu ∧ (s.loseLink).now = s.now ∧
    (s.loseLink).pending = s.pending ∧ (s.loseLink).ports = s.ports ∧ (s.loseLink).cca.lru = s.cca.lru ∧
    (s.loseLink).cca.samples = s.cca.samples ∧ (s.loseLink).tlm.layout = s.tlm.layout ∧
    (s.loseLink).tlm.lanes = s.tlm.lanes ∧ (s.loseLink).tlm.tiles = s.tlm.tiles ∧
    (s.loseLink).tlm.expands = s.tlm.expands ∧ (s.loseLink).tlm.setups = s.tlm.setups ∧
    (s.loseLink).tlm.cals = s.tlm.cals ∧ (s.loseLink).tlm.grads = s.tlm.grads ∧
    (s.loseLink).tlm.wear = s.tlm.wear ∧ (s.loseLink).tlm.route = s.tlm.route ∧
    (s.loseLink).tlm.reading = s.tlm.reading ∧ (s.loseLink).lnk.lastSymbol = s.lnk.lastSymbol ∧
    (s.loseLink).lnk.inbound = s.lnk.inbound ∧ (s.loseLink).lnk.draws = s.lnk.draws ∧
    (s.loseLink).evr.due = s.evr.due :=
  by simp [State.loseLink, State.within, Link.lose]

/-- What `State.endSending` leaves. -/
@[simp] theorem State.endSending_keeps (s : State) :
    (s.endSending).jcu = s.jcu ∧ (s.endSending).stu = s.stu ∧ (s.endSending).cfu = s.cfu ∧
    (s.endSending).now = s.now ∧ (s.endSending).pending = s.pending ∧ (s.endSending).heads = s.heads ∧
    (s.endSending).pipes = s.pipes ∧ (s.endSending).ports = s.ports ∧ (s.endSending).cca = s.cca ∧
    (s.endSending).tlm = s.tlm ∧ (s.endSending).lnk.state = s.lnk.state ∧
    (s.endSending).lnk.lastSymbol = s.lnk.lastSymbol ∧ (s.endSending).lnk.reception = s.lnk.reception ∧
    (s.endSending).lnk.inbound = s.lnk.inbound ∧ (s.endSending).lnk.draws = s.lnk.draws ∧
    (s.endSending).evr.due = s.evr.due :=
  by unfold State.endSending; (repeat' split) <;> simp

/-- What `State.takeJobArm` leaves. -/
@[simp] theorem State.takeJobArm_keeps (s : State) (tag : Byte) :
    (s.takeJobArm tag).stu = s.stu ∧ (s.takeJobArm tag).cfu = s.cfu ∧ (s.takeJobArm tag).now = s.now ∧
    (s.takeJobArm tag).pending = s.pending ∧ (s.takeJobArm tag).ports = s.ports ∧
    (s.takeJobArm tag).cca.lru = s.cca.lru ∧ (s.takeJobArm tag).cca.samples = s.cca.samples ∧
    (s.takeJobArm tag).tlm.layout = s.tlm.layout ∧ (s.takeJobArm tag).tlm.lanes = s.tlm.lanes ∧
    (s.takeJobArm tag).tlm.tiles = s.tlm.tiles ∧ (s.takeJobArm tag).tlm.expands = s.tlm.expands ∧
    (s.takeJobArm tag).tlm.setups = s.tlm.setups ∧ (s.takeJobArm tag).tlm.cals = s.tlm.cals ∧
    (s.takeJobArm tag).tlm.grads = s.tlm.grads ∧ (s.takeJobArm tag).tlm.wear = s.tlm.wear ∧
    (s.takeJobArm tag).tlm.route = s.tlm.route ∧ (s.takeJobArm tag).tlm.reading = s.tlm.reading ∧
    (s.takeJobArm tag).lnk.state = s.lnk.state ∧ (s.takeJobArm tag).lnk.lastSymbol = s.lnk.lastSymbol ∧
    (s.takeJobArm tag).lnk.reception = s.lnk.reception ∧ (s.takeJobArm tag).lnk.inbound = s.lnk.inbound ∧
    (s.takeJobArm tag).lnk.hold = s.lnk.hold ∧ (s.takeJobArm tag).lnk.draws = s.lnk.draws ∧
    (s.takeJobArm tag).evr.due = s.evr.due :=
  by unfold State.takeJobArm; (repeat' split) <;> simp [State.within]

/-- What `State.takeJobStart` leaves. -/
@[simp] theorem State.takeJobStart_keeps (s : State) (tag : Byte) :
    (s.takeJobStart tag).stu = s.stu ∧ (s.takeJobStart tag).now = s.now ∧
    (s.takeJobStart tag).pending = s.pending ∧ (s.takeJobStart tag).cca.samples = s.cca.samples ∧
    (s.takeJobStart tag).tlm.layout = s.tlm.layout ∧ (s.takeJobStart tag).tlm.lanes = s.tlm.lanes ∧
    (s.takeJobStart tag).tlm.tiles = s.tlm.tiles ∧ (s.takeJobStart tag).tlm.expands = s.tlm.expands ∧
    (s.takeJobStart tag).tlm.setups = s.tlm.setups ∧ (s.takeJobStart tag).tlm.cals = s.tlm.cals ∧
    (s.takeJobStart tag).tlm.grads = s.tlm.grads ∧ (s.takeJobStart tag).tlm.wear = s.tlm.wear ∧
    (s.takeJobStart tag).tlm.route = s.tlm.route ∧ (s.takeJobStart tag).tlm.reading = s.tlm.reading ∧
    (s.takeJobStart tag).lnk.state = s.lnk.state ∧ (s.takeJobStart tag).lnk.lastSymbol = s.lnk.lastSymbol ∧
    (s.takeJobStart tag).lnk.reception = s.lnk.reception ∧ (s.takeJobStart tag).lnk.inbound = s.lnk.inbound ∧
    (s.takeJobStart tag).lnk.hold = s.lnk.hold ∧ (s.takeJobStart tag).lnk.draws = s.lnk.draws ∧
    (s.takeJobStart tag).evr.due = s.evr.due :=
  by unfold State.takeJobStart; (repeat' split) <;> simp [State.within]

/-- What `State.takeJobHalt` leaves. -/
@[simp] theorem State.takeJobHalt_keeps (s : State) (tag : Byte) :
    (s.takeJobHalt tag).stu = s.stu ∧ (s.takeJobHalt tag).cfu = s.cfu ∧ (s.takeJobHalt tag).now = s.now ∧
    (s.takeJobHalt tag).pending = s.pending ∧ (s.takeJobHalt tag).ports = s.ports ∧
    (s.takeJobHalt tag).cca.lru = s.cca.lru ∧ (s.takeJobHalt tag).cca.samples = s.cca.samples ∧
    (s.takeJobHalt tag).tlm.layout = s.tlm.layout ∧ (s.takeJobHalt tag).tlm.lanes = s.tlm.lanes ∧
    (s.takeJobHalt tag).tlm.tiles = s.tlm.tiles ∧ (s.takeJobHalt tag).tlm.expands = s.tlm.expands ∧
    (s.takeJobHalt tag).tlm.setups = s.tlm.setups ∧ (s.takeJobHalt tag).tlm.cals = s.tlm.cals ∧
    (s.takeJobHalt tag).tlm.grads = s.tlm.grads ∧ (s.takeJobHalt tag).tlm.wear = s.tlm.wear ∧
    (s.takeJobHalt tag).tlm.route = s.tlm.route ∧ (s.takeJobHalt tag).tlm.reading = s.tlm.reading ∧
    (s.takeJobHalt tag).lnk.state = s.lnk.state ∧ (s.takeJobHalt tag).lnk.lastSymbol = s.lnk.lastSymbol ∧
    (s.takeJobHalt tag).lnk.reception = s.lnk.reception ∧ (s.takeJobHalt tag).lnk.inbound = s.lnk.inbound ∧
    (s.takeJobHalt tag).lnk.hold = s.lnk.hold ∧ (s.takeJobHalt tag).lnk.draws = s.lnk.draws ∧
    (s.takeJobHalt tag).evr.due = s.evr.due :=
  by unfold State.takeJobHalt; (repeat' split) <;> simp [State.within]

/-- What `State.takeJobAbort` leaves. -/
@[simp] theorem State.takeJobAbort_keeps (s : State) (tag : Byte) :
    (s.takeJobAbort tag).stu = s.stu ∧ (s.takeJobAbort tag).cfu = s.cfu ∧ (s.takeJobAbort tag).now = s.now ∧
    (s.takeJobAbort tag).pending = s.pending ∧ (s.takeJobAbort tag).ports = s.ports ∧
    (s.takeJobAbort tag).cca.lru = s.cca.lru ∧ (s.takeJobAbort tag).cca.samples = s.cca.samples ∧
    (s.takeJobAbort tag).tlm.layout = s.tlm.layout ∧ (s.takeJobAbort tag).tlm.lanes = s.tlm.lanes ∧
    (s.takeJobAbort tag).tlm.tiles = s.tlm.tiles ∧ (s.takeJobAbort tag).tlm.expands = s.tlm.expands ∧
    (s.takeJobAbort tag).tlm.setups = s.tlm.setups ∧ (s.takeJobAbort tag).tlm.cals = s.tlm.cals ∧
    (s.takeJobAbort tag).tlm.grads = s.tlm.grads ∧ (s.takeJobAbort tag).tlm.wear = s.tlm.wear ∧
    (s.takeJobAbort tag).tlm.route = s.tlm.route ∧ (s.takeJobAbort tag).tlm.reading = s.tlm.reading ∧
    (s.takeJobAbort tag).lnk.state = s.lnk.state ∧ (s.takeJobAbort tag).lnk.lastSymbol = s.lnk.lastSymbol ∧
    (s.takeJobAbort tag).lnk.reception = s.lnk.reception ∧ (s.takeJobAbort tag).lnk.inbound = s.lnk.inbound ∧
    (s.takeJobAbort tag).lnk.hold = s.lnk.hold ∧ (s.takeJobAbort tag).lnk.draws = s.lnk.draws ∧
    (s.takeJobAbort tag).evr.due = s.evr.due :=
  by unfold State.takeJobAbort; (repeat' split) <;> simp [State.within]

/-- What `State.takeJobClear` leaves. -/
@[simp] theorem State.takeJobClear_keeps (s : State) (tag : Byte) :
    (s.takeJobClear tag).stu = s.stu ∧ (s.takeJobClear tag).cfu = s.cfu ∧ (s.takeJobClear tag).now = s.now ∧
    (s.takeJobClear tag).pending = s.pending ∧ (s.takeJobClear tag).ports = s.ports ∧
    (s.takeJobClear tag).cca.lru = s.cca.lru ∧ (s.takeJobClear tag).cca.samples = s.cca.samples ∧
    (s.takeJobClear tag).tlm.layout = s.tlm.layout ∧ (s.takeJobClear tag).tlm.lanes = s.tlm.lanes ∧
    (s.takeJobClear tag).tlm.tiles = s.tlm.tiles ∧ (s.takeJobClear tag).tlm.expands = s.tlm.expands ∧
    (s.takeJobClear tag).tlm.setups = s.tlm.setups ∧ (s.takeJobClear tag).tlm.cals = s.tlm.cals ∧
    (s.takeJobClear tag).tlm.grads = s.tlm.grads ∧ (s.takeJobClear tag).tlm.wear = s.tlm.wear ∧
    (s.takeJobClear tag).tlm.route = s.tlm.route ∧ (s.takeJobClear tag).tlm.reading = s.tlm.reading ∧
    (s.takeJobClear tag).lnk.state = s.lnk.state ∧ (s.takeJobClear tag).lnk.lastSymbol = s.lnk.lastSymbol ∧
    (s.takeJobClear tag).lnk.reception = s.lnk.reception ∧ (s.takeJobClear tag).lnk.inbound = s.lnk.inbound ∧
    (s.takeJobClear tag).lnk.hold = s.lnk.hold ∧ (s.takeJobClear tag).lnk.draws = s.lnk.draws ∧
    (s.takeJobClear tag).evr.due = s.evr.due :=
  by unfold State.takeJobClear; (repeat' split) <;> simp [State.within]

/-- What `State.raiseReset` leaves. -/
@[simp] theorem State.raiseReset_keeps (s : State) (j : JobState) :
    (s.raiseReset j).stu = s.stu ∧ (s.raiseReset j).cfu = s.cfu ∧ (s.raiseReset j).now = s.now ∧
    (s.raiseReset j).pending = s.pending ∧ (s.raiseReset j).ports = s.ports ∧
    (s.raiseReset j).cca.lru = s.cca.lru ∧ (s.raiseReset j).cca.samples = s.cca.samples ∧
    (s.raiseReset j).tlm.layout = s.tlm.layout ∧ (s.raiseReset j).tlm.lanes = s.tlm.lanes ∧
    (s.raiseReset j).tlm.tiles = s.tlm.tiles ∧ (s.raiseReset j).tlm.expands = s.tlm.expands ∧
    (s.raiseReset j).tlm.setups = s.tlm.setups ∧ (s.raiseReset j).tlm.cals = s.tlm.cals ∧
    (s.raiseReset j).tlm.grads = s.tlm.grads ∧ (s.raiseReset j).tlm.wear = s.tlm.wear ∧
    (s.raiseReset j).tlm.route = s.tlm.route ∧ (s.raiseReset j).tlm.reading = s.tlm.reading ∧
    (s.raiseReset j).lnk.state = s.lnk.state ∧ (s.raiseReset j).lnk.lastSymbol = s.lnk.lastSymbol ∧
    (s.raiseReset j).lnk.reception = s.lnk.reception ∧ (s.raiseReset j).lnk.inbound = s.lnk.inbound ∧
    (s.raiseReset j).lnk.hold = s.lnk.hold ∧ (s.raiseReset j).lnk.draws = s.lnk.draws ∧
    (s.raiseReset j).evr.due = s.evr.due :=
  by unfold State.raiseReset; (repeat' split) <;> simp [State.within]

/-- What `State.takeSoftReset` leaves. -/
@[simp] theorem State.takeSoftReset_keeps (s : State) (tag : Byte) :
    (s.takeSoftReset tag).now = s.now ∧ (s.takeSoftReset tag).pending = s.pending ∧
    (s.takeSoftReset tag).cca.samples = s.cca.samples ∧ (s.takeSoftReset tag).tlm.layout = s.tlm.layout ∧
    (s.takeSoftReset tag).tlm.lanes = s.tlm.lanes ∧ (s.takeSoftReset tag).tlm.tiles = s.tlm.tiles ∧
    (s.takeSoftReset tag).tlm.expands = s.tlm.expands ∧ (s.takeSoftReset tag).tlm.setups = s.tlm.setups ∧
    (s.takeSoftReset tag).tlm.cals = s.tlm.cals ∧ (s.takeSoftReset tag).tlm.grads = s.tlm.grads ∧
    (s.takeSoftReset tag).tlm.wear = s.tlm.wear ∧ (s.takeSoftReset tag).tlm.route = s.tlm.route ∧
    (s.takeSoftReset tag).tlm.reading = s.tlm.reading ∧ (s.takeSoftReset tag).lnk.state = s.lnk.state ∧
    (s.takeSoftReset tag).lnk.lastSymbol = s.lnk.lastSymbol ∧
    (s.takeSoftReset tag).lnk.reception = s.lnk.reception ∧ (s.takeSoftReset tag).lnk.inbound = s.lnk.inbound ∧
    (s.takeSoftReset tag).lnk.draws = s.lnk.draws :=
  by unfold State.takeSoftReset; split <;> simp [Link.emptyQueues]

/-- What `State.takeHeadStop` leaves. -/
@[simp] theorem State.takeHeadStop_keeps (s : State) (tag a : Byte) :
    (s.takeHeadStop tag a).stu = s.stu ∧ (s.takeHeadStop tag a).cfu = s.cfu ∧
    (s.takeHeadStop tag a).now = s.now ∧ (s.takeHeadStop tag a).pending = s.pending ∧
    (s.takeHeadStop tag a).ports = s.ports ∧ (s.takeHeadStop tag a).cca.lru = s.cca.lru ∧
    (s.takeHeadStop tag a).cca.samples = s.cca.samples ∧ (s.takeHeadStop tag a).tlm.layout = s.tlm.layout ∧
    (s.takeHeadStop tag a).tlm.lanes = s.tlm.lanes ∧ (s.takeHeadStop tag a).tlm.tiles = s.tlm.tiles ∧
    (s.takeHeadStop tag a).tlm.expands = s.tlm.expands ∧ (s.takeHeadStop tag a).tlm.setups = s.tlm.setups ∧
    (s.takeHeadStop tag a).tlm.cals = s.tlm.cals ∧ (s.takeHeadStop tag a).tlm.grads = s.tlm.grads ∧
    (s.takeHeadStop tag a).tlm.wear = s.tlm.wear ∧ (s.takeHeadStop tag a).tlm.route = s.tlm.route ∧
    (s.takeHeadStop tag a).tlm.reading = s.tlm.reading ∧ (s.takeHeadStop tag a).lnk.state = s.lnk.state ∧
    (s.takeHeadStop tag a).lnk.lastSymbol = s.lnk.lastSymbol ∧
    (s.takeHeadStop tag a).lnk.reception = s.lnk.reception ∧
    (s.takeHeadStop tag a).lnk.inbound = s.lnk.inbound ∧ (s.takeHeadStop tag a).lnk.hold = s.lnk.hold ∧
    (s.takeHeadStop tag a).lnk.draws = s.lnk.draws ∧ (s.takeHeadStop tag a).evr.due = s.evr.due :=
  by unfold State.takeHeadStop State.forHead; split <;> [simp; (dsimp only; split <;> simp [State.within])]

/-- What `State.takeHeadAbort` leaves. -/
@[simp] theorem State.takeHeadAbort_keeps (s : State) (tag a : Byte) :
    (s.takeHeadAbort tag a).stu = s.stu ∧ (s.takeHeadAbort tag a).cfu = s.cfu ∧
    (s.takeHeadAbort tag a).now = s.now ∧ (s.takeHeadAbort tag a).pending = s.pending ∧
    (s.takeHeadAbort tag a).ports = s.ports ∧ (s.takeHeadAbort tag a).cca.lru = s.cca.lru ∧
    (s.takeHeadAbort tag a).cca.samples = s.cca.samples ∧ (s.takeHeadAbort tag a).tlm.layout = s.tlm.layout ∧
    (s.takeHeadAbort tag a).tlm.lanes = s.tlm.lanes ∧ (s.takeHeadAbort tag a).tlm.tiles = s.tlm.tiles ∧
    (s.takeHeadAbort tag a).tlm.expands = s.tlm.expands ∧ (s.takeHeadAbort tag a).tlm.setups = s.tlm.setups ∧
    (s.takeHeadAbort tag a).tlm.cals = s.tlm.cals ∧ (s.takeHeadAbort tag a).tlm.grads = s.tlm.grads ∧
    (s.takeHeadAbort tag a).tlm.wear = s.tlm.wear ∧ (s.takeHeadAbort tag a).tlm.route = s.tlm.route ∧
    (s.takeHeadAbort tag a).tlm.reading = s.tlm.reading ∧ (s.takeHeadAbort tag a).lnk.state = s.lnk.state ∧
    (s.takeHeadAbort tag a).lnk.lastSymbol = s.lnk.lastSymbol ∧
    (s.takeHeadAbort tag a).lnk.reception = s.lnk.reception ∧
    (s.takeHeadAbort tag a).lnk.inbound = s.lnk.inbound ∧ (s.takeHeadAbort tag a).lnk.hold = s.lnk.hold ∧
    (s.takeHeadAbort tag a).lnk.draws = s.lnk.draws ∧ (s.takeHeadAbort tag a).evr.due = s.evr.due :=
  by unfold State.takeHeadAbort State.forHead; split <;> [simp; (dsimp only; split <;> simp [State.within])]

/-- What `State.takeTripClear` leaves. -/
@[simp] theorem State.takeTripClear_keeps (s : State) (tag a : Byte) :
    (s.takeTripClear tag a).stu = s.stu ∧ (s.takeTripClear tag a).cfu = s.cfu ∧
    (s.takeTripClear tag a).now = s.now ∧ (s.takeTripClear tag a).pending = s.pending ∧
    (s.takeTripClear tag a).ports = s.ports ∧ (s.takeTripClear tag a).cca.lru = s.cca.lru ∧
    (s.takeTripClear tag a).cca.samples = s.cca.samples ∧ (s.takeTripClear tag a).tlm.layout = s.tlm.layout ∧
    (s.takeTripClear tag a).tlm.lanes = s.tlm.lanes ∧ (s.takeTripClear tag a).tlm.tiles = s.tlm.tiles ∧
    (s.takeTripClear tag a).tlm.expands = s.tlm.expands ∧ (s.takeTripClear tag a).tlm.setups = s.tlm.setups ∧
    (s.takeTripClear tag a).tlm.cals = s.tlm.cals ∧ (s.takeTripClear tag a).tlm.grads = s.tlm.grads ∧
    (s.takeTripClear tag a).tlm.wear = s.tlm.wear ∧ (s.takeTripClear tag a).tlm.route = s.tlm.route ∧
    (s.takeTripClear tag a).tlm.reading = s.tlm.reading ∧ (s.takeTripClear tag a).lnk.state = s.lnk.state ∧
    (s.takeTripClear tag a).lnk.lastSymbol = s.lnk.lastSymbol ∧
    (s.takeTripClear tag a).lnk.reception = s.lnk.reception ∧
    (s.takeTripClear tag a).lnk.inbound = s.lnk.inbound ∧ (s.takeTripClear tag a).lnk.hold = s.lnk.hold ∧
    (s.takeTripClear tag a).lnk.draws = s.lnk.draws ∧ (s.takeTripClear tag a).evr.due = s.evr.due :=
  by unfold State.takeTripClear State.forHead; split <;> [simp; (dsimp only; split <;> simp [State.within])]

/-- What `State.resumeEffect` leaves. -/
@[simp] theorem State.resumeEffect_keeps (s : State) (h : Head) :
    (s.resumeEffect h).stu = s.stu ∧ (s.resumeEffect h).now = s.now ∧ (s.resumeEffect h).pending = s.pending ∧
    (s.resumeEffect h).cca.samples = s.cca.samples ∧ (s.resumeEffect h).tlm.layout = s.tlm.layout ∧
    (s.resumeEffect h).tlm.lanes = s.tlm.lanes ∧ (s.resumeEffect h).tlm.tiles = s.tlm.tiles ∧
    (s.resumeEffect h).tlm.expands = s.tlm.expands ∧ (s.resumeEffect h).tlm.setups = s.tlm.setups ∧
    (s.resumeEffect h).tlm.cals = s.tlm.cals ∧ (s.resumeEffect h).tlm.grads = s.tlm.grads ∧
    (s.resumeEffect h).tlm.wear = s.tlm.wear ∧ (s.resumeEffect h).tlm.route = s.tlm.route ∧
    (s.resumeEffect h).tlm.reading = s.tlm.reading ∧ (s.resumeEffect h).lnk.state = s.lnk.state ∧
    (s.resumeEffect h).lnk.lastSymbol = s.lnk.lastSymbol ∧ (s.resumeEffect h).lnk.reception = s.lnk.reception ∧
    (s.resumeEffect h).lnk.inbound = s.lnk.inbound ∧ (s.resumeEffect h).lnk.hold = s.lnk.hold ∧
    (s.resumeEffect h).lnk.draws = s.lnk.draws ∧ (s.resumeEffect h).evr.due = s.evr.due :=
  by unfold State.resumeEffect; (repeat' split) <;> simp [State.within]

/-- What `State.takeHeadResume` leaves. -/
@[simp] theorem State.takeHeadResume_keeps (s : State) (tag a : Byte) :
    (s.takeHeadResume tag a).stu = s.stu ∧ (s.takeHeadResume tag a).now = s.now ∧
    (s.takeHeadResume tag a).pending = s.pending ∧ (s.takeHeadResume tag a).cca.samples = s.cca.samples ∧
    (s.takeHeadResume tag a).tlm.layout = s.tlm.layout ∧ (s.takeHeadResume tag a).tlm.lanes = s.tlm.lanes ∧
    (s.takeHeadResume tag a).tlm.tiles = s.tlm.tiles ∧ (s.takeHeadResume tag a).tlm.expands = s.tlm.expands ∧
    (s.takeHeadResume tag a).tlm.setups = s.tlm.setups ∧ (s.takeHeadResume tag a).tlm.cals = s.tlm.cals ∧
    (s.takeHeadResume tag a).tlm.grads = s.tlm.grads ∧ (s.takeHeadResume tag a).tlm.wear = s.tlm.wear ∧
    (s.takeHeadResume tag a).tlm.route = s.tlm.route ∧ (s.takeHeadResume tag a).tlm.reading = s.tlm.reading ∧
    (s.takeHeadResume tag a).lnk.state = s.lnk.state ∧
    (s.takeHeadResume tag a).lnk.lastSymbol = s.lnk.lastSymbol ∧
    (s.takeHeadResume tag a).lnk.reception = s.lnk.reception ∧
    (s.takeHeadResume tag a).lnk.inbound = s.lnk.inbound ∧ (s.takeHeadResume tag a).lnk.hold = s.lnk.hold ∧
    (s.takeHeadResume tag a).lnk.draws = s.lnk.draws ∧ (s.takeHeadResume tag a).evr.due = s.evr.due :=
  by unfold State.takeHeadResume State.forHead; split <;> [simp; (dsimp only; split <;> simp)]

/-- What `State.takeCommit` leaves. -/
@[simp] theorem State.takeCommit_keeps (s : State) (tag g c : Byte) :
    (s.takeCommit tag g c).stu = s.stu ∧ (s.takeCommit tag g c).cfu = s.cfu ∧
    (s.takeCommit tag g c).now = s.now ∧ (s.takeCommit tag g c).pending = s.pending ∧
    (s.takeCommit tag g c).ports = s.ports ∧ (s.takeCommit tag g c).cca.lru = s.cca.lru ∧
    (s.takeCommit tag g c).cca.samples = s.cca.samples ∧ (s.takeCommit tag g c).tlm.layout = s.tlm.layout ∧
    (s.takeCommit tag g c).tlm.lanes = s.tlm.lanes ∧ (s.takeCommit tag g c).tlm.tiles = s.tlm.tiles ∧
    (s.takeCommit tag g c).tlm.expands = s.tlm.expands ∧ (s.takeCommit tag g c).tlm.setups = s.tlm.setups ∧
    (s.takeCommit tag g c).tlm.cals = s.tlm.cals ∧ (s.takeCommit tag g c).tlm.grads = s.tlm.grads ∧
    (s.takeCommit tag g c).tlm.wear = s.tlm.wear ∧ (s.takeCommit tag g c).tlm.route = s.tlm.route ∧
    (s.takeCommit tag g c).tlm.reading = s.tlm.reading ∧ (s.takeCommit tag g c).lnk.state = s.lnk.state ∧
    (s.takeCommit tag g c).lnk.lastSymbol = s.lnk.lastSymbol ∧
    (s.takeCommit tag g c).lnk.reception = s.lnk.reception ∧
    (s.takeCommit tag g c).lnk.inbound = s.lnk.inbound ∧ (s.takeCommit tag g c).lnk.hold = s.lnk.hold ∧
    (s.takeCommit tag g c).lnk.draws = s.lnk.draws ∧ (s.takeCommit tag g c).evr.due = s.evr.due :=
  by unfold State.takeCommit; split <;> simp [State.within]

/-- What `State.afterCache` leaves. -/
@[simp] theorem State.afterCache_keeps (s : State) :
    (s.afterCache).stu = s.stu ∧ (s.afterCache).now = s.now ∧ (s.afterCache).pending = s.pending ∧
    (s.afterCache).ports = s.ports ∧ (s.afterCache).cca.samples = s.cca.samples ∧
    (s.afterCache).tlm.layout = s.tlm.layout ∧ (s.afterCache).tlm.lanes = s.tlm.lanes ∧
    (s.afterCache).tlm.tiles = s.tlm.tiles ∧ (s.afterCache).tlm.expands = s.tlm.expands ∧
    (s.afterCache).tlm.setups = s.tlm.setups ∧ (s.afterCache).tlm.cals = s.tlm.cals ∧
    (s.afterCache).tlm.grads = s.tlm.grads ∧ (s.afterCache).tlm.wear = s.tlm.wear ∧
    (s.afterCache).tlm.route = s.tlm.route ∧ (s.afterCache).tlm.reading = s.tlm.reading ∧
    (s.afterCache).lnk.state = s.lnk.state ∧ (s.afterCache).lnk.lastSymbol = s.lnk.lastSymbol ∧
    (s.afterCache).lnk.reception = s.lnk.reception ∧ (s.afterCache).lnk.inbound = s.lnk.inbound ∧
    (s.afterCache).lnk.hold = s.lnk.hold ∧ (s.afterCache).lnk.draws = s.lnk.draws ∧
    (s.afterCache).evr.due = s.evr.due :=
  by simp [State.afterCache, State.within]

/-- What `State.lockKey` leaves. -/
@[simp] theorem State.lockKey_keeps (s : State) (k : Key) :
    ((s.lockKey k).1).jcu = s.jcu ∧ ((s.lockKey k).1).stu = s.stu ∧ ((s.lockKey k).1).cfu = s.cfu ∧
    ((s.lockKey k).1).now = s.now ∧ ((s.lockKey k).1).pending = s.pending ∧ ((s.lockKey k).1).heads = s.heads ∧
    ((s.lockKey k).1).pipes = s.pipes ∧ ((s.lockKey k).1).ports = s.ports ∧
    ((s.lockKey k).1).cca.lru = s.cca.lru ∧ ((s.lockKey k).1).cca.samples = s.cca.samples ∧
    ((s.lockKey k).1).tlm = s.tlm ∧ ((s.lockKey k).1).lnk = s.lnk ∧ ((s.lockKey k).1).evr = s.evr :=
  by unfold State.lockKey; (repeat' split) <;> simp

/-- What `State.unlockKey` leaves. -/
@[simp] theorem State.unlockKey_keeps (s : State) (k : Key) :
    ((s.unlockKey k).1).jcu = s.jcu ∧ ((s.unlockKey k).1).stu = s.stu ∧ ((s.unlockKey k).1).cfu = s.cfu ∧
    ((s.unlockKey k).1).now = s.now ∧ ((s.unlockKey k).1).pending = s.pending ∧
    ((s.unlockKey k).1).heads = s.heads ∧ ((s.unlockKey k).1).pipes = s.pipes ∧
    ((s.unlockKey k).1).ports = s.ports ∧ ((s.unlockKey k).1).cca.lru = s.cca.lru ∧
    ((s.unlockKey k).1).cca.samples = s.cca.samples ∧ ((s.unlockKey k).1).tlm = s.tlm ∧
    ((s.unlockKey k).1).lnk = s.lnk ∧ ((s.unlockKey k).1).evr = s.evr :=
  by unfold State.unlockKey; (repeat' split) <;> simp

/-- What `State.invalidateSlot` leaves. -/
@[simp] theorem State.invalidateSlot_keeps (x : State × Nat × Nat) (n : Fin 64) :
    ((State.invalidateSlot x n).1).jcu = x.1.jcu ∧ ((State.invalidateSlot x n).1).stu = x.1.stu ∧
    ((State.invalidateSlot x n).1).cfu = x.1.cfu ∧ ((State.invalidateSlot x n).1).now = x.1.now ∧
    ((State.invalidateSlot x n).1).pending = x.1.pending ∧ ((State.invalidateSlot x n).1).heads = x.1.heads ∧
    ((State.invalidateSlot x n).1).pipes = x.1.pipes ∧ ((State.invalidateSlot x n).1).ports = x.1.ports ∧
    ((State.invalidateSlot x n).1).cca.lru = x.1.cca.lru ∧
    ((State.invalidateSlot x n).1).cca.samples = x.1.cca.samples ∧
    ((State.invalidateSlot x n).1).tlm = x.1.tlm ∧ ((State.invalidateSlot x n).1).lnk = x.1.lnk ∧
    ((State.invalidateSlot x n).1).evr = x.1.evr :=
  by unfold State.invalidateSlot; (repeat' split) <;> simp

/-- Invalidating a run of slots touches the slots alone. -/
@[simp] theorem State.foldl_invalidate_keeps (ns : List (Fin 64)) : ∀ x : State × Nat × Nat,
    ((ns.foldl State.invalidateSlot x).1).jcu = x.1.jcu ∧ ((ns.foldl State.invalidateSlot x).1).stu = x.1.stu ∧
    ((ns.foldl State.invalidateSlot x).1).cfu = x.1.cfu ∧ ((ns.foldl State.invalidateSlot x).1).now = x.1.now ∧
    ((ns.foldl State.invalidateSlot x).1).pending = x.1.pending ∧
    ((ns.foldl State.invalidateSlot x).1).heads = x.1.heads ∧
    ((ns.foldl State.invalidateSlot x).1).pipes = x.1.pipes ∧
    ((ns.foldl State.invalidateSlot x).1).ports = x.1.ports ∧
    ((ns.foldl State.invalidateSlot x).1).cca.lru = x.1.cca.lru ∧
    ((ns.foldl State.invalidateSlot x).1).cca.samples = x.1.cca.samples ∧
    ((ns.foldl State.invalidateSlot x).1).tlm = x.1.tlm ∧ ((ns.foldl State.invalidateSlot x).1).lnk = x.1.lnk ∧
    ((ns.foldl State.invalidateSlot x).1).evr = x.1.evr := by
  induction ns with
  | nil => intro x; simp
  | cons n ns ih => intro x; simp [ih]

/-- What `State.invalidateKey` leaves. -/
@[simp] theorem State.invalidateKey_keeps (s : State) (k : Key) :
    ((s.invalidateKey k).1).jcu = s.jcu ∧ ((s.invalidateKey k).1).stu = s.stu ∧
    ((s.invalidateKey k).1).cfu = s.cfu ∧ ((s.invalidateKey k).1).now = s.now ∧
    ((s.invalidateKey k).1).pending = s.pending ∧ ((s.invalidateKey k).1).heads = s.heads ∧
    ((s.invalidateKey k).1).pipes = s.pipes ∧ ((s.invalidateKey k).1).ports = s.ports ∧
    ((s.invalidateKey k).1).cca.lru = s.cca.lru ∧ ((s.invalidateKey k).1).cca.samples = s.cca.samples ∧
    ((s.invalidateKey k).1).tlm = s.tlm ∧ ((s.invalidateKey k).1).lnk = s.lnk ∧
    ((s.invalidateKey k).1).evr = s.evr :=
  by unfold State.invalidateKey; (repeat' split) <;> simp

/-- What `State.invalidateAll` leaves. -/
@[simp] theorem State.invalidateAll_keeps (s : State) :
    (s.invalidateAll.1).jcu = s.jcu ∧ (s.invalidateAll.1).stu = s.stu ∧ (s.invalidateAll.1).cfu = s.cfu ∧
    (s.invalidateAll.1).now = s.now ∧ (s.invalidateAll.1).pending = s.pending ∧
    (s.invalidateAll.1).heads = s.heads ∧ (s.invalidateAll.1).pipes = s.pipes ∧
    (s.invalidateAll.1).ports = s.ports ∧ (s.invalidateAll.1).cca.lru = s.cca.lru ∧
    (s.invalidateAll.1).cca.samples = s.cca.samples ∧ (s.invalidateAll.1).tlm = s.tlm ∧
    (s.invalidateAll.1).lnk = s.lnk ∧ (s.invalidateAll.1).evr = s.evr :=
  by simp [State.invalidateAll]

/-- What `State.takeCacheLock` leaves. -/
@[simp] theorem State.takeCacheLock_keeps (s : State) (tag : Byte) (a b : Item) :
    (s.takeCacheLock tag a b).stu = s.stu ∧ (s.takeCacheLock tag a b).now = s.now ∧
    (s.takeCacheLock tag a b).pending = s.pending ∧ (s.takeCacheLock tag a b).ports = s.ports ∧
    (s.takeCacheLock tag a b).cca.samples = s.cca.samples ∧
    (s.takeCacheLock tag a b).tlm.layout = s.tlm.layout ∧ (s.takeCacheLock tag a b).tlm.lanes = s.tlm.lanes ∧
    (s.takeCacheLock tag a b).tlm.tiles = s.tlm.tiles ∧ (s.takeCacheLock tag a b).tlm.expands = s.tlm.expands ∧
    (s.takeCacheLock tag a b).tlm.setups = s.tlm.setups ∧ (s.takeCacheLock tag a b).tlm.cals = s.tlm.cals ∧
    (s.takeCacheLock tag a b).tlm.grads = s.tlm.grads ∧ (s.takeCacheLock tag a b).tlm.wear = s.tlm.wear ∧
    (s.takeCacheLock tag a b).tlm.route = s.tlm.route ∧ (s.takeCacheLock tag a b).tlm.reading = s.tlm.reading ∧
    (s.takeCacheLock tag a b).lnk.state = s.lnk.state ∧
    (s.takeCacheLock tag a b).lnk.lastSymbol = s.lnk.lastSymbol ∧
    (s.takeCacheLock tag a b).lnk.reception = s.lnk.reception ∧
    (s.takeCacheLock tag a b).lnk.inbound = s.lnk.inbound ∧ (s.takeCacheLock tag a b).lnk.hold = s.lnk.hold ∧
    (s.takeCacheLock tag a b).lnk.draws = s.lnk.draws ∧ (s.takeCacheLock tag a b).evr.due = s.evr.due :=
  by unfold State.takeCacheLock; (repeat' split) <;> simp

/-- What `State.takeCacheUnlock` leaves. -/
@[simp] theorem State.takeCacheUnlock_keeps (s : State) (tag : Byte) (a b : Item) :
    (s.takeCacheUnlock tag a b).stu = s.stu ∧ (s.takeCacheUnlock tag a b).now = s.now ∧
    (s.takeCacheUnlock tag a b).pending = s.pending ∧ (s.takeCacheUnlock tag a b).ports = s.ports ∧
    (s.takeCacheUnlock tag a b).cca.samples = s.cca.samples ∧
    (s.takeCacheUnlock tag a b).tlm.layout = s.tlm.layout ∧
    (s.takeCacheUnlock tag a b).tlm.lanes = s.tlm.lanes ∧ (s.takeCacheUnlock tag a b).tlm.tiles = s.tlm.tiles ∧
    (s.takeCacheUnlock tag a b).tlm.expands = s.tlm.expands ∧
    (s.takeCacheUnlock tag a b).tlm.setups = s.tlm.setups ∧ (s.takeCacheUnlock tag a b).tlm.cals = s.tlm.cals ∧
    (s.takeCacheUnlock tag a b).tlm.grads = s.tlm.grads ∧ (s.takeCacheUnlock tag a b).tlm.wear = s.tlm.wear ∧
    (s.takeCacheUnlock tag a b).tlm.route = s.tlm.route ∧
    (s.takeCacheUnlock tag a b).tlm.reading = s.tlm.reading ∧
    (s.takeCacheUnlock tag a b).lnk.state = s.lnk.state ∧
    (s.takeCacheUnlock tag a b).lnk.lastSymbol = s.lnk.lastSymbol ∧
    (s.takeCacheUnlock tag a b).lnk.reception = s.lnk.reception ∧
    (s.takeCacheUnlock tag a b).lnk.inbound = s.lnk.inbound ∧
    (s.takeCacheUnlock tag a b).lnk.hold = s.lnk.hold ∧ (s.takeCacheUnlock tag a b).lnk.draws = s.lnk.draws ∧
    (s.takeCacheUnlock tag a b).evr.due = s.evr.due :=
  by unfold State.takeCacheUnlock; (repeat' split) <;> simp

/-- What `State.takeInvalidateAll` leaves. -/
@[simp] theorem State.takeInvalidateAll_keeps (s : State) (tag : Byte) :
    (s.takeInvalidateAll tag).stu = s.stu ∧ (s.takeInvalidateAll tag).now = s.now ∧
    (s.takeInvalidateAll tag).pending = s.pending ∧ (s.takeInvalidateAll tag).ports = s.ports ∧
    (s.takeInvalidateAll tag).cca.samples = s.cca.samples ∧
    (s.takeInvalidateAll tag).tlm.layout = s.tlm.layout ∧ (s.takeInvalidateAll tag).tlm.lanes = s.tlm.lanes ∧
    (s.takeInvalidateAll tag).tlm.tiles = s.tlm.tiles ∧ (s.takeInvalidateAll tag).tlm.expands = s.tlm.expands ∧
    (s.takeInvalidateAll tag).tlm.setups = s.tlm.setups ∧ (s.takeInvalidateAll tag).tlm.cals = s.tlm.cals ∧
    (s.takeInvalidateAll tag).tlm.grads = s.tlm.grads ∧ (s.takeInvalidateAll tag).tlm.wear = s.tlm.wear ∧
    (s.takeInvalidateAll tag).tlm.route = s.tlm.route ∧ (s.takeInvalidateAll tag).tlm.reading = s.tlm.reading ∧
    (s.takeInvalidateAll tag).lnk.state = s.lnk.state ∧
    (s.takeInvalidateAll tag).lnk.lastSymbol = s.lnk.lastSymbol ∧
    (s.takeInvalidateAll tag).lnk.reception = s.lnk.reception ∧
    (s.takeInvalidateAll tag).lnk.inbound = s.lnk.inbound ∧ (s.takeInvalidateAll tag).lnk.hold = s.lnk.hold ∧
    (s.takeInvalidateAll tag).lnk.draws = s.lnk.draws ∧ (s.takeInvalidateAll tag).evr.due = s.evr.due :=
  by simp [State.takeInvalidateAll]

/-- What `State.takeInvalidateKey` leaves. -/
@[simp] theorem State.takeInvalidateKey_keeps (s : State) (tag f : Byte) (a b : Item) :
    (s.takeInvalidateKey tag f a b).stu = s.stu ∧ (s.takeInvalidateKey tag f a b).now = s.now ∧
    (s.takeInvalidateKey tag f a b).pending = s.pending ∧ (s.takeInvalidateKey tag f a b).ports = s.ports ∧
    (s.takeInvalidateKey tag f a b).cca.samples = s.cca.samples ∧
    (s.takeInvalidateKey tag f a b).tlm.layout = s.tlm.layout ∧
    (s.takeInvalidateKey tag f a b).tlm.lanes = s.tlm.lanes ∧
    (s.takeInvalidateKey tag f a b).tlm.tiles = s.tlm.tiles ∧
    (s.takeInvalidateKey tag f a b).tlm.expands = s.tlm.expands ∧
    (s.takeInvalidateKey tag f a b).tlm.setups = s.tlm.setups ∧
    (s.takeInvalidateKey tag f a b).tlm.cals = s.tlm.cals ∧
    (s.takeInvalidateKey tag f a b).tlm.grads = s.tlm.grads ∧
    (s.takeInvalidateKey tag f a b).tlm.wear = s.tlm.wear ∧
    (s.takeInvalidateKey tag f a b).tlm.route = s.tlm.route ∧
    (s.takeInvalidateKey tag f a b).tlm.reading = s.tlm.reading ∧
    (s.takeInvalidateKey tag f a b).lnk.state = s.lnk.state ∧
    (s.takeInvalidateKey tag f a b).lnk.lastSymbol = s.lnk.lastSymbol ∧
    (s.takeInvalidateKey tag f a b).lnk.reception = s.lnk.reception ∧
    (s.takeInvalidateKey tag f a b).lnk.inbound = s.lnk.inbound ∧
    (s.takeInvalidateKey tag f a b).lnk.hold = s.lnk.hold ∧
    (s.takeInvalidateKey tag f a b).lnk.draws = s.lnk.draws ∧
    (s.takeInvalidateKey tag f a b).evr.due = s.evr.due :=
  by unfold State.takeInvalidateKey; (repeat' split) <;> simp

/-- What `State.takeCacheQuery` leaves. -/
@[simp] theorem State.takeCacheQuery_keeps (s : State) (tag n : Byte) :
    (s.takeCacheQuery tag n).stu = s.stu ∧ (s.takeCacheQuery tag n).now = s.now ∧
    (s.takeCacheQuery tag n).pending = s.pending ∧ (s.takeCacheQuery tag n).ports = s.ports ∧
    (s.takeCacheQuery tag n).cca.samples = s.cca.samples ∧ (s.takeCacheQuery tag n).tlm.layout = s.tlm.layout ∧
    (s.takeCacheQuery tag n).tlm.lanes = s.tlm.lanes ∧ (s.takeCacheQuery tag n).tlm.tiles = s.tlm.tiles ∧
    (s.takeCacheQuery tag n).tlm.expands = s.tlm.expands ∧ (s.takeCacheQuery tag n).tlm.setups = s.tlm.setups ∧
    (s.takeCacheQuery tag n).tlm.cals = s.tlm.cals ∧ (s.takeCacheQuery tag n).tlm.grads = s.tlm.grads ∧
    (s.takeCacheQuery tag n).tlm.wear = s.tlm.wear ∧ (s.takeCacheQuery tag n).tlm.route = s.tlm.route ∧
    (s.takeCacheQuery tag n).tlm.reading = s.tlm.reading ∧ (s.takeCacheQuery tag n).lnk.state = s.lnk.state ∧
    (s.takeCacheQuery tag n).lnk.lastSymbol = s.lnk.lastSymbol ∧
    (s.takeCacheQuery tag n).lnk.reception = s.lnk.reception ∧
    (s.takeCacheQuery tag n).lnk.inbound = s.lnk.inbound ∧ (s.takeCacheQuery tag n).lnk.hold = s.lnk.hold ∧
    (s.takeCacheQuery tag n).lnk.draws = s.lnk.draws ∧ (s.takeCacheQuery tag n).evr.due = s.evr.due :=
  by unfold State.takeCacheQuery; (repeat' split) <;> simp

/-- What `State.dispatchRead` leaves. -/
@[simp] theorem State.dispatchRead_keeps (s : State) :
    (s.dispatchRead).jcu = s.jcu ∧ (s.dispatchRead).stu = s.stu ∧ (s.dispatchRead).cfu = s.cfu ∧
    (s.dispatchRead).now = s.now ∧ (s.dispatchRead).pending = s.pending ∧ (s.dispatchRead).heads = s.heads ∧
    (s.dispatchRead).pipes = s.pipes ∧ (s.dispatchRead).ports = s.ports ∧ (s.dispatchRead).cca = s.cca ∧
    (s.dispatchRead).tlm.layout = s.tlm.layout ∧ (s.dispatchRead).tlm.lanes = s.tlm.lanes ∧
    (s.dispatchRead).tlm.tiles = s.tlm.tiles ∧ (s.dispatchRead).tlm.expands = s.tlm.expands ∧
    (s.dispatchRead).tlm.setups = s.tlm.setups ∧ (s.dispatchRead).tlm.cals = s.tlm.cals ∧
    (s.dispatchRead).tlm.calsActive = s.tlm.calsActive ∧ (s.dispatchRead).tlm.grads = s.tlm.grads ∧
    (s.dispatchRead).tlm.gradsActive = s.tlm.gradsActive ∧ (s.dispatchRead).tlm.wear = s.tlm.wear ∧
    (s.dispatchRead).tlm.route = s.tlm.route ∧ (s.dispatchRead).tlm.gradPending = s.tlm.gradPending ∧
    (s.dispatchRead).tlm.calPending = s.tlm.calPending ∧ (s.dispatchRead).lnk.state = s.lnk.state ∧
    (s.dispatchRead).lnk.lastSymbol = s.lnk.lastSymbol ∧ (s.dispatchRead).lnk.reception = s.lnk.reception ∧
    (s.dispatchRead).lnk.draws = s.lnk.draws ∧ (s.dispatchRead).evr.due = s.evr.due :=
  by unfold State.dispatchRead; (repeat' split) <;> simp

/-- What `State.softReset` leaves. -/
@[simp] theorem State.softReset_keeps (s : State) (tag : Byte) :
    (s.softReset tag).now = s.now ∧ (s.softReset tag).pending = s.pending ∧
    (s.softReset tag).cca.samples = s.cca.samples ∧ (s.softReset tag).tlm.layout = s.tlm.layout ∧
    (s.softReset tag).tlm.lanes = s.tlm.lanes ∧ (s.softReset tag).tlm.tiles = s.tlm.tiles ∧
    (s.softReset tag).tlm.expands = s.tlm.expands ∧ (s.softReset tag).tlm.setups = s.tlm.setups ∧
    (s.softReset tag).tlm.cals = s.tlm.cals ∧ (s.softReset tag).tlm.grads = s.tlm.grads ∧
    (s.softReset tag).tlm.wear = s.tlm.wear ∧ (s.softReset tag).tlm.route = s.tlm.route ∧
    (s.softReset tag).lnk.state = s.lnk.state ∧ (s.softReset tag).lnk.lastSymbol = s.lnk.lastSymbol ∧
    (s.softReset tag).lnk.reception = s.lnk.reception ∧ (s.softReset tag).lnk.draws = s.lnk.draws :=
  by unfold State.softReset; (repeat' split) <;> simp

/-- What `State.takeCommand` leaves. -/
@[simp] theorem State.takeCommand_keeps (s : State) (tag code a : Byte) (b c : Item) :
    (s.takeCommand tag code a b c).now = s.now ∧ (s.takeCommand tag code a b c).pending = s.pending ∧
    (s.takeCommand tag code a b c).cca.samples = s.cca.samples ∧
    (s.takeCommand tag code a b c).tlm.layout = s.tlm.layout ∧
    (s.takeCommand tag code a b c).tlm.lanes = s.tlm.lanes ∧
    (s.takeCommand tag code a b c).tlm.tiles = s.tlm.tiles ∧
    (s.takeCommand tag code a b c).tlm.expands = s.tlm.expands ∧
    (s.takeCommand tag code a b c).tlm.setups = s.tlm.setups ∧
    (s.takeCommand tag code a b c).tlm.cals = s.tlm.cals ∧
    (s.takeCommand tag code a b c).tlm.grads = s.tlm.grads ∧
    (s.takeCommand tag code a b c).tlm.wear = s.tlm.wear ∧
    (s.takeCommand tag code a b c).tlm.route = s.tlm.route ∧
    (s.takeCommand tag code a b c).lnk.state = s.lnk.state ∧
    (s.takeCommand tag code a b c).lnk.lastSymbol = s.lnk.lastSymbol ∧
    (s.takeCommand tag code a b c).lnk.reception = s.lnk.reception ∧
    (s.takeCommand tag code a b c).lnk.draws = s.lnk.draws :=
  by unfold State.takeCommand; (repeat' split) <;> simp

/-- What `State.takeInbound` leaves. -/
@[simp] theorem State.takeInbound_keeps (s : State) (i : Inbound) :
    (s.takeInbound i).now = s.now ∧ (s.takeInbound i).pending = s.pending ∧
    (s.takeInbound i).lnk.state = s.lnk.state ∧ (s.takeInbound i).lnk.lastSymbol = s.lnk.lastSymbol ∧
    (s.takeInbound i).lnk.reception = s.lnk.reception :=
  by cases i <;> simp [State.takeInbound]

/-- What `State.measureIndex` leaves. -/
@[simp] theorem State.measureIndex_keeps (s : State) :
    (s.measureIndex).jcu = s.jcu ∧ (s.measureIndex).cfu = s.cfu ∧ (s.measureIndex).now = s.now ∧
    (s.measureIndex).pending = s.pending ∧ (s.measureIndex).heads = s.heads ∧
    (s.measureIndex).pipes = s.pipes ∧ (s.measureIndex).ports = s.ports ∧ (s.measureIndex).cca = s.cca ∧
    (s.measureIndex).tlm = s.tlm ∧ (s.measureIndex).lnk = s.lnk ∧ (s.measureIndex).evr = s.evr :=
  by simp [State.measureIndex]

/-- What `State.shortNotice` leaves. -/
@[simp] theorem State.shortNotice_keeps (s : State) (r : Revolution) :
    (s.shortNotice r).stu = s.stu ∧ (s.shortNotice r).cfu = s.cfu ∧ (s.shortNotice r).now = s.now ∧
    (s.shortNotice r).pending = s.pending ∧ (s.shortNotice r).cca.lru = s.cca.lru ∧
    (s.shortNotice r).cca.samples = s.cca.samples ∧ (s.shortNotice r).tlm.layout = s.tlm.layout ∧
    (s.shortNotice r).tlm.lanes = s.tlm.lanes ∧ (s.shortNotice r).tlm.tiles = s.tlm.tiles ∧
    (s.shortNotice r).tlm.expands = s.tlm.expands ∧ (s.shortNotice r).tlm.setups = s.tlm.setups ∧
    (s.shortNotice r).tlm.cals = s.tlm.cals ∧ (s.shortNotice r).tlm.grads = s.tlm.grads ∧
    (s.shortNotice r).tlm.wear = s.tlm.wear ∧ (s.shortNotice r).tlm.route = s.tlm.route ∧
    (s.shortNotice r).tlm.reading = s.tlm.reading ∧ (s.shortNotice r).lnk.state = s.lnk.state ∧
    (s.shortNotice r).lnk.lastSymbol = s.lnk.lastSymbol ∧ (s.shortNotice r).lnk.reception = s.lnk.reception ∧
    (s.shortNotice r).lnk.inbound = s.lnk.inbound ∧ (s.shortNotice r).lnk.hold = s.lnk.hold ∧
    (s.shortNotice r).lnk.draws = s.lnk.draws :=
  by simp [State.shortNotice, State.eachHead_eq]

/-- What `State.endRevolution` leaves. -/
@[simp] theorem State.endRevolution_keeps (s : State) :
    (s.endRevolution).stu = s.stu ∧ (s.endRevolution).cfu = s.cfu ∧ (s.endRevolution).now = s.now ∧
    (s.endRevolution).pending = s.pending ∧ (s.endRevolution).cca.lru = s.cca.lru ∧
    (s.endRevolution).cca.samples = s.cca.samples ∧ (s.endRevolution).tlm.layout = s.tlm.layout ∧
    (s.endRevolution).tlm.lanes = s.tlm.lanes ∧ (s.endRevolution).tlm.tiles = s.tlm.tiles ∧
    (s.endRevolution).tlm.expands = s.tlm.expands ∧ (s.endRevolution).tlm.setups = s.tlm.setups ∧
    (s.endRevolution).tlm.cals = s.tlm.cals ∧ (s.endRevolution).tlm.grads = s.tlm.grads ∧
    (s.endRevolution).tlm.wear = s.tlm.wear ∧ (s.endRevolution).tlm.route = s.tlm.route ∧
    (s.endRevolution).tlm.reading = s.tlm.reading ∧ (s.endRevolution).lnk.state = s.lnk.state ∧
    (s.endRevolution).lnk.lastSymbol = s.lnk.lastSymbol ∧ (s.endRevolution).lnk.reception = s.lnk.reception ∧
    (s.endRevolution).lnk.inbound = s.lnk.inbound ∧ (s.endRevolution).lnk.hold = s.lnk.hold ∧
    (s.endRevolution).lnk.draws = s.lnk.draws :=
  by unfold State.endRevolution; (repeat' split) <;> simp [State.within]

/-- What `State.passSpindle` leaves. -/
@[simp] theorem State.passSpindle_keeps (x : SpindleState) (s : State) :
    (State.passSpindle x s).stu = s.stu ∧ (State.passSpindle x s).cfu = s.cfu ∧
    (State.passSpindle x s).now = s.now ∧ (State.passSpindle x s).pending = s.pending ∧
    (State.passSpindle x s).ports = s.ports ∧ (State.passSpindle x s).cca.lru = s.cca.lru ∧
    (State.passSpindle x s).cca.samples = s.cca.samples ∧ (State.passSpindle x s).tlm.layout = s.tlm.layout ∧
    (State.passSpindle x s).tlm.lanes = s.tlm.lanes ∧ (State.passSpindle x s).tlm.tiles = s.tlm.tiles ∧
    (State.passSpindle x s).tlm.expands = s.tlm.expands ∧ (State.passSpindle x s).tlm.setups = s.tlm.setups ∧
    (State.passSpindle x s).tlm.cals = s.tlm.cals ∧ (State.passSpindle x s).tlm.grads = s.tlm.grads ∧
    (State.passSpindle x s).tlm.wear = s.tlm.wear ∧ (State.passSpindle x s).tlm.route = s.tlm.route ∧
    (State.passSpindle x s).tlm.reading = s.tlm.reading ∧ (State.passSpindle x s).lnk.state = s.lnk.state ∧
    (State.passSpindle x s).lnk.lastSymbol = s.lnk.lastSymbol ∧
    (State.passSpindle x s).lnk.reception = s.lnk.reception ∧
    (State.passSpindle x s).lnk.inbound = s.lnk.inbound ∧ (State.passSpindle x s).lnk.hold = s.lnk.hold ∧
    (State.passSpindle x s).lnk.draws = s.lnk.draws ∧ (State.passSpindle x s).evr.due = s.evr.due :=
  by unfold State.passSpindle; (repeat' split) <;> simp [State.within]

/-- What `State.raiseSpindle` leaves. -/
@[simp] theorem State.raiseSpindle_keeps (x : SpindleState) (p : Nat) (s : State) :
    (State.raiseSpindle x p s).stu = s.stu ∧ (State.raiseSpindle x p s).cfu = s.cfu ∧
    (State.raiseSpindle x p s).now = s.now ∧ (State.raiseSpindle x p s).pending = s.pending ∧
    (State.raiseSpindle x p s).ports = s.ports ∧ (State.raiseSpindle x p s).cca.lru = s.cca.lru ∧
    (State.raiseSpindle x p s).cca.samples = s.cca.samples ∧
    (State.raiseSpindle x p s).tlm.layout = s.tlm.layout ∧ (State.raiseSpindle x p s).tlm.lanes = s.tlm.lanes ∧
    (State.raiseSpindle x p s).tlm.tiles = s.tlm.tiles ∧
    (State.raiseSpindle x p s).tlm.expands = s.tlm.expands ∧
    (State.raiseSpindle x p s).tlm.setups = s.tlm.setups ∧ (State.raiseSpindle x p s).tlm.cals = s.tlm.cals ∧
    (State.raiseSpindle x p s).tlm.grads = s.tlm.grads ∧ (State.raiseSpindle x p s).tlm.wear = s.tlm.wear ∧
    (State.raiseSpindle x p s).tlm.route = s.tlm.route ∧
    (State.raiseSpindle x p s).tlm.reading = s.tlm.reading ∧
    (State.raiseSpindle x p s).lnk.state = s.lnk.state ∧
    (State.raiseSpindle x p s).lnk.lastSymbol = s.lnk.lastSymbol ∧
    (State.raiseSpindle x p s).lnk.reception = s.lnk.reception ∧
    (State.raiseSpindle x p s).lnk.inbound = s.lnk.inbound ∧ (State.raiseSpindle x p s).lnk.hold = s.lnk.hold ∧
    (State.raiseSpindle x p s).lnk.draws = s.lnk.draws ∧ (State.raiseSpindle x p s).evr.due = s.evr.due :=
  by unfold State.raiseSpindle; (repeat' split) <;> simp [State.within]

/-- What `State.serveIndex` leaves. -/
@[simp] theorem State.serveIndex_keeps (s : State) :
    (s.serveIndex).stu = s.stu ∧ (s.serveIndex).now = s.now ∧ (s.serveIndex).pending = s.pending ∧
    (s.serveIndex).cca.samples = s.cca.samples ∧ (s.serveIndex).tlm.layout = s.tlm.layout ∧
    (s.serveIndex).tlm.lanes = s.tlm.lanes ∧ (s.serveIndex).tlm.tiles = s.tlm.tiles ∧
    (s.serveIndex).tlm.expands = s.tlm.expands ∧ (s.serveIndex).tlm.setups = s.tlm.setups ∧
    (s.serveIndex).tlm.cals = s.tlm.cals ∧ (s.serveIndex).tlm.grads = s.tlm.grads ∧
    (s.serveIndex).tlm.wear = s.tlm.wear ∧ (s.serveIndex).tlm.route = s.tlm.route ∧
    (s.serveIndex).tlm.reading = s.tlm.reading ∧ (s.serveIndex).lnk.state = s.lnk.state ∧
    (s.serveIndex).lnk.lastSymbol = s.lnk.lastSymbol ∧ (s.serveIndex).lnk.reception = s.lnk.reception ∧
    (s.serveIndex).lnk.inbound = s.lnk.inbound ∧ (s.serveIndex).lnk.hold = s.lnk.hold ∧
    (s.serveIndex).lnk.draws = s.lnk.draws :=
  by simp [State.serveIndex, State.eachHead_eq, State.within]

/-- What `State.indexArrival` leaves. -/
@[simp] theorem State.indexArrival_keeps (s : State) :
    (s.indexArrival).now = s.now ∧ (s.indexArrival).pending = s.pending ∧
    (s.indexArrival).cca.samples = s.cca.samples ∧ (s.indexArrival).tlm.layout = s.tlm.layout ∧
    (s.indexArrival).tlm.lanes = s.tlm.lanes ∧ (s.indexArrival).tlm.tiles = s.tlm.tiles ∧
    (s.indexArrival).tlm.expands = s.tlm.expands ∧ (s.indexArrival).tlm.setups = s.tlm.setups ∧
    (s.indexArrival).tlm.cals = s.tlm.cals ∧ (s.indexArrival).tlm.grads = s.tlm.grads ∧
    (s.indexArrival).tlm.wear = s.tlm.wear ∧ (s.indexArrival).tlm.route = s.tlm.route ∧
    (s.indexArrival).tlm.reading = s.tlm.reading ∧ (s.indexArrival).lnk.state = s.lnk.state ∧
    (s.indexArrival).lnk.lastSymbol = s.lnk.lastSymbol ∧ (s.indexArrival).lnk.reception = s.lnk.reception ∧
    (s.indexArrival).lnk.inbound = s.lnk.inbound ∧ (s.indexArrival).lnk.hold = s.lnk.hold ∧
    (s.indexArrival).lnk.draws = s.lnk.draws ∧ (s.indexArrival).evr.due = s.evr.due :=
  by simp [State.indexArrival, State.within]

/-- What `State.indexInput` leaves. -/
@[simp] theorem State.indexInput_keeps (s : State) (a b : Nat) :
    (s.indexInput a b).now = s.now ∧ (s.indexInput a b).pending = s.pending ∧
    (s.indexInput a b).cca.samples = s.cca.samples ∧ (s.indexInput a b).tlm.layout = s.tlm.layout ∧
    (s.indexInput a b).tlm.lanes = s.tlm.lanes ∧ (s.indexInput a b).tlm.tiles = s.tlm.tiles ∧
    (s.indexInput a b).tlm.expands = s.tlm.expands ∧ (s.indexInput a b).tlm.setups = s.tlm.setups ∧
    (s.indexInput a b).tlm.cals = s.tlm.cals ∧ (s.indexInput a b).tlm.grads = s.tlm.grads ∧
    (s.indexInput a b).tlm.wear = s.tlm.wear ∧ (s.indexInput a b).tlm.route = s.tlm.route ∧
    (s.indexInput a b).tlm.reading = s.tlm.reading ∧ (s.indexInput a b).lnk.state = s.lnk.state ∧
    (s.indexInput a b).lnk.lastSymbol = s.lnk.lastSymbol ∧ (s.indexInput a b).lnk.reception = s.lnk.reception ∧
    (s.indexInput a b).lnk.inbound = s.lnk.inbound ∧ (s.indexInput a b).lnk.hold = s.lnk.hold ∧
    (s.indexInput a b).lnk.draws = s.lnk.draws ∧ (s.indexInput a b).evr.due = s.evr.due :=
  by unfold State.indexInput; (repeat' split) <;> simp

/-- What `State.indexTimeout` leaves. -/
@[simp] theorem State.indexTimeout_keeps (s : State) :
    (s.indexTimeout).cfu = s.cfu ∧ (s.indexTimeout).now = s.now ∧ (s.indexTimeout).pending = s.pending ∧
    (s.indexTimeout).ports = s.ports ∧ (s.indexTimeout).cca.lru = s.cca.lru ∧
    (s.indexTimeout).cca.samples = s.cca.samples ∧ (s.indexTimeout).tlm.layout = s.tlm.layout ∧
    (s.indexTimeout).tlm.lanes = s.tlm.lanes ∧ (s.indexTimeout).tlm.tiles = s.tlm.tiles ∧
    (s.indexTimeout).tlm.expands = s.tlm.expands ∧ (s.indexTimeout).tlm.setups = s.tlm.setups ∧
    (s.indexTimeout).tlm.cals = s.tlm.cals ∧ (s.indexTimeout).tlm.grads = s.tlm.grads ∧
    (s.indexTimeout).tlm.wear = s.tlm.wear ∧ (s.indexTimeout).tlm.route = s.tlm.route ∧
    (s.indexTimeout).tlm.reading = s.tlm.reading ∧ (s.indexTimeout).lnk.state = s.lnk.state ∧
    (s.indexTimeout).lnk.lastSymbol = s.lnk.lastSymbol ∧ (s.indexTimeout).lnk.reception = s.lnk.reception ∧
    (s.indexTimeout).lnk.inbound = s.lnk.inbound ∧ (s.indexTimeout).lnk.hold = s.lnk.hold ∧
    (s.indexTimeout).lnk.draws = s.lnk.draws ∧ (s.indexTimeout).evr.due = s.evr.due :=
  by unfold State.indexTimeout; (repeat' split) <;> simp [State.within]

/-- What `State.cellStrobe` leaves. -/
@[simp] theorem State.cellStrobe_keeps (s : State) (p : Phase) :
    (s.cellStrobe p).cfu = s.cfu ∧ (s.cellStrobe p).now = s.now ∧ (s.cellStrobe p).pending = s.pending ∧
    (s.cellStrobe p).cca.lru = s.cca.lru ∧ (s.cellStrobe p).cca.samples = s.cca.samples ∧
    (s.cellStrobe p).tlm.reading = s.tlm.reading ∧ (s.cellStrobe p).lnk.state = s.lnk.state ∧
    (s.cellStrobe p).lnk.lastSymbol = s.lnk.lastSymbol ∧ (s.cellStrobe p).lnk.reception = s.lnk.reception ∧
    (s.cellStrobe p).lnk.inbound = s.lnk.inbound ∧ (s.cellStrobe p).lnk.hold = s.lnk.hold ∧
    (s.cellStrobe p).lnk.draws = s.lnk.draws ∧ (s.cellStrobe p).evr.due = s.evr.due :=
  by unfold State.cellStrobe; split <;> simp [State.within, State.eachHead_eq]

end Sys2Proof.Machine
end

