-- ==== Sys2Proof/Laws/Link.lean ====
section
/-! SUPPORT. Laws/Link.lean: when a presented frame is taken at once, and in what state. -/

namespace Sys2Proof.Machine

/-- With the buffer empty and no pause in force, storing a frame below the high watermark starts no FLOW frame. -/
theorem State.watermarkCheck_below (s : State) (hold : s.lnk.hold = false) (h : s.occupancy < s.highMark) :
    s.watermarkCheck = s := by
  unfold State.watermarkCheck
  rw [if_neg (c := s.lnk.hold = false ∧ _) (by omega), if_neg (c := s.lnk.hold = true ∧ _) (by simp [hold])]
  simp

/-- A whole frame that has just crossed the lane in UP, and fits, is offered to the buffer. -/
theorem State.receiveWhole_up (s : State) (f : Frame) (hup : s.lnk.state = .up) (hr : s.lnk.reception = none)
    (hp : f.payload.length ≤ 1056) : s.receiveWhole f = (s.seeSymbol s.now).offer f := by
  have hc : ((s.seeSymbol s.now).cutReception) = s.seeSymbol s.now := by simp [State.cutReception, hr]
  simp [State.receiveWhole, hup, hc, State.takeWhole, Config.largestPayload, hp]

/-- A frame that is taken at once goes to its owner, in the state `State.taken`. -/
theorem State.present_of_takes (s : State) (n : Nat) (f : Frame) (take : State → State) (h : s.takes f) :
    (s.at n).present f take = take (s.taken n) := by
  obtain ⟨hh, hb, h⟩ := h
  cases hin : s.lnk.inbound with
  | nil =>
    simp only [hin] at h
    obtain ⟨hup, hr, hp, hlt⟩ := h
    have hle : f.size ≤ 1066 := by simp only [Frame.size]; omega
    have htk : s.taken n = (s.at n).seeSymbol (s.at n).now := by
      unfold State.taken; split
      · rfl
      · simp_all
    generalize hu : (s.at n).seeSymbol (s.at n).now = u at htk
    have hui : u.lnk.inbound = [] := by subst hu; simpa using hin
    have huh : u.lnk.hold = false := by subst hu; simpa using hh
    have hum : u.highMark = s.highMark := by subst hu; rfl
    have hub : u.blocked (decodeFrame f) = false := by subst hu; exact hb
    have hsays : (s.at n).headSays f = false := by simp [State.headSays, hin]
    have hfit : u.fits f = true := by simp [State.fits, State.occupancy, hui, Config.bufferBytes]; omega
    have hstore : (u.store f).watermarkCheck = u.store f :=
      State.watermarkCheck_below _ (by simpa using huh) (by
        have hz : (u.store f).occupancy = f.size := by simp [State.occupancy, hui]
        have : (u.store f).highMark = u.highMark := rfl
        omega)
    have e : ({ u.store f with lnk := { (u.store f).lnk with inbound := (u.store f).lnk.inbound.tail } } : State) = u := by
      simp only [State.store]; simp [hui]; rw [← hui]
    have hpop : (u.store f).popInbound = u := by
      unfold State.popInbound
      rw [e]
      exact State.watermarkCheck_below _ huh (by
        have : 10 ≤ f.size := by simp [Frame.size]
        have h0 : u.occupancy = 0 := by simp [State.occupancy, hui]
        omega)
    have hw : (u.store f).headWaits = false := by
      simp only [State.headWaits, State.store, hui, List.nil_append]
      exact hub
    have hs2 : (u.store f).headSays f = true := by simp [State.headSays, hui]
    have ha : (s.at n).arrive f = u.store f := by
      simp only [State.arrive, hsays, Bool.false_eq_true, if_false]
      rw [State.receiveWhole_up _ f (by simpa using hup) (by simpa using hr) hp, hu, State.offer, if_pos hfit, hstore]
    rw [htk]
    simp [State.present, ha, hs2, hw, hpop]
  | cons g rest =>
    simp only [hin] at h
    obtain ⟨hg, hlt⟩ := h
    have hsays : (s.at n).headSays f = true := by simp [State.headSays, hin, hg]
    have hw : (s.at n).headWaits = false := by
      simp only [State.headWaits, State.at_keeps, hin, hg]
      exact hb
    have htk : (s.at n).popInbound = s.taken n := by
      simp only [State.popInbound, State.taken, hin, State.at_keeps, List.tail_cons]
      by_cases hup : s.lnk.state = .up
      · exact State.watermarkCheck_below _ (by simpa using hh) (by simpa [State.occupancy, State.highMark] using hlt hup)
      · simp [State.watermarkCheck, hup]
    simp [State.present, State.arrive, hsays, hw, htk]

/-- What the part does on its own: one event of the read in progress, or the dispatch of the head frame. -/
theorem State.advance_cases (s : State) :
    (∃ r, s.tlm.reading = some r ∧ s.advance = s.readEvent r) ∨
      (s.tlm.reading = none ∧ s.advance = s.dispatchHead) := by
  unfold State.advance
  cases h : s.tlm.reading with
  | none => exact .inr ⟨rfl, rfl⟩
  | some r => exact .inl ⟨r, rfl, rfl⟩

/-- One event of a read: the read goes on with more items, or its TABLE_DATA is queued and no read is in progress. -/
theorem State.readEvent_cases (s : State) (r : Reading) :
    ((s.takeItems r).data.items.length < r.total ∧
      s.readEvent r = { s with tlm := { s.tlm with reading := some (s.takeItems r) } }) ∨
    (r.total ≤ (s.takeItems r).data.items.length ∧
      s.readEvent r = ({ s with tlm := { s.tlm with reading := none } }).queueData (s.takeItems r).data) := by
  unfold State.readEvent
  by_cases h : (s.takeItems r).data.items.length < r.total
  · exact .inl ⟨h, by simp [h]⟩
  · exact .inr ⟨by omega, by simp [h]⟩

end Sys2Proof.Machine
end

