-- ==== Sys2Proof/Laws/Samples.lean ====
section
/-! SUPPORT. Laws/Samples.lean: the sample memory: every write keeps the canonical form, reading what was written gives it back,
and a write leaves every other word. -/

namespace Sys2Proof.Machine
open Sys2Proof

/-- The canonical form as two facts about a list. -/
theorem samplesWf_iff (m : List (Nat × Item)) :
    samplesWf m = true ↔ m.Pairwise (fun p q => p.1 < q.1) ∧ ∀ p ∈ m, p.2 ≠ Config.unwrittenSample := by
  simp [samplesWf]

/-- The addresses of a write are the address written and those of the list. -/
theorem mem_sampleWrite (m : List (Nat × Item)) (a : Nat) (v : Item) :
    ∀ p ∈ sampleWrite m a v, p = (a, v) ∧ v ≠ Config.unwrittenSample ∨ p ∈ m := by
  induction m with
  | nil => intro p; unfold sampleWrite; split <;> simp_all
  | cons q m ih =>
    obtain ⟨b, w⟩ := q
    intro p hp
    unfold sampleWrite at hp
    split at hp
    · split at hp
      · exact .inr hp
      · rcases List.mem_cons.1 hp with h | h
        · exact .inl ⟨h, ‹_›⟩
        · exact .inr h
    · split at hp
      · split at hp
        · exact .inr (List.mem_cons_of_mem _ hp)
        · rcases List.mem_cons.1 hp with h | h
          · exact .inl ⟨h, ‹_›⟩
          · exact .inr (List.mem_cons_of_mem _ h)
      · rcases List.mem_cons.1 hp with h | h
        · exact .inr (by simp [h])
        · rcases ih p h with h | h
          · exact .inl h
          · exact .inr (List.mem_cons_of_mem _ h)

/-- A write keeps the canonical form. -/
theorem sampleWrite_wf (m : List (Nat × Item)) (a : Nat) (v : Item) (h : samplesWf m = true) :
    samplesWf (sampleWrite m a v) = true := by
  rw [samplesWf_iff] at h ⊢
  refine ⟨?_, fun p hp => ?_⟩
  · replace h := h.1
    induction m with
    | nil => unfold sampleWrite; split <;> simp
    | cons q m ih =>
      obtain ⟨b, w⟩ := q
      rw [List.pairwise_cons] at h
      unfold sampleWrite
      split
      · split
        · exact List.pairwise_cons.2 h
        · refine List.pairwise_cons.2 ⟨fun p hp => ?_, List.pairwise_cons.2 h⟩
          rcases List.mem_cons.1 hp with rfl | hp
          · assumption
          · have := h.1 p hp; simp_all; omega
      · split
        · split
          · exact h.2
          · subst_vars; exact List.pairwise_cons.2 ⟨h.1, h.2⟩
        · refine List.pairwise_cons.2 ⟨fun p hp => ?_, ih h.2⟩
          rcases mem_sampleWrite m a v p hp with ⟨rfl, -⟩ | hp
          · show b < a; omega
          · exact h.1 p hp
  · rcases mem_sampleWrite m a v p hp with ⟨rfl, hv⟩ | hp
    · exact hv
    · exact h.2 p hp

/-- A run of writes keeps the canonical form. -/
theorem sampleWriteAll_wf (vs : List Item) : ∀ (m : List (Nat × Item)) (a : Nat), samplesWf m = true →
    samplesWf (sampleWriteAll m a vs) = true := by
  induction vs with
  | nil => intro m a h; exact h
  | cons v vs ih => intro m a h; exact ih _ _ (sampleWrite_wf m a v h)

/-- An address below every listed one reads as unwritten. -/
theorem sampleRead_below (m : List (Nat × Item)) (a : Nat) (h : ∀ p ∈ m, a < p.1) :
    sampleRead m a = Config.unwrittenSample := by
  induction m with
  | nil => rfl
  | cons q m ih =>
    obtain ⟨b, w⟩ := q
    have : a < b := h _ (List.mem_cons_self ..)
    unfold sampleRead
    rw [if_neg (by omega)]
    exact ih fun p hp => h p (List.mem_cons_of_mem _ hp)

/-- Reading the address written gives the word written, and every other address reads as before. -/
theorem sampleRead_write (m : List (Nat × Item)) (a b : Nat) (v : Item) (h : samplesWf m = true) :
    sampleRead (sampleWrite m a v) b = if b = a then v else sampleRead m b := by
  replace h := ((samplesWf_iff m).1 h).1
  induction m with
  | nil =>
    unfold sampleWrite
    split
    · subst_vars; simp [sampleRead]
    · simp [sampleRead]
  | cons q m ih =>
    obtain ⟨c, w⟩ := q
    rw [List.pairwise_cons] at h
    have hlow : ∀ x, x ≤ c → sampleRead m x = Config.unwrittenSample := fun x hx =>
      sampleRead_below m x fun p hp => by have := h.1 p hp; simp at this; omega
    unfold sampleWrite
    split
    · split
      · split
        · subst_vars; simp only [sampleRead]; rw [if_neg (by omega)]; exact hlow _ (by omega)
        · rfl
      · simp [sampleRead]
    · split
      · rename_i hac
        subst hac
        by_cases hb : b = a
        · subst hb; split <;> simp_all [sampleRead]
        · split <;> simp [sampleRead, hb]
      · simp only [sampleRead]
        split
        · subst_vars; rw [if_neg (by omega)]
        · exact ih h.2

/-- Reading after a run of writes: the words of the run at their addresses, and every other address as before. -/
theorem sampleRead_writeAll (vs : List Item) : ∀ (m : List (Nat × Item)) (a b : Nat), samplesWf m = true →
    sampleRead (sampleWriteAll m a vs) b =
      if a ≤ b ∧ b < a + vs.length then vs.getD (b - a) 0 else sampleRead m b := by
  induction vs with
  | nil => intro m a b _; rw [if_neg (by simp)]; rfl
  | cons v vs ih =>
    intro m a b h
    unfold sampleWriteAll
    rw [ih _ _ _ (sampleWrite_wf m a v h), sampleRead_write m a b v h]
    by_cases hb : b = a
    · subst hb; rw [if_neg (by omega), if_pos rfl, if_pos (by simp)]; simp
    · by_cases hr : a + 1 ≤ b ∧ b < a + 1 + vs.length
      · rw [if_pos hr, if_pos (by simp; omega)]
        obtain ⟨k, rfl⟩ : ∃ k, b = a + 1 + k := ⟨b - (a + 1), by omega⟩
        simp [show a + 1 + k - a = k + 1 by omega]
      · rw [if_neg hr, if_neg hb, if_neg (by simp; omega)]

end Sys2Proof.Machine
end

