-- ==== Sys2Proof/Laws/Steps.lean ====
section
/-! SUPPORT. Laws/Steps.lean: what every kind of event keeps, every step keeps. -/

namespace Sys2Proof.Machine

/-- What symbols on the lane keep. -/
theorem State.train_inv {P : State → Prop} (s : State) (hsee : ∀ t n, P t → P (t.seeSymbol n))
    (hlink : ∀ t x, P t → P { t with lnk := { t.lnk with state := x } }) (h : P s) : P s.train := by
  have := hsee _ s.now h
  unfold State.train; dsimp only; split
  · exact hlink _ _ this
  · exact this
  · exact this

/-- What a start symbol in UP keeps. -/
theorem State.cutReception_inv {P : State → Prop} (s : State) (hcrc : ∀ t n c, P t → P (t.crcError n c))
    (hrec : ∀ t r, P t → P (t.setReception r)) (hsee : ∀ t n, P t → P (t.seeSymbol n)) (h : P s) :
    P ((s.seeSymbol s.now).cutReception) := by
  unfold State.cutReception; split
  · exact hsee _ _ h
  · exact hcrc _ _ _ (hrec _ _ (hsee _ _ h))

/-- What a presented frame's event keeps: what storing, dispatching and taking keep. -/
theorem State.present_inv {P : State → Prop} (s : State) (f : Frame) (take : State → State)
    (hoffer : ∀ t g, P t → P (t.offer g)) (hcrc : ∀ t n c, P t → P (t.crcError n c))
    (hrec : ∀ t r, P t → P (t.setReception r)) (hsee : ∀ t n, P t → P (t.seeSymbol n))
    (hlink : ∀ t x, P t → P { t with lnk := { t.lnk with state := x } })
    (hpop : ∀ t, P t → P t.popInbound) (htake : ∀ t, P t → P (take t))
    (h : P s) : P (s.present f take) := by
  have ha : P (s.arrive f) := by
    unfold State.arrive; split
    · exact h
    · unfold State.receiveWhole; split
      · exact State.train_inv s hsee hlink h
      · exact State.train_inv s hsee hlink h
      · have hc := State.cutReception_inv s hcrc hrec hsee h
        unfold State.takeWhole; (repeat' split)
        · exact hoffer _ _ hc
        · exact hcrc _ _ _ hc
        · exact hcrc _ _ _ hc
  unfold State.present
  dsimp only
  split
  · exact htake _ (hpop _ ha)
  · exact ha

/-- What the receiver keeps. -/
theorem State.receiveFrame_inv {P : State → Prop} (s : State) (bytes : List Byte)
    (hoffer : ∀ t g, P t → P (t.offer g)) (hcrc : ∀ t n c, P t → P (t.crcError n c))
    (hrec : ∀ t r, P t → P (t.setReception r)) (hsee : ∀ t n, P t → P (t.seeSymbol n))
    (hlink : ∀ t x, P t → P { t with lnk := { t.lnk with state := x } })
    (h : P s) : P (s.receiveFrame bytes) := by
  unfold State.receiveFrame
  split
  · exact State.train_inv s hsee hlink h
  · exact State.train_inv s hsee hlink h
  · have hc := State.cutReception_inv s hcrc hrec hsee h
    unfold State.takeReception
    split
    · exact hrec _ _ hc
    · exact hcrc _ _ _ hc
    · exact hcrc _ _ _ hc
    · exact hcrc _ _ _ hc
    · exact hoffer _ _ hc

/-- What a part of an event that may free a place keeps. -/
theorem State.freeing_inv {P : State → Prop} (s : State) (f : State → State) (hf : ∀ t, P t → P (f t))
    (hd : ∀ t, P t → P t.dispatchHead) (h : P s) : P (s.freeing f) := by
  unfold State.freeing; split
  · exact hd _ (hf _ h)
  · exact hf _ h

/-- What a dispatch keeps. -/
theorem State.dispatchHead_inv {P : State → Prop} (s : State) (hpop : ∀ t, P t → P t.popInbound)
    (hin : ∀ t i, P t → P (t.takeInbound i)) (h : P s) : P s.dispatchHead := by
  unfold State.dispatchHead; split
  · exact h
  · split
    · exact h
    · exact hin _ _ (hpop _ h)

/-- A property of states that every kind of event keeps. -/
structure State.Closed (P : State → Prop) : Prop where
  queue : ∀ s l, P s → P { s with pending := l }
  tick : ∀ s n, P s → P (s.at n)
  powerOn : ∀ s a b, P s → P (s.powerOn a b)
  offer : ∀ s f, P s → P (s.offer f)
  pop : ∀ s, P s → P s.popInbound
  inbound : ∀ s i, P s → P (s.takeInbound i)
  crc : ∀ s n c, P s → P (s.crcError n c)
  reception : ∀ s r, P s → P (s.setReception r)
  symbol : ∀ s n, P s → P (s.seeSymbol n)
  linkState : ∀ s x, P s → P { s with lnk := { s.lnk with state := x } }
  enterUp : ∀ s, P s → P s.enterUp
  loseLink : ∀ s, P s → P s.loseLink
  endSending : ∀ s, P s → P s.endSending
  read : ∀ s r, s.tlm.reading = some r → P s → P (s.readEvent r)
  expiry : ∀ s, P s → P s.fillExpiry
  levels : ∀ s l n, P s → P { s with stu := s.stu.takeLevels l n }
  index : ∀ s, P s → P s.indexArrival
  timeout : ∀ s, P s → P s.indexTimeout
  strobe : ∀ s ph, P s → P (s.cellStrobe ph)
  stepDone : ∀ s h n, P s → P (s.stepDoneActive h n)
  stepDoneRelease : ∀ s h n, P s → P (s.stepDoneInactive h n)
  fault : ∀ s h n, P s → P (s.faultActive h n)
  faultRelease : ∀ s h n, P s → P (s.faultInactive h n)

/-- A property that every kind of event keeps is kept by every step. -/
theorem State.Closed.step {P : State → Prop} (c : State.Closed P) (s t : State) (h : P s) (e : step s = .next t) : P t := by
  have hd : ∀ t, P t → P t.dispatchHead := fun t ht => State.dispatchHead_inv t c.pop c.inbound ht
  unfold Machine.step at e
  split at e
  · rename_i i rest hq
    have h0 : P { s with pending := rest } := c.queue _ _ h
    clear hq
    generalize ({ s with pending := rest } : State) = u at h0 e
    have hp : ∀ n f take, (∀ t, P t → P (take t)) → P ((u.at n).present f take) := fun n f take ht =>
      State.present_inv _ f take c.offer c.crc c.reception c.symbol c.linkState c.pop ht (c.tick _ _ h0)
    have hc : ∀ (tag code a : Byte) (b c' : Item), ∀ t, P t → P (t.takeCommand tag code a b c') :=
      fun tag code a b c' t ht => c.inbound t (.command tag code a b c') ht
    cases i
    case powerOnReset => cases e; exact c.powerOn _ _ _ (c.tick _ _ h0)
    case jobArm tag n => cases e; exact hp _ _ _ (hc tag 0x01 0 0 0)
    case jobStart tag n => cases e; exact hp _ _ _ (hc tag 0x02 0 0 0)
    case jobHalt tag n => cases e; exact hp _ _ _ (hc tag 0x03 0 0 0)
    case jobAbort tag n => cases e; exact hp _ _ _ (hc tag 0x04 0 0 0)
    case jobClear tag n => cases e; exact hp _ _ _ (hc tag 0x05 0 0 0)
    case softReset tag n => cases e; exact hp _ _ _ (hc tag 0x06 0 0 0)
    case headStop tag a n => cases e; exact hp _ _ _ (hc tag 0x10 a 0 0)
    case headAbort tag a n => cases e; exact hp _ _ _ (hc tag 0x11 a 0 0)
    case headResume tag a n => cases e; exact hp _ _ _ (hc tag 0x12 a 0 0)
    case tripClear tag a n => cases e; exact hp _ _ _ (hc tag 0x13 a 0 0)
    case commit tag g m n =>
      cases e
      refine hp _ _ _ fun t ht => ?_
      have := hc tag 0x20 g (m.setWidth 16) 0 t ht
      simpa [State.takeCommand, BitVec.setWidth_setWidth_of_le] using this
    case cacheLock tag b c' n => cases e; exact hp _ _ _ (hc tag 0x30 0 b c')
    case cacheUnlock tag b c' n => cases e; exact hp _ _ _ (hc tag 0x31 0 b c')
    case cacheInvalidateKey tag form b c' n =>
      cases e
      refine hp _ _ _ fun t ht => ?_
      by_cases hf : form = 1
      · subst hf
        have := hc tag 0x32 2 b c' t ht
        simpa [State.takeCommand, State.takeInvalidateKey] using this
      · have := hc tag 0x32 form b c' t ht
        rw [show t.takeCommand tag 0x32 form b c' = t.takeInvalidateKey tag form b c' from if_neg hf] at this
        exact this
    case cacheInvalidateAll tag n => cases e; exact hp _ _ _ (hc tag 0x32 1 0 0)
    case cacheQuery tag a n => cases e; exact hp _ _ _ (hc tag 0x33 a 0 0)
    case tableWrite tag k cp a w n => cases e; exact hp _ _ _ fun t => c.inbound t (.tableWrite tag k cp a w)
    case tileWrite tag cp a w n => cases e; exact hp _ _ _ fun t => c.inbound t (.tableWrite tag 0x03 cp a w)
    case wearWrite tag cp a w n => cases e; exact hp _ _ _ fun t => c.inbound t (.tableWrite tag 0x0A cp a w)
    case routeWrite tag cp a w n => cases e; exact hp _ _ _ fun t => c.inbound t (.tableWrite tag 0x0B cp a w)
    case tableRead tag k cp a w n => cases e; exact hp _ _ _ fun t => c.inbound t (.tableRead tag k cp a w)
    case columnData sg n => cases e; exact hp _ _ _ fun t => c.inbound t (.segment sg)
    case fillExpiry n => cases e; exact c.expiry _ (c.tick _ _ h0)
    case unknownFrame f n => cases e; exact hp _ _ _ fun t => c.inbound t _
    case malformedFrame f n => cases e; exact hp _ _ _ fun t => c.inbound t _
    case frameReceived bs n =>
      cases e
      exact State.receiveFrame_inv _ _ c.offer c.crc c.reception c.symbol c.linkState (c.tick _ _ h0)
    case linkTraining n =>
      cases e
      exact State.train_inv _ c.symbol c.linkState (c.tick _ n h0)
    case framingAcquired n =>
      cases e
      have := c.tick _ n h0
      unfold State.acquireFraming; split
      · exact State.freeing_inv _ _ c.enterUp hd this
      · exact this
      · exact this
    case linkLoss l n =>
      cases e
      have := c.symbol _ (min l (u.at n).now) (c.tick _ n h0)
      unfold State.linkLoss; dsimp only; split
      · split
        · exact this
        · exact c.linkState _ _ this
        · exact State.freeing_inv _ _ c.loseLink hd this
      · exact this
    case transmissionEnd n =>
      cases e
      have := c.tick _ n h0
      unfold State.endTransmission; split
      · exact State.freeing_inv _ _ c.endSending hd this
      · exact this
    case index l n =>
      cases e
      have := c.levels _ l.low l.held (c.tick _ n h0)
      unfold State.indexInput; dsimp only; split
      · exact c.index _ this
      · exact this
    case indexTimeout n => cases e; exact c.timeout _ (c.tick _ _ h0)
    case cellStrobe p n => cases e; exact c.strobe _ _ (c.tick _ _ h0)
    case stepDone a k n => cases e; exact c.stepDone _ _ _ (c.tick _ _ h0)
    case faultEdge a k n => cases e; exact c.fault _ _ _ (c.tick _ _ h0)
    case faultRelease a k n => cases e; exact c.faultRelease _ _ _ (c.tick _ _ h0)
    case stepDoneRelease a k n => cases e; exact c.stepDoneRelease _ _ _ (c.tick _ _ h0)
  · cases e
    unfold State.advance; split
    · exact c.read _ _ ‹_› h
    · exact hd _ h

end Sys2Proof.Machine
end

