-- ==== Sys2Proof/Tests/Slice0.lean ====
section
/-! SUPPORT. Tests/Slice0.lean: the well-formedness smoke tests, the manual's worked examples and tables, one small test of
each command that those do not cover, and a witness for every claim that has hypotheses.
Every expected value is the manual's; the table or section is named at each test. -/

namespace Sys2Proof.Tests

open Sys2Proof.Machine

set_option Elab.async false

/-! ## What is not well formed -/

theorem test_wellformed_key_form_is_not_all : (Instr.cacheInvalidateKey 0 1 0 0 0).wellFormed = false := by decide
theorem test_wellformed_write_has_no_own_row : (Instr.tableWrite 0 0x03 0 0 [1] 0).wellFormed = false ∧
    (Instr.tableWrite 0 0x0A 0 0 [1] 0).wellFormed = false ∧ (Instr.tableWrite 0 0x0B 0 0 [1] 0).wellFormed = false := by
  decide
theorem test_wellformed_write_fits_frame :
    (Instr.tableWrite 0 8 0 0 (List.replicate 524 0) 0).wellFormed = true ∧
    (Instr.tableWrite 0 8 0 0 (List.replicate 525 0) 0).wellFormed = false := by decide +kernel
theorem test_wellformed_own_rows_fit_frame :
    (Instr.tileWrite 0 0 0 (List.replicate 525 0) 0).wellFormed = false ∧
    (Instr.wearWrite 0 0 0 (List.replicate 525 0) 0).wellFormed = false ∧
    (Instr.routeWrite 0 0 0 (List.replicate 525 0) 0).wellFormed = false := by decide +kernel
theorem test_wellformed_segment_fits_frame :
    (Instr.columnData ⟨1, false, 0, 0, 0, List.replicate 513 0⟩ 0).wellFormed = false ∧
    (Instr.columnData ⟨1, false, 0, 0, 0, List.replicate 512 0⟩ 0).wellFormed = true := by decide +kernel
theorem test_wellformed_unknown_frame_is_unknown :
    (Instr.unknownFrame ⟨0x04, 0, 0, 0, [1, 0, 0, 0, 0, 0]⟩ 0).wellFormed = false ∧
    (Instr.unknownFrame ⟨0x05, 0, 0, 0, List.replicate 1057 0⟩ 0).wellFormed = false ∧
    (Instr.unknownFrame ⟨0x05, 0, 0, 0, []⟩ 0).wellFormed = true := by decide +kernel
theorem test_wellformed_malformed_frame_is_malformed :
    (Instr.malformedFrame ⟨0x04, 0, 0, 0, [1, 0, 0, 0, 0, 0]⟩ 0).wellFormed = false ∧
    (Instr.malformedFrame ⟨0x05, 1, 0, 0, []⟩ 0).wellFormed = false ∧
    (Instr.malformedFrame ⟨0x04, 1, 0, 0, List.replicate 1057 0⟩ 0).wellFormed = false ∧
    (Instr.malformedFrame ⟨0x04, 1, 0, 0, [1, 0, 0, 0, 0, 0]⟩ 0).wellFormed = true := by decide +kernel

/-! ## The layout of section 1.10 -/

/-- LANE 0 of Table 1.6. -/
def workedLane : Items := [1, 5, 40, 2, 520, 2, 3, 1900, 2, 250, 0]
/-- TILE 5 of Table 1.6, with the depth fields of section 2.15. -/
def workedTile : Items := [1, 250, 900, 8, 0, 2, 0, 0]
/-- LANE 1 of Table 1.10 with a first track and a drop offset. -/
def secondLane (first drop : Item) : Items := [1, 9, first, 1, 40, 1, 1, 600, 2, drop, 0]

/-- The tables of section 1.10, with stagger on and lookahead 2 (section 6.10). -/
def workedTables : Tables :=
  { Tables.reset with
    layout := [6000, 1200, 120, 1, 0, 2, 8, 26816, 1144, 10, 50, 24576, 8192]
    lanes := Tables.reset.lanes.set 0 workedLane
    tiles := (Tables.reset.tiles.set 5 workedTile).set 9 [1, 40, 300, 8, 0, 0, 0, 0]
    setups := Vector.ofFn fun h => [1, BitVec.ofNat 16 (150 * h.val), BitVec.ofNat 16 (150 * h.val + 149), 0, 0] }

/-- The frame in transmission that keeps the lane busy. -/
def busyLane : Sending := ⟨.columnRequest ⟨1, 5, 22, 900⟩, false⟩

/-- The part after reset with its link UP and its upstream lane busy. -/
def part : State := { State.reset with lnk := { Link.reset with state := .up, sending := some busyLane } }

/-- The same with those tables. -/
def worked : State := { part with tlm := workedTables }

/-- The same with LANE 1 added. -/
def twoLanes (first drop : Item) : State :=
  { worked with tlm := { workedTables with lanes := workedTables.lanes.set 1 (secondLane first drop) } }

/-- Section 1.10, Validation, and Table 1.11. -/
theorem test_arm_checks_of_worked_layouts :
    worked.armFailure = none ∧ (twoLanes 1060 5500).armFailure = some (.laneOverlap, 1) ∧
    (twoLanes 1100 5500).armFailure = some (.window, 1) ∧ (twoLanes 1100 5000).armFailure = none := by decide +kernel

/-- Table 1.7. -/
theorem test_track_side_results :
    [39, 40, 539, 545, 604, 605, 1079, 1080].map worked.trackBody =
      [.margin 0, .image ⟨5, 0⟩ none, .image ⟨5, 249⟩ none, .margin 0, .image ⟨5, 22⟩ none, .image ⟨5, 22⟩ none,
       .margin 0, .margin 0] := by decide +kernel

/-- Table 1.8. -/
theorem test_cell_side_results :
    [100, 249, 250, 2049, 2100, 4321, 5849, 5860].map (aroundContent workedLane workedTile 6000) =
      [.tone 0, .tone 0, .sample 0, .sample 899, .tone 0, .sample 135, .sample 899, .tone 0] := by decide

/-- The sets of sections 1.10, 3.11 and 4.10. -/
theorem test_sets_of_keys : [(⟨5, 22⟩ : Key), ⟨5, 54⟩, ⟨9, 26⟩, ⟨9, 0⟩].map keySet = [25, 25, 25, 31] := by decide

/-! ## The depth computation of chapter 2 -/

/-- Table 2.2, w = 8. -/
theorem test_expansion_of_width_8 :
    [0, 1, 64, 128, 183, 255].map (expand 8 0 Tables.expandReset) = [0, 4, 256, 512, 732, 1020] ∧
    [0, 1, 64, 128, 183, 255].map (expand 8 1 Tables.expandReset) = [0, 7, 259, 515, 735, 1023] ∧
    [0, 1, 64, 128, 183, 255].map (expand 8 2 Tables.expandReset) = [0, 4, 257, 514, 734, 1023] ∧
    [0, 1, 64, 128, 183, 255].map (expand 8 3 Tables.expandReset) = [0, 4, 256, 512, 732, 1020] := by decide +kernel

/-- Table 2.2, w = 6 and w = 10. -/
theorem test_expansion_of_widths_6_and_10 :
    [0, 1, 32, 63].map (expand 6 0 Tables.expandReset) = [0, 16, 512, 1008] ∧
    [0, 1, 32, 63].map (expand 6 1 Tables.expandReset) = [0, 31, 527, 1023] ∧
    [0, 1, 32, 63].map (expand 6 2 Tables.expandReset) = [0, 16, 520, 1023] ∧
    [0, 1, 32, 63].map (expand 6 3 Tables.expandReset) = [0, 4, 128, 252] ∧
    [0, 1, 2, 3].map (fun m => expand 10 m Tables.expandReset 777) = [777, 777, 777, 777] := by decide +kernel

/-- Table 2.5: the active calibration of head 4. -/
def workedCal : Items := [4, 12, 120, 4506, -180, 200, 3900, 40, 34464, 1, 3, 60]

/-- Table 2.5: the knots used; the others are 0 here. -/
def workedGrad : Items :=
  (((((((List.replicate 257 0).set 3 30).set 183 2347).set 184 2360).set 190 2440).set 191 2454).set 255 4000).set 256 4060

/-- What becomes of a sample word under Table 2.5 with wear term 36: its tone, its depth and its cell. -/
def workedDepth (word : Item) : Nat × Nat × CellResult :=
  let t := sampleTone workedTile Tables.expandReset word
  let d := depthOfTone workedCal workedGrad t
  (t, d, cellOfDepth workedCal 36 d false)

/-- Table 2.7 and the wear term of section 2.15. -/
theorem test_worked_depths :
    wearTermOf workedCal 1250000 = 36 ∧
    workedDepth 183 = (734, 2354, .engraved 2446 none) ∧ workedDepth 190 = (762, 2447, .engraved 2548 none) ∧
    workedDepth 255 = (1023, 4045, .engraved 3900 (some true)) ∧
    workedDepth 3 = (12, 120, .engraved 200 (some false)) ∧ workedDepth 2 = (8, 0, .noCell) := by decide +kernel

/-- Table 2.4, rows 1, 2, 3 and 14. -/
theorem test_limit_cases :
    cellOfDepth [0, 0, 0, 4096, -2048, 0, 4095, 0, 1, 0, 0, 0] 0 1 false = .engraved 0 (some false) ∧
    cellOfDepth [0, 0, 0, 0, 300, 0, 4095, 0, 1, 0, 0, 0] 20 4095 false = .engraved 320 none ∧
    cellOfDepth [0, 0, 0, 0, -50, 7, 4095, 0, 1, 0, 0, 0] 0 9 false = .engraved 7 (some false) ∧
    wearTermOf [0, 0, 0, 0, 0, 0, 0, 0, 1, 0, 63, 1023] 4294967295 = 1023 := by decide +kernel

/-- Table 2.4, last two margin rows: a margin tone 0 is not cut by cut tone 0; its cells are engraved at the depth of G[0] = 40
and are no-cells with G[0] = 0. -/
theorem test_margin_tone_at_cut :
    let w (g0 : Item) : State :=
      { worked with tlm := { workedTables with gradsActive := Vector.replicate 8 (Tables.gradReset.set 0 g0) } }
    let margin : TrackRecord := { track := 604, body := .margin 0, active := true, suppressed := false }
    (w 40).computeCell 4 margin 0 = .engraved 40 none ∧ (w 0).computeCell 4 margin 0 = .noCell := by decide +kernel

/-- Section 12.6: the engraved cell of section 2.15 on phase B, and the rest words on both phases. -/
theorem test_cell_words :
    cellWord 2446 true .b false = 0x398E ∧ cellWord 40 false .a false = 0x0028 ∧ cellWord 40 false .b false = 0x2028 := by
  decide

/-! ## Spindle timing of chapter 5 -/

/-- A strobed revolution of Table 5.4, before its cell `c` on both phases. -/
def revolutionAt (c : Nat) : Revolution := { tIdx := 0, period := 75000000, cells := 6000, posA := c, posB := c }

/-- Table 5.4. -/
theorem test_strobe_times :
    [0, 1, 250, 4321, 5879, 5880, 5999].map ((revolutionAt 0).due .a) =
      [0, 12500, 3125000, 54012500, 73487500, 73500000, 74987500] ∧
    [0, 1, 250, 4321, 5879, 5880, 5999].map ((revolutionAt 0).due .b) =
      [6250, 18750, 3131250, 54018750, 73493750, 73506250, 74993750] := by decide +kernel

/-- Section 5.8, index 7: due times where P_avg is no multiple of 2 × C. -/
theorem test_strobe_times_round_down :
    [5993, 5994].map ({ revolutionAt 0 with period := 74995000 }.due .a) = [74907505, 74920005] ∧
    [5993, 5994].map ({ revolutionAt 0 with period := 74995000 }.due .b) = [74913755, 74926254] := by decide +kernel

/-- A spindle that has measured the given periods of Table 5.5 and whose last index fell at tick 0. -/
def spinning (x : SpindleState) (a b c d : Option Nat) (valid : Nat) (ptr : Fin 4) (run : Nat) : Spindle :=
  { state := x, ring := #v[a, b, c, d], writePtr := ptr, valid, tPrev := some 0, run, pAvg := 0, rev := none, index := false,
    indexPin := false }

/-- The worked part with a spindle. -/
def turning (u : Spindle) : State := { worked with stu := u }

/-- The state that a command leaves. -/
def after (c : Instr) (s : State) : State :=
  match exec c s with | .next t => t | .fault _ => s | .refused _ => s

/-- Table 5.5, indexes 5 and 8. -/
theorem test_index_locks_and_leaves_lock :
    ((after (.index ⟨4, 4⟩ 75000000)
      (turning (spinning .measuring (some 74500000) (some 75100000) (some 74900000) none 3 3 0))).stu.state = .locked ∧
    (after (.index ⟨4, 4⟩ 75000000)
      (turning (spinning .measuring (some 74500000) (some 75100000) (some 74900000) none 3 3 0))).stu.pAvg = 74875000) ∧
    (after (.index ⟨4, 4⟩ 76000000)
      (turning (spinning .locked (some 74980000) (some 74920000) (some 74900000) (some 75000000) 4 2 0))).stu.state =
      .offSpeed ∧
    (after (.index ⟨4, 4⟩ 76000000)
      (turning (spinning .locked (some 74980000) (some 74920000) (some 74900000) (some 75000000) 4 2 0))).stu.pAvg =
      75225000 := by decide +kernel

/-- Table 5.5, index 12: LOCKED again at the fourth period in tolerance; index 1: a period out of tolerance. -/
theorem test_index_returns_to_lock :
    (after (.index ⟨4, 4⟩ 75000000)
      (turning (spinning .offSpeed (some 75000000) (some 75000000) (some 76000000) (some 75000000) 4 2 3))).stu.state =
      .locked ∧
    (after (.index ⟨4, 4⟩ 60000000) (turning (spinning .measuring none none none none 0 0 0))).stu.valid = 0 := by
  decide +kernel

/-! ## Frames of chapter 12 -/

/-- R183: the CRC of the nine bytes 0x31 to 0x39. -/
theorem test_crc_check_value : crc32 [0x31, 0x32, 0x33, 0x34, 0x35, 0x36, 0x37, 0x38, 0x39] = 0xCBF43926#32 := by
  decide +kernel

/-- Section 12.7: the DRIVE_SATURATED report. -/
theorem test_report_frame :
    let f : UpFrame := .report { kind := .driveSaturated, level := 3, count := 2, mask := headMark 4,
                                 detail := saturatedDetail 605 4650 true }
    f.kind = 0x85 ∧ f.payload = [0x11, 0x03, 0x02, 0x10, 0x5D, 0x02, 0x2A, 0x92] ∧
    (Sending.bytes ⟨f, true⟩).take 6 = [0x85, 0x01, 0x00, 0x08, 0x00, 0x00] ∧ (Sending.bytes ⟨f, false⟩).length = 18 := by
  decide +kernel

/-! ## States of the worked sequences -/

/-- A job in a state. -/
def inJob (j : JobState) (s : State) : State := { s with jcu := { state := j, validation := .accepted } }

/-- A head channel in a state. -/
def headIn (x : HeadState) : Channel := { Channel.reset with state := x }

/-- A record of an image track with key (5, 22) in slot 50. -/
def imageRecord (track : Nat) (active : Bool) : TrackRecord :=
  { track, body := .image ⟨5, 22⟩ (some 50), active, suppressed := false }

/-- Slot 50 RESIDENT with key (5, 22) and a number of pins. -/
def column22 (pins : Nat) : Slot := { state := .resident, key := some ⟨5, 22⟩, lock := false, pins, fill := 900 }

/-- A cache with one slot as given and every other slot EMPTY. -/
def oneSlot (n : Fin 64) (sl : Slot) : Cache := { Cache.reset with slots := Cache.reset.slots.set n sl }

/-- A LOCKED spindle whose last index fell at tick 0, with the strobed revolution before its cell `c`. -/
def lockedSpindle (c : Nat) : Spindle :=
  { spinning .locked (some 75000000) (some 75000000) (some 75000000) (some 75000000) 4 0 0 with
    pAvg := 75000000, rev := some (revolutionAt c) }

/-- The worked part in a RUNNING job on a LOCKED spindle, all cells up to `c` strobed, with head 4 as given and its column
RESIDENT. -/
def live (c : Nat) (x : Channel) : State :=
  inJob .running { worked with stu := lockedSpindle c, cca := oneSlot 50 (column22 2), heads := State.reset.heads.set 4 x }

/-- Head 4 engraving tracks 604 and 605 (sections 2.15 and 6.10). -/
def engraving604 : Channel :=
  { headIn .engraving with nextTrack := 604, queue := [imageRecord 604 true, imageRecord 605 false] }

/-- Head 4 waiting for track 604. -/
def waiting604 : Channel :=
  { headIn .waiting with nextTrack := 604, queue := [imageRecord 604 false, imageRecord 605 false] }

/-- The reply last queued. -/
def lastReply (s : State) : Option Result := (s.lnk.replyQueue.getLast?).map CommandReply.result

/-- A frame of `n` payload bytes of no downstream kind. -/
def anyFrame (n : Nat) : Frame := { kind := 0x05, flags := 0, tag := 0, zero := 0, payload := List.replicate n 0 }

/-- The part after reset with its link UP and the given stored frames. -/
def linkUp (frames : List Frame) : State :=
  { State.reset with lnk := { Link.reset with state := .up, inbound := frames } }

/-- A reply and a TABLE_DATA frame to fill queues with. -/
def someReply : CommandReply := commandReply 0 0x01 .state
def someData : TableData := { tag := 0, result := .accepted, kind := 1, copy := 0, start := 0, items := [] }

/-! ## One step of each command -/

/-- Table 8.3, step 1. -/
theorem test_jobArm : lastReply (after (.jobArm 1 0) worked) = some .accepted ∧
    (after (.jobArm 1 0) worked).jcu.state = .ready ∧
    (after (.jobArm 1 0) worked).heads.toList.map Channel.nextTrack = [0, 150, 300, 450, 600, 750, 900, 1050] := by
  decide +kernel

/-- Table 8.3, step 2: the spindle is not LOCKED; and Table 6.5, step 1. -/
theorem test_jobStart : lastReply (after (.jobStart 1 0) (inJob .ready worked)) = some .spindle ∧
    (let t := after (.jobStart 1 0) (inJob .ready { worked with
      stu := lockedSpindle 0, heads := Vector.replicate 8 { headIn .ready with nextTrack := 600 } })
     t.jcu.state = .running ∧ (t.heads.toList.map Channel.state).all (· == .waiting) = true) := by decide +kernel

/-- Table 8.3, step 10. -/
theorem test_jobHalt : (after (.jobHalt 1 0) (live 0 engraving604)).jcu.state = .halting ∧
    (after (.jobHalt 1 0) (live 0 engraving604)).heads[4].state = .stopping := by decide +kernel

/-- Table 9.2, step 6: the track ends ABORTED, its step owed and not raised. -/
theorem test_jobAbort : (after (.jobAbort 1 0) (live 0 engraving604)).jcu.state = .halted ∧
    (after (.jobAbort 1 0) (live 0 engraving604)).heads[4].defects = [⟨604, .aborted⟩] ∧
    (after (.jobAbort 1 0) (live 0 engraving604)).ports[4].step = false := by decide +kernel

/-- Table 8.3, step 12: all IDLE, queues emptied, pins released. -/
theorem test_jobClear : let t := after (.jobClear 1 0) (inJob .halted (live 0 engraving604))
    t.jcu.state = .idle ∧ t.heads[4].state = .idle ∧ t.heads[4].queue = [] ∧ t.cca.slots[50].pins = 0 := by decide +kernel

/-- Section 8.11, last paragraph: SOFT_RESET is refused in RUNNING and taken in HALTED. -/
theorem test_softReset : lastReply (after (.softReset 1 0) (live 0 engraving604)) = some .state ∧
    (let t := after (.softReset 1 0) (inJob .halted (live 0 engraving604))
     lastReply t = some .accepted ∧ t.stu.state = .noSignal ∧ t.cca.slots[50] = Slot.empty ∧
       t.tlm.layout = workedTables.layout) := by decide +kernel

/-- R163: power-on reset from a running job. -/
theorem test_powerOnReset : (after (.powerOnReset ⟨0x10, 0⟩ true 5) (live 0 engraving604)).jcu.state = .idle ∧
    (after (.powerOnReset ⟨0x10, 0⟩ true 5) (live 0 engraving604)).tlm.layout = Tables.layoutReset ∧
    (after (.powerOnReset ⟨0x10, 0⟩ true 5) (live 0 engraving604)).ports[4].fault = true ∧
    (after (.powerOnReset ⟨0x10, 0⟩ true 5) (live 0 engraving604)).stu.index = true := by decide +kernel

/-- Table 6.5, step 12: the PLANNED records go and unpin their slot. -/
theorem test_headStop : let t := after (.headStop 9 4 0) (live 0 waiting604)
    t.heads[4].state = .stopped ∧ t.heads[4].queue = [] ∧ t.cca.slots[50].pins = 0 := by decide +kernel

/-- Table 6.6, step 4. -/
theorem test_headAbort : let t := after (.headAbort 9 4 0) (live 3000 engraving604)
    t.heads[4].state = .stopped ∧ t.heads[4].nextTrack = 605 ∧ t.heads[4].positioned = false ∧ t.ports[4].step = false := by
  decide +kernel

/-- Table 6.6, step 5: the step owed is raised, and a pass plans three records. -/
theorem test_headResume :
    let t := after (.headResume 9 4 0) (live 0 { headIn .stopped with nextTrack := 604, positioned := false })
    t.heads[4].state = .waiting ∧ t.ports[4].step = true ∧
    t.heads[4].queue.map TrackRecord.track = [604, 605, 606] := by decide +kernel

/-- Table 7.4, steps 7 and 9. -/
theorem test_tripClear :
    lastReply (after (.tripClear 7 4 0)
      { live 0 (headIn .tripped) with ports := State.reset.ports.set 4 (Port.reset true false) }) = some .state ∧
    (after (.tripClear 7 4 0) (live 0 (headIn .tripped))).heads[4].state = .stopped := by decide +kernel

/-- Table 9.2, steps 2 and 7. -/
theorem test_commit :
    let w : State := { live 0 engraving604 with tlm := { workedTables with cals := workedTables.cals.set 4 workedCal } }
    (after (.commit 1 0 0x10 0) w).tlm.calPending = 0x10 ∧
    (after (.commit 1 0 0x10 0) w).tlm.calsActive[4] = Tables.calReset 4 ∧
    (after (.commit 1 0 0x10 0) (inJob .halted w)).tlm.calsActive[4] = workedCal := by decide +kernel

/-- Table 3.5, steps 5, 9 and 11. -/
theorem test_cacheLock :
    (after (.cacheLock 1 5 22 0) (live 0 engraving604)).cca.slots[50].lock = true ∧
    lastReply (after (.cacheLock 1 5 22 0)
      { worked with cca := oneSlot 50 { column22 0 with state := .filling } }) = some .absent ∧
    lastReply (after (.cacheLock 1 5 86 0)
      { worked with cca := { Cache.reset with
        slots := (Cache.reset.slots.set 50 { column22 2 with lock := true }).set 51 { column22 2 with key := some ⟨5, 86⟩ } } }) =
      some .conflict := by decide +kernel

/-- R63. -/
theorem test_cacheUnlock :
    (after (.cacheUnlock 1 5 22 0) { worked with cca := oneSlot 50 { column22 2 with lock := true } }).cca.slots[50].lock =
      false := by decide +kernel

/-- R64: an unpinned slot is emptied, a pinned one is skipped. -/
theorem test_cacheInvalidateKey :
    (after (.cacheInvalidateKey 1 0 5 22 0) { worked with cca := oneSlot 50 (column22 0) }).cca.slots[50] = Slot.empty ∧
    (after (.cacheInvalidateKey 1 0 5 22 0) (live 0 engraving604)).cca.slots[50] = column22 2 := by decide +kernel

/-- Table 3.5, step 17. -/
theorem test_cacheInvalidateAll :
    ((after (.cacheInvalidateAll 1 0) { worked with cca := { Cache.reset with
      slots := (Cache.reset.slots.set 50 { column22 2 with lock := true }).set 51
        { column22 1 with state := .filling, key := some ⟨9, 26⟩, fill := 0 } } }).lnk.replyQueue.getLast?.map
      CommandReply.data) = some (.counts 0 2) := by decide +kernel

/-- R66. -/
theorem test_cacheQuery :
    ((after (.cacheQuery 1 50 0) (live 0 engraving604)).lnk.replyQueue.getLast?.map CommandReply.data) =
      some (.slot { slot := 50, state := .resident, key := some (5, 22), lock := false, pins := 2, lru := .zero, fill := 900 })
    ∧ lastReply (after (.cacheQuery 1 64 0) worked) = some .range := by decide +kernel

/-- Table 9.2, step 3; and R2: P_nom is judged whole and brought into its range. -/
theorem test_tableWrite :
    lastReply (after (.tableWrite 1 6 4 2 [140] 0)
      { worked with tlm := { workedTables with calPending := 0x10 } }) = some .busy ∧
    wideItem (after (.tableWrite 1 1 0 7 [0, 0] 0) worked).tlm.layout 7 = 5000000 := by decide +kernel

/-- R67: a taken TILE write empties the tile's slots. -/
theorem test_tileWrite :
    (after (.tileWrite 1 5 0 [0] 0) { worked with cca := oneSlot 50 (column22 0) }).cca.slots[50] = Slot.empty ∧
    lastReply (after (.tileWrite 1 5 0 [0] 0) { worked with cca := oneSlot 50 (column22 1) }) = some .busy := by
  decide +kernel

/-- R42: low item first. -/
theorem test_wearWrite : (after (.wearWrite 1 4 0 [4816, 19] 0) (live 0 engraving604)).tlm.wear[4] = 1250000 := by
  decide +kernel

/-- Table 11.4, step 9. -/
theorem test_routeWrite :
    (after (.routeWrite 3 0 14 [0] 0) { worked with evr := { Events.reset with
      records := Events.reset.records.set 14 (some { count := 3, mask := 0x24, detail := 0 }) } }).evr.records[14] = none := by
  decide +kernel

/-- R158: a read past the object's end is PARTIAL; the items of a longer read are taken as they stand in later events, so
that a write between them shows in the later item alone, and P_nom is taken whole. -/
theorem test_tableRead :
    (after (.tableRead 5 10 4 1 2 0) worked).lnk.dataQueue.map (fun d => (d.result, d.items)) = [(.partialWrite, [0])] ∧
    (let t := after (.tableRead 5 11 0 0 2 0) worked
     let u := after (.routeWrite 3 0 0 [7, 7] 0) { t with tlm := { t.tlm with reading := none } }
     ({ u with tlm := { u.tlm with reading := t.tlm.reading } }).advance.lnk.dataQueue.map TableData.items =
       [[0x0003, 0x0007]]) ∧
    (after (.tableRead 5 1 0 7 2 0) worked).lnk.dataQueue.map TableData.items = [[26816, 1144]] := by decide +kernel

/-- The request of Table 4.4, step 1, shortened to a column of 3 words. -/
def filling22 : State :=
  { worked with
    cca := oneSlot 50 { column22 2 with state := .filling, fill := 0 }
    cfu := { requests := [{ id := 7, key := ⟨5, 22⟩, slot := 50, length := 3, next := 0, received := 0, lock := false,
                            active := 0 }], counter := 8 } }

/-- Table 4.4, steps 2, 4 and 9. -/
theorem test_columnData :
    ((after (.columnData ⟨7, false, 5, 22, 0, [183]⟩ 400000) filling22).cfu.requests.map fun r => (r.next, r.active)) =
      [(1, 400000)] ∧
    (after (.columnData ⟨7, false, 5, 22, 1, [183]⟩ 0) filling22).evr.records[5].isSome = true ∧
    (let t := after (.columnData ⟨7, true, 5, 22, 0, [183, 190, 255]⟩ 0) filling22
     t.cca.slots[50] = { column22 2 with lock := true, fill := 3 } ∧ t.cfu.requests = []) := by decide +kernel

/-- Table 4.4, step 5: the expiry falls at 2,500,001 ticks and not before. -/
theorem test_fillExpiry :
    (after (.fillExpiry 2500000) filling22).cca.slots[50].state = .filling ∧
    (after (.fillExpiry 2500001) filling22).cca.slots[50] = Slot.empty ∧
    (after (.fillExpiry 2500001) filling22).evr.records[6].isSome = true := by decide +kernel

/-- R169. -/
theorem test_unknownFrame :
    (after (.unknownFrame ⟨0x04, 0, 9, 0, [0x07, 0, 0, 0, 0, 0]⟩ 0) worked).lnk.replyQueue.map
      (fun r => (r.tag, r.kind, r.code, r.result)) = [(9, 0x04, 0x07, .unknown)] := by decide +kernel

/-- R184: a malformed COLUMN_DATA frame is dropped with CRC_ERROR. -/
theorem test_malformedFrame :
    (after (.malformedFrame ⟨0x01, 0, 0, 0, [1]⟩ 0) worked).evr.records[2].isSome = true ∧
    (after (.malformedFrame ⟨0x03, 1, 9, 0, [1, 0, 0, 0, 1, 0]⟩ 0) worked).lnk.replyQueue.map CommandReply.result =
      [.unknown] := by decide +kernel

/-- Table 10.2, step 1; and R168: a TABLE_READ of 16 bytes is stored at an occupancy of 32,752 and discarded at 32,753. -/
theorem test_frameReceived :
    let stored (n : Nat) : State := linkUp (anyFrame n :: List.replicate 30 (anyFrame 1056))
    let read : Instr := .frameReceived (tableReadFrame 5 1 0 0 1).bytes 0
    (after read (linkUp [])).occupancy = 16 ∧
    (after read (stored 762)).occupancy = 32768 ∧ (after read (stored 763)).occupancy = 32753 := by decide +kernel

/-- R165: DOWN to TRAINING to UP; a frame in DOWN is symbols alone. -/
theorem test_link_training :
    (after (.frameReceived (commandFrame 1 1 0 0 0).bytes 3) State.reset).lnk.state = .training ∧
    (after (.frameReceived (commandFrame 1 1 0 0 0).bytes 3) State.reset).lnk.inbound = [] ∧
    (after (.linkTraining 3) State.reset).lnk.state = .training ∧
    (after (.framingAcquired 3) { State.reset with lnk := { Link.reset with state := .training } }).lnk.state = .up ∧
    (after (.framingAcquired 3) State.reset).lnk.state = .down := by decide +kernel

/-- R165, R166: 50,000 ticks do not lose the link, and 50,001 do. -/
theorem test_linkLoss :
    (after (.linkLoss 0 50000) (linkUp [])).lnk.state = .up ∧
    (after (.linkLoss 0 50001) (linkUp [])).lnk.state = .down := by decide +kernel

/-- Table 11.4, step 6: kind 11 goes before kind 13 of the same level. -/
theorem test_transmissionEnd :
    let some3 : Pending := { count := 1, mask := 0, detail := 6 }
    (after (.transmissionEnd 0) { linkUp [] with
      lnk := { (linkUp []).lnk with sending := some busyLane }
      evr := { Events.reset with records := (Events.reset.records.set 13 (some some3)).set 11 (some some3) } }).lnk.sending =
      some ⟨.report { kind := .shortRev, level := 3, count := 1, mask := 0, detail := 6 }, false⟩ := by decide +kernel

/-- Table 6.5, steps 4 and 2. -/
theorem test_index_starts_track :
    (after (.index ⟨4, 4⟩ 75000000) (live 6000 waiting604)).heads[4].state = .engraving ∧
    (after (.index ⟨4, 4⟩ 75000000)
      { live 6000 waiting604 with cca := oneSlot 50 { column22 2 with state := .filling } }).heads[4].wait = 1 := by
  decide +kernel

/-- R88: an inactive level of 3 ticks before the index does not count, and one of 4 does. -/
theorem test_index_filter :
    let s : State := turning { spinning .measuring none none none none 0 0 0 with index := true, indexPin := true }
    (after (.index ⟨3, 4⟩ 75000000) s).stu.valid = 0 ∧ (after (.index ⟨4, 4⟩ 75000000) s).stu.valid = 1 ∧
    (after (.index ⟨4, 3⟩ 75000000) s).stu.valid = 0 := by decide +kernel

/-- R94: more than 2 × P_nom with no index. -/
theorem test_indexTimeout :
    (after (.indexTimeout 150000000) (live 6000 waiting604)).stu.state = .locked ∧
    (after (.indexTimeout 150000001) (live 6000 waiting604)).stu.state = .noSignal ∧
    (after (.indexTimeout 150000001) (live 6000 waiting604)).jcu.state = .faulted := by decide +kernel

/-- Table 2.7 and section 12.6: the word of cell 4,321 on phase A; Table 6.5, step 6: STEP at cell 5,880. -/
theorem test_cellStrobe :
    (after (.cellStrobe .a 54012500) { live 4321 engraving604 with
      tlm := { workedTables with calsActive := workedTables.calsActive.set 4 workedCal
                                 gradsActive := workedTables.gradsActive.set 4 workedGrad }
      pipes := State.reset.pipes.set 4 { Pipe.reset with wearTerm := some 36 }
      cca := { oneSlot 50 (column22 2) with samples := [(8192 * 50 + 135, 183)] } }).ports[4].word = 0x198E ∧
    (after (.cellStrobe .a 73500000) (live 5880 engraving604)).ports[4].loads = 1 ∧
    (after (.cellStrobe .a 73500000) (live 5880 engraving604)).ports[4].step = true ∧
    (after (.cellStrobe .a 73500000) (live 5880 engraving604)).heads[4].nextTrack = 605 := by decide +kernel

/-- Head 4's port with STEP raised. -/
def stepRaised : Vector Port 8 := State.reset.ports.set 4 { Port.reset false false with step := true }

/-- Table 6.5, step 7, and R134. -/
theorem test_stepDone :
    (after (.stepDone 4 4 0) { worked with ports := stepRaised }).ports[4].step = false ∧
    (after (.stepDone 4 3 0) { worked with ports := stepRaised }).ports[4].step = true ∧
    (after (.stepDoneRelease 4 4 0) (after (.stepDone 4 4 0) worked)).ports[4].stepDone = false := by decide +kernel

/-- Table 7.4, steps 3 and 8. -/
theorem test_fault :
    (after (.faultEdge 4 4 0) (live 5930 engraving604)).heads[4].state = .tripped ∧
    (after (.faultEdge 4 4 0) (live 5930 engraving604)).heads[4].defects = [⟨604, .tripped⟩] ∧
    (after (.faultRelease 4 4 0) (after (.faultEdge 4 4 0) (live 5930 engraving604))).ports[4].fault = false := by
  decide +kernel

/-- No word of the opcode table's bits spells a command (assumption 2). -/
theorem test_no_word_spells_a_command : decodeTableWord 16 0x0304 = none ∧ decodeTableWord 0 0 = none := by decide

/-- The frames of chapter 12 read back at dispatch, a byte order written out by hand: TABLE_WRITE of HEAD_CAL 4 item 4 to
−20, and CACHE_LOCK of (5, 22). -/
theorem test_frames_written_out :
    decodeFrame ⟨0x02, 0, 1, 0, [0x06, 0x04, 0x04, 0x00, 0x01, 0x00, 0x00, 0x00, 0xEC, 0xFF]⟩ =
      .tableWrite 1 6 4 4 [-20] ∧
    decodeFrame ⟨0x04, 0, 1, 0, [0x30, 0x00, 0x05, 0x00, 0x16, 0x00]⟩ = .command 1 0x30 0 5 22 := by decide +kernel

/-! ## Witnesses: states and operands that meet the hypotheses of the claims -/

/-- The command waits for nothing: its frame is taken at once. -/
theorem takes_of {s : State} {f : Frame}
    (h : (s.lnk.inbound.isEmpty && !s.lnk.hold && s.lnk.state == .up && s.lnk.reception.isNone &&
      decide (f.payload.length ≤ 1056) && decide (f.size < s.highMark) && !s.blocked (decodeFrame f)) = true) :
    s.takes f := by
  simp only [Bool.and_eq_true, List.isEmpty_iff, Bool.not_eq_true', decide_eq_true_eq, beq_iff_eq,
    Option.isNone_iff_eq_none] at h
  obtain ⟨⟨⟨⟨⟨⟨hi, hh⟩, hu⟩, hr⟩, hp⟩, hs⟩, hb⟩ := h
  unfold State.takes
  rw [hi]
  exact ⟨hh, hb, hu, hr, hp, hs⟩

/-- With the routing table of power-on no kind has an action. -/
theorem noActions_of {s : State} (h : s.tlm.route = Tables.routeReset) : s.noActions := by
  intro k
  unfold State.routeAction
  rw [h]
  cases k <;> decide

/-- An object of a kind is in range, as a test that can be evaluated. -/
def inRangeTest (k : ObjKind) (o : Items) : Bool :=
  decide (o.length = k.length) &&
  (List.range o.length).all (fun i =>
    (decide (storedItem (k.rule i) (o.getD i 0) = o.getD i 0) && selectOk (k.rule i) (o.getD i 0)) ||
      decide (k = .layout ∧ i = 0 ∧ o.getD i 0 = 0)) &&
  (match k.wideField with | none => true | some (i, lo, hi) => decide (lo ≤ wideItem o i ∧ wideItem o i ≤ hi)) &&
  (match k.ordered with | none => true | some (i, j, gap) => decide (item o i + gap ≤ item o j))

theorem inRange_of {k : ObjKind} {o : Items} (h : inRangeTest k o = true) : k.inRange o := by
  simp only [inRangeTest, Bool.and_eq_true, decide_eq_true_eq, List.all_eq_true, List.mem_range, Bool.or_eq_true] at h
  obtain ⟨⟨⟨h1, h2⟩, h3⟩, h4⟩ := h
  refine ⟨h1, h2, fun i lo hi e => ?_, fun i j gap e => ?_⟩
  · simpa [e] using h3
  · simpa [e] using h4

/-- The worked tables are in range, object by object. -/
theorem worked_tables_in_range {s : State} (h : s.tlm = workedTables) : s.tablesInRange := by
  unfold State.tablesInRange
  rw [h]
  have all {k : ObjKind} {n : Nat} {v : Vector Items n} (t : v.toList.all (inRangeTest k) = true) (i : Fin n) :
      k.inRange v[i] := inRange_of (List.all_eq_true.mp t _ (by simp))
  exact ⟨inRange_of (by decide +kernel), all (by decide +kernel), all (by decide +kernel), all (by decide +kernel),
    all (by decide +kernel), all (by decide +kernel), all (by decide +kernel), all (by decide +kernel),
    all (by decide +kernel), inRange_of (by decide +kernel)⟩

/-- A read of STATUS whose first item has been taken. -/
def statusRead (total : Nat) : Reading :=
  { data := { tag := 9, result := .accepted, kind := 14, copy := 0, start := 0, items := [0] }, object := .status, total }

/-- No frame; a blocked and a free head frame; and a read with one item left and with more. -/
theorem witness_EmptyQueueDispatchesHeadFrame :
    State.reset.lnk.inbound = [] ∧
    (let s : State := { State.reset with lnk := { Link.reset with
      inbound := [commandFrame 7 0x01 0 0 0], replyQueue := List.replicate 8 someReply } }
     s.pending = [] ∧ s.blocked (decodeFrame (commandFrame 7 0x01 0 0 0)) = true) ∧
    (linkUp [commandFrame 7 0x01 0 0 0]).pending = [] ∧
    (linkUp [commandFrame 7 0x01 0 0 0]).blocked (decodeFrame (commandFrame 7 0x01 0 0 0)) = false ∧
    (∀ total ∈ [2, 1], ({ part with tlm := { Tables.reset with reading := some (statusRead total) } }).tlm.reading =
      some (statusRead total)) ∧
    (statusRead 2).data.items.length + min (ObjKind.status.together 1) (2 - 1) = 2 ∧
    (statusRead 3).data.items.length + min (ObjKind.status.together 1) (3 - 1) < 3 := by decide +kernel

/-- Behind another frame, at the last occupancy that fits and the first that does not; with the answers' queues full, at an
empty buffer and at its head; and in DOWN and TRAINING. -/
theorem witness_FramesWaitTheirTurn :
    let stored (n : Nat) : State := linkUp (anyFrame n :: List.replicate 30 (anyFrame 1056))
    let full : State := { part with lnk := { part.lnk with
      replyQueue := List.replicate 8 someReply, dataQueue := List.replicate 2 someData } }
    let head : State := { full with lnk := { full.lnk with inbound := [commandFrame 7 0x01 0 0 0] } }
    (stored 762).occupancy + (commandFrame 7 0x01 0 0 0).size = 32768 ∧
    decodeFrame (anyFrame 762) ≠ decodeFrame (commandFrame 7 0x01 0 0 0) ∧
    (stored 763).occupancy + (commandFrame 7 0x01 0 0 0).size = 32769 ∧
    full.lnk.inbound = [] ∧ full.blocked (decodeFrame (commandFrame 7 0x01 0 0 0)) = true ∧
    full.blocked (decodeFrame (tableWriteFrame 7 1 0 0 [1])) = true ∧
    full.blocked (decodeFrame (tableReadFrame 7 1 0 0 1)) = true ∧ full.lnk.reception = none ∧
    full.lnk.state = .up ∧ head.blocked (decodeFrame (commandFrame 7 0x01 0 0 0)) = true ∧
    head.lnk.inbound = commandFrame 7 0x01 0 0 0 :: [] ∧ State.reset.lnk.state = .down ∧
    ({ State.reset with lnk := { Link.reset with state := .training } } : State).lnk.state = .training := by
  decide +kernel

theorem witness_CommandsRefusedInWrongState_job :
    (live 0 engraving604).takes (commandFrame 7 0x01 0 0 0) ∧ (live 0 engraving604).jcu.state ≠ .idle ∧
    part.takes (commandFrame 7 0x02 0 0 0) ∧ part.jcu.state = .idle ∧
    (inJob .ready part).takes (commandFrame 7 0x02 0 0 0) ∧ (inJob .ready part).jcu.state = .ready ∧
    (inJob .ready part).stu.state ≠ .locked ∧
    part.takes (commandFrame 7 0x03 0 0 0) ∧ part.takes (commandFrame 7 0x04 0 0 0) ∧
    part.takes (commandFrame 7 0x05 0 0 0) ∧ (live 0 engraving604).takes (commandFrame 7 0x06 0 0 0) :=
  ⟨takes_of (by decide +kernel), by decide, takes_of (by decide +kernel), rfl, takes_of (by decide +kernel), rfl, by decide,
    takes_of (by decide +kernel), takes_of (by decide +kernel), takes_of (by decide +kernel), takes_of (by decide +kernel)⟩

theorem witness_JobArmReportsFirstFailedCheck :
    part.takes (commandFrame 7 0x01 0 0 0) ∧ part.jcu.state = .idle ∧
    part.armFailure = some (.layoutRange, 0) :=
  ⟨takes_of (by decide +kernel), rfl, by decide +kernel⟩

theorem witness_JobArmArmsHeads :
    worked.takes (commandFrame 7 0x01 0 0 0) ∧ worked.jcu.state = .idle ∧ worked.armFailure = none :=
  ⟨takes_of (by decide +kernel), rfl, by decide +kernel⟩

/-- The worked part armed, on a LOCKED spindle. -/
def armed : State := inJob .ready { worked with
  stu := lockedSpindle 0
  heads := Vector.ofFn fun h => { headIn .ready with nextTrack := 150 * h.val } }

theorem witness_JobStartStartsHeads :
    armed.takes (commandFrame 7 0x02 0 0 0) ∧ armed.jcu.state = .ready ∧ armed.stu.state = .locked ∧ armed.noActions ∧
    armed.marksInMotion :=
  ⟨takes_of (by decide +kernel), rfl, rfl, noActions_of rfl, by unfold State.marksInMotion; decide +kernel⟩

theorem witness_JobHaltStopsHeads :
    (live 0 engraving604).takes (commandFrame 7 0x03 0 0 0) ∧ (live 0 engraving604).jcu.state = .running ∧
    (live 0 engraving604).noActions ∧ (live 0 engraving604).noneEngaged = false ∧
    (live 0 waiting604).takes (commandFrame 7 0x03 0 0 0) ∧ (live 0 waiting604).noActions ∧
    (live 0 waiting604).noneEngaged = true :=
  ⟨takes_of (by decide +kernel), rfl, noActions_of rfl, by decide +kernel, takes_of (by decide +kernel), noActions_of rfl,
    by decide +kernel⟩

theorem witness_JobAbortStopsEveryHead :
    (live 0 engraving604).takes (commandFrame 7 0x04 0 0 0) ∧ (live 0 engraving604).jcu.state = .running ∧
    (live 0 engraving604).noActions :=
  ⟨takes_of (by decide +kernel), rfl, noActions_of rfl⟩

theorem witness_JobClearEmptiesQueues :
    (inJob .halted (live 0 waiting604)).takes (commandFrame 7 0x05 0 0 0) ∧
    (inJob .halted (live 0 waiting604)).jcu.state = .halted :=
  ⟨takes_of (by decide +kernel), rfl⟩

/-- A HALTED job; and the frame at the head of the buffer, with a TABLE_READ behind it and the TABLE_DATA queue full. -/
theorem witness_SoftResetRestoresBlocks :
    let s := inJob .halted (live 0 waiting604)
    let r : State := { s with lnk := { s.lnk with
      inbound := [commandFrame 7 0x06 0 0 0, tableReadFrame 8 1 0 0 1], dataQueue := [someData, someData] } }
    (s.takes (commandFrame 7 0x06 0 0 0) ∧ s.jcu.state ≠ .running ∧ s.jcu.state ≠ .halting ∧ s.level .jobState ≠ 0) ∧
    r.takes (commandFrame 7 0x06 0 0 0) ∧ r.jcu.state ≠ .running ∧ r.jcu.state ≠ .halting ∧
    2 ≤ r.lnk.dataQueue.length ∧ (r.taken 0).lnk.inbound = [tableReadFrame 8 1 0 0 1] ∧
    decodeFrame (tableReadFrame 8 1 0 0 1) = .tableRead 8 1 0 0 1 := by
  refine ⟨⟨takes_of (by decide +kernel), by decide, by decide, by decide +kernel⟩, ?_, by decide, by decide, by decide, rfl,
    by decide +kernel⟩
  unfold State.takes
  decide +kernel

/-- Head number 8 is out of range; head 7 is named, idle, with the job IDLE. -/
theorem witness_CommandsRefusedInWrongState_head :
    (∀ code ∈ [(0x10 : Byte), 0x11, 0x12, 0x13], ∀ head ∈ [(7 : Byte), 8], part.takes (commandFrame 7 code head 0 0)) ∧
    7 < (8 : Byte).toNat ∧ (7 : Byte).toNat = (7 : Head).val ∧ State.reset.heads[7].state = .idle ∧
    State.reset.jcu.state ≠ .running := by
  refine ⟨?_, by decide, by decide, by decide, by decide⟩
  intro code hc head hh
  exact takes_of (by revert code head; decide +kernel)

/-- An engraving head, a waiting one whose two PLANNED records name one slot, and a stalled one. -/
theorem witness_HeadStopStopsHead :
    let stalled : State := live 0 { waiting604 with state := .stalled }
    (4 : Byte).toNat = (4 : Head).val ∧
    (∀ s ∈ [live 0 engraving604, live 0 waiting604, stalled],
      s.takes (commandFrame 7 0x10 4 0 0) ∧ s.jcu.state ≠ .halting ∧ s.enabled 4 = true) ∧
    (live 0 engraving604).heads[4].state = .engraving ∧ (live 0 waiting604).heads[4].state = .waiting ∧
    stalled.heads[4].state = .stalled ∧
    ((live 0 waiting604).heads[4].queue.filter fun r => !r.active).countP (TrackRecord.names 50) = 2 := by
  refine ⟨by decide, ?_, by decide +kernel, by decide +kernel, by decide +kernel, by decide +kernel⟩
  simp only [List.forall_mem_cons, List.not_mem_nil, false_imp_iff, implies_true, and_true]
  refine ⟨⟨?_, by decide, by decide +kernel⟩, ⟨?_, by decide, by decide +kernel⟩, ?_, by decide, by decide +kernel⟩ <;>
    exact takes_of (by decide +kernel)

theorem witness_HeadAbortEndsTrackAtOnce :
    (live 3000 engraving604).takes (commandFrame 7 0x11 4 0 0) ∧ (live 3000 engraving604).jcu.state ≠ .halting ∧
    (live 3000 engraving604).enabled 4 = true ∧ (live 3000 engraving604).noActions ∧
    (live 3000 engraving604).heads[4].state = .engraving ∧
    (live 3000 engraving604).heads[4].queue = imageRecord 604 true :: [imageRecord 605 false] ∧
    (imageRecord 604 true).active = true ∧ (imageRecord 605 false).active = false :=
  ⟨takes_of (by decide +kernel), by decide, by decide +kernel, noActions_of rfl, by decide +kernel, by decide +kernel, rfl,
    rfl⟩

/-- A STOPPED head that owes a step, one whose range is complete, and one under an active FAULT. -/
theorem witness_HeadResumeRestartsHead :
    let stopped : State := live 0 { headIn .stopped with nextTrack := 604, positioned := false }
    let done : State := live 0 { headIn .stopped with nextTrack := 749, complete := true }
    let faulty : State := { stopped with ports := stopped.ports.set 4 (Port.reset true false) }
    (stopped.takes (commandFrame 7 0x12 4 0 0) ∧ stopped.jcu.state = .running ∧ stopped.enabled 4 = true ∧
      stopped.noActions ∧ stopped.heads[4].state = .stopped ∧ stopped.heads[4].complete = false) ∧
    (done.takes (commandFrame 7 0x12 4 0 0) ∧ done.noActions ∧ done.heads[4].complete = true) ∧
    (faulty.takes (commandFrame 7 0x12 4 0 0) ∧ faulty.noActions ∧ faulty.perCell 4 = false ∧
      faulty.ports[4].fault = true) :=
  ⟨⟨takes_of (by decide +kernel), rfl, by decide +kernel, noActions_of rfl, by decide +kernel, by decide +kernel⟩,
    ⟨takes_of (by decide +kernel), noActions_of rfl, by decide +kernel⟩,
    ⟨takes_of (by decide +kernel), noActions_of rfl, by decide +kernel, by decide +kernel⟩⟩

theorem witness_TripClearStopsHead :
    (live 0 (headIn .tripped)).takes (commandFrame 7 0x13 4 0 0) ∧ (live 0 (headIn .tripped)).jcu.state ≠ .halting ∧
    (live 0 (headIn .tripped)).enabled 4 = true ∧ (live 0 (headIn .tripped)).heads[4].state = .tripped ∧
    (live 0 (headIn .tripped)).ports[4].fault = false :=
  ⟨takes_of (by decide +kernel), by decide, by decide +kernel, by decide +kernel, by decide +kernel⟩

/-- The first keys out of range; a key that misses; and key (5, 22) in each state of its slot that a cache command tells
apart. -/
theorem witness_cache_commands :
    (∀ code ∈ [(0x30 : Byte), 0x31, 0x32], ∀ c ∈ [((32 : Item), (0 : Item)), (0, 4096), (31, 4095), (5, 22)],
      part.takes (commandFrame 7 code 0 c.1 c.2)) ∧
    31 < (32 : Item).toNat ∧ 4095 < (4096 : Item).toNat ∧ (⟨31, 4095⟩ : Key).column.val = (4095 : Item).toNat ∧
    State.reset.lookup ⟨31, 4095⟩ = none ∧
    (∀ sl ∈ [column22 0, column22 2, { column22 0 with lock := true }, { column22 0 with state := .filling }],
      ({ State.reset with cca := oneSlot 50 sl }).lookup ⟨5, 22⟩ = some 50) ∧
    (let s : State := { State.reset with cca := { Cache.reset with
      slots := (Cache.reset.slots.set 50 (column22 0)).set 51 { column22 0 with key := some ⟨5, 54⟩, lock := true } } }
     s.lookup ⟨5, 22⟩ = some 50 ∧ otherSlot 50 = 51 ∧ s.cca.slots[51].lock = true) ∧
    part.takes (commandFrame 7 0x32 2 0 0) ∧ part.takes (commandFrame 7 0x32 1 0 0) := by
  refine ⟨?_, by decide, by decide, by decide, by decide +kernel, by decide +kernel, by decide +kernel,
    takes_of (by decide +kernel), takes_of (by decide +kernel)⟩
  simp only [List.forall_mem_cons, List.not_mem_nil, false_imp_iff, implies_true, and_true]
  refine ⟨⟨?_, ?_, ?_, ?_⟩, ⟨?_, ?_, ?_, ?_⟩, ?_, ?_, ?_, ?_⟩ <;> exact takes_of (by decide +kernel)

/-- Slot number 64 is out of range, 63 is not. -/
theorem witness_CacheQueryReturnsSlotRecord :
    part.takes (commandFrame 7 0x33 64 0 0) ∧ 63 < (64 : Byte).toNat ∧ part.takes (commandFrame 7 0x33 63 0 0) ∧
    (63 : Fin 64).val = (63 : Byte).toNat :=
  ⟨takes_of (by decide +kernel), by decide, takes_of (by decide +kernel), by decide⟩

theorem witness_CommitCopiesOrMarks :
    (live 0 waiting604).takes (commandFrame 7 0x20 1 ((2 : Byte).setWidth 16) 0) ∧ (live 0 waiting604).jcu.state = .running ∧
    part.takes (commandFrame 7 0x20 1 ((2 : Byte).setWidth 16) 0) ∧ State.reset.jcu.state ≠ .running ∧
    State.reset.jcu.state ≠ .halting ∧ part.takes (commandFrame 7 0x20 0 ((0 : Byte).setWidth 16) 0) ∧
    ¬((1 : Byte) = 0 ∧ (2 : Byte) = 0) :=
  ⟨takes_of (by decide +kernel), rfl, takes_of (by decide +kernel), by decide, by decide, takes_of (by decide +kernel),
    by decide⟩

/-- A write that fails each test: no such kind; copy, start, no item and 513 items out of range; read-only; not IDLE;
commit pending of both kinds; a select value that names nothing, of each kind and field. -/
theorem witness_TableWriteTestsInOrder :
    (∀ w ∈ [((0x0F : Byte), (0 : Byte), (0 : Item), [(1 : Item)]), (1, 1, 0, [1]), (1, 0, 13, [1]), (1, 0, 0, []),
        (1, 0, 0, List.replicate 513 1), (7, 0, 0, [1]), (1, 0, 0, [1]), (8, 2, 0, [1]), (6, 2, 0, [1]), (2, 15, 5, [3]),
        (2, 15, 5, [1, 1, 1, 3]), (3, 5, 3, [7]), (3, 5, 4, [2]), (3, 5, 5, [4]), (5, 7, 3, [2]), (11, 0, 22, [0x0300])],
      (live 0 waiting604).takes (tableWriteFrame 7 w.1 w.2.1 w.2.2.1 w.2.2.2)) ∧
    (let pinned : State := { worked with cca := oneSlot 50 (column22 1) }
     pinned.takes (tableWriteFrame 7 3 5 0 [1]) ∧ pinned.jcu.state = .idle ∧ pinned.tileBusy (Fin.ofNat 32 5) = true) ∧
    (worked.tileBusy (Fin.ofNat 32 5) = false ∧ worked.jcu.state = .idle ∧ objOfCode 3 = some .tile ∧
      worked.takes (tableWriteFrame 7 3 5 3 [7]) ∧ worked.takes (tableWriteFrame 7 5 7 3 [2])) ∧
    objOfCode 0x0F = none ∧ objOfCode 7 = some .headCalActive ∧ ObjKind.headCalActive.permission = .readOnly ∧
    ObjKind.layout.permission = .idle ∧ (live 0 waiting604).jcu.state ≠ .idle ∧ State.reset.jcu.state = .idle ∧
    (4#8).getLsbD (2 : Byte).toNat = true ∧ ObjKind.lane.copies = 16 ∧ ObjKind.lane.length = 11 := by
  refine ⟨fun w hw => takes_of ?_, ⟨takes_of (by decide +kernel), rfl, by decide +kernel⟩, ⟨by decide +kernel, rfl, by decide,
    takes_of (by decide +kernel), takes_of (by decide +kernel)⟩, by decide, by decide, by decide, by decide, by decide,
    by decide, by decide, by decide, by decide⟩
  revert w
  decide +kernel

/-- A run of each kind of object, LAYOUT whole and past its end among them. -/
theorem witness_TableWriteStoresRun :
    worked.tablesInRange ∧
    ∀ w ∈ [((1 : Byte), (0 : Byte), (0 : Item), workedTables.layout, ObjKind.layout), (1, 0, 12, [0, 7], .layout),
        (2, 15, 0, workedLane, .lane), (4, 3, 255, [2000], .expand), (5, 7, 0, [2, 5], .headSetup),
        (6, 7, 5, [9, 3], .headCal), (8, 7, 256, [5000], .grad)],
      worked.takes (tableWriteFrame 7 w.1 w.2.1 w.2.2.1 w.2.2.2.1) ∧
      (match worked.writeTests w.1 w.2.1 w.2.2.1.toNat w.2.2.2.1 with
        | .ok k => k == w.2.2.2.2 | .error _ => false) = true := by
  refine ⟨worked_tables_in_range rfl, fun w hw => ⟨takes_of ?_, ?_⟩⟩ <;> revert w <;> decide +kernel

/-- A tile with no busy slot, and one with a pinned slot. -/
theorem witness_TileWriteEmptiesTile :
    let free : State := { worked with cca := oneSlot 50 (column22 0) }
    let busy : State := { worked with cca := oneSlot 50 (column22 1) }
    free.takes (tableWriteFrame 7 0x03 5 0 [1]) ∧ free.tablesInRange ∧ free.jcu.state = .idle ∧ free.tileBusy 5 = false ∧
    (match free.writeTests 0x03 5 0 [1] with | .ok k => k == .tile | .error _ => false) = true ∧
    busy.takes (tableWriteFrame 7 0x03 5 0 [1]) ∧ busy.tablesInRange ∧ busy.tileBusy 5 = true ∧
    (5 : Byte).toNat = (5 : Fin 32).val :=
  ⟨takes_of (by decide +kernel), worked_tables_in_range rfl, rfl, by decide +kernel, by decide +kernel,
    takes_of (by decide +kernel), worked_tables_in_range rfl, by decide +kernel, by decide⟩

theorem witness_WearWriteReplacesCount :
    (live 0 waiting604).takes (tableWriteFrame 7 0x0A 7 0 [1, 2, 3]) ∧
    (live 0 waiting604).takes (tableWriteFrame 7 0x0A 7 1 [1]) ∧ (7 : Byte).toNat = (7 : Head).val :=
  ⟨takes_of (by decide +kernel), takes_of (by decide +kernel), by decide⟩

/-- The last entry of the routing table, with an item past it. -/
theorem witness_RouteWriteSetsEntry :
    (live 0 waiting604).takes (tableWriteFrame 7 0x0B 0 22 [0x0209, 1]) ∧ (live 0 waiting604).tablesInRange ∧
    (match (live 0 waiting604).writeTests 0x0B 0 22 [0x0209, 1] with | .ok k => k == .route | .error _ => false) = true :=
  ⟨takes_of (by decide +kernel), worked_tables_in_range rfl, by decide +kernel⟩

/-- A read of no kind; four reads out of range; one past the end and one to the end of ROUTE; the 32-bit fields and the slot
counts of STATUS, whole and with an item more. -/
theorem witness_TableReadAnswersItems :
    (∀ r ∈ [((0x0F : Byte), (0 : Byte), (0 : Item), (1 : Item)), (2, 16, 0, 1), (11, 0, 23, 1), (11, 0, 0, 0),
        (11, 0, 0, 513), (11, 0, 22, 2), (11, 0, 22, 1), (1, 0, 7, 2), (1, 0, 7, 3), (14, 0, 8, 3), (14, 0, 8, 4)],
      part.takes (tableReadFrame 7 r.1 r.2.1 r.2.2.1 r.2.2.2)) ∧
    objOfCode 0x0F = none ∧ objOfCode 2 = some .lane ∧ ObjKind.lane.copies = 16 ∧ objOfCode 11 = some .route ∧
    ObjKind.route.length = 23 ∧ objOfCode 1 = some .layout ∧ ObjKind.layout.together 7 = 2 ∧ objOfCode 14 = some .status ∧
    ObjKind.status.together 8 = 3 ∧ 8 + 4 ≤ ObjKind.status.length := by
  refine ⟨?_, by decide, by decide, by decide, by decide, by decide, by decide, by decide, by decide, by decide, by decide⟩
  simp only [List.forall_mem_cons, List.not_mem_nil, false_imp_iff, implies_true, and_true]
  refine ⟨?_, ?_, ?_, ?_, ?_, ?_, ?_, ?_, ?_, ?_, ?_⟩ <;> exact takes_of (by decide +kernel)

/-- The one entry of `filling22`. -/
def request22 : Request :=
  { id := 7, key := ⟨5, 22⟩, slot := 50, length := 3, next := 0, received := 0, lock := false, active := 0 }

/-- Two words of three, and all three words. -/
theorem witness_SegmentIsStored_and_LastSegmentCompletesFill :
    filling22.takes (columnDataFrame ⟨7, false, 5, 22, 0, [1, 0]⟩) ∧
    filling22.takes (columnDataFrame ⟨7, false, 5, 22, 0, [1, 0, 3]⟩) ∧ filling22.samplesCanonical ∧
    filling22.fillsListed ∧ filling22.oneLock ∧ filling22.noActions ∧ request22 ∈ filling22.cfu.requests ∧
    request22.next + 2 < request22.length ∧ request22.next + 3 = request22.length :=
  ⟨takes_of (by decide +kernel), takes_of (by decide +kernel), by unfold State.samplesCanonical; decide +kernel,
    by unfold State.fillsListed; decide +kernel, by unfold State.oneLock; decide +kernel, noActions_of rfl,
    by decide +kernel, by decide, by decide⟩

/-- A segment at a wrong offset, one word too long, one of no words; and two that match no entry. -/
theorem witness_DroppedSegmentsRaiseOneEvent :
    (∀ sg ∈ [(⟨7, false, 5, 22, 1, [1]⟩ : Segment), ⟨7, false, 5, 22, 0, [1, 2, 3, 4]⟩, ⟨7, false, 5, 22, 0, []⟩,
        ⟨6, false, 5, 22, 0, [1]⟩, ⟨0, false, 5, 22, 1, [1]⟩], filling22.takes (columnDataFrame sg)) ∧
    filling22.cfu.requests.find? (fun q => q.id == 7 && q.key == ⟨5, 22⟩) = some request22 ∧
    ∀ r ∈ filling22.cfu.requests, r.id ≠ 6 ∧ r.id ≠ 0 := by
  refine ⟨fun sg hs => takes_of ?_, by decide +kernel, by decide +kernel⟩
  revert sg
  decide +kernel

/-- First segments of a preload that fail a test: a tile and a column number past the last, a tile not valid, a column past
the tile's; no word and one word above L = 3; a key that is FILLING under another request; a full request list; and a set
whose two ways are pinned. -/
theorem witness_DroppedSegmentsRaiseOneEvent_preload :
    let short : Tables := { workedTables with tiles := workedTables.tiles.set 5 [1, 250, 3, 8, 0, 2, 0, 0] }
    let s : State := { filling22 with tlm := short }
    let full : State := { s with cca := Cache.reset, cfu := { s.cfu with requests := List.replicate 16 { request22 with key := ⟨9, 0⟩ } } }
    let pinned : State := { worked with
      tlm := short
      cca := { Cache.reset with
        slots := (Cache.reset.slots.set 50 { column22 1 with key := some ⟨5, 54⟩ }).set 51
          { column22 1 with key := some ⟨5, 86⟩ } } }
    (∀ sg ∈ [(⟨0, false, 32, 22, 0, [1]⟩ : Segment), ⟨0, false, 5, 4096, 0, [1]⟩, ⟨0, false, 4, 22, 0, [1]⟩,
        ⟨0, false, 5, 250, 0, [1]⟩, ⟨0, false, 5, 54, 0, []⟩, ⟨0, false, 5, 54, 0, [1, 2, 3, 4]⟩, ⟨0, false, 5, 22, 0, [1]⟩],
      s.takes (columnDataFrame sg) ∧ ∀ r ∈ s.cfu.requests, r.id ≠ 0) ∧
    tileValid s.tlm.tiles[4] = false ∧ tileColumns s.tlm.tiles[5] = 250 ∧ tileLength s.tlm.tiles[5] = 3 ∧
    s.lookup ⟨5, 22⟩ = some 50 ∧
    (full.takes (columnDataFrame ⟨0, false, 5, 22, 0, [1]⟩) ∧ (∀ r ∈ full.cfu.requests, r.id ≠ 0) ∧
      16 ≤ full.cfu.requests.length ∧ full.lookup ⟨5, 22⟩ = none) ∧
    (pinned.takes (columnDataFrame ⟨0, false, 5, 22, 0, [1, 2, 3]⟩) ∧ pinned.cfu.requests = [] ∧
      pinned.lookup ⟨5, 22⟩ = none ∧ pinned.victim (keySet ⟨5, 22⟩) = none) := by
  refine ⟨?_, by decide +kernel, by decide +kernel, by decide +kernel, by decide +kernel,
    ⟨takes_of (by decide +kernel), by decide +kernel, by decide +kernel, by decide +kernel⟩,
    takes_of (by decide +kernel), rfl, by decide +kernel, by decide +kernel⟩
  simp only [List.forall_mem_cons, List.not_mem_nil, false_imp_iff, implies_true, and_true]
  refine ⟨⟨?_, ?_⟩, ⟨?_, ?_⟩, ⟨?_, ?_⟩, ⟨?_, ?_⟩, ⟨?_, ?_⟩, ⟨?_, ?_⟩, ?_, ?_⟩ <;>
    first | exact takes_of (by decide +kernel) | decide +kernel

/-- Two words of 900; and all three words of a column of three, with the lock of the other way off and on. -/
theorem witness_PreloadBeginsFill :
    let short : State := { worked with
      tlm := { workedTables with tiles := workedTables.tiles.set 5 [1, 250, 3, 8, 0, 2, 0, 0] } }
    let locked : State := { short with cca := oneSlot 51 { column22 0 with key := some ⟨5, 54⟩, lock := true } }
    (∀ s ∈ [worked, short, locked], (∀ r ∈ s.cfu.requests, r.key ≠ ⟨5, 22⟩) ∧
      tileValid s.tlm.tiles[5] = true ∧ 22 < tileColumns s.tlm.tiles[5] ∧
      s.lookup ⟨5, 22⟩ = none ∧ s.cfu.requests.length < 16 ∧ s.victim (keySet ⟨5, 22⟩) = some 50) ∧
    worked.takes (columnDataFrame ⟨0, true, 5, 22, 0, [1, 2]⟩) ∧ 2 < tileLength worked.tlm.tiles[5] ∧
    short.takes (columnDataFrame ⟨0, true, 5, 22, 0, [1, 2, 3]⟩) ∧ short.noActions ∧
    locked.takes (columnDataFrame ⟨0, false, 5, 22, 0, [1, 2, 3]⟩) ∧ locked.noActions ∧
    ([1, 2, 3] : List Item).length = tileLength short.tlm.tiles[5] :=
  ⟨by decide +kernel, takes_of (by decide +kernel), by decide +kernel, takes_of (by decide +kernel), noActions_of rfl,
    takes_of (by decide +kernel), noActions_of rfl, by decide +kernel⟩

/-- The fill timeout is 2,500,000 ticks: none is late at that tick, the entry is at the next. -/
theorem witness_ExpiryEmptiesSlot :
    let late (tick : Nat) (r : Request) : Bool :=
      decide (50000 * item filling22.tlm.layout 10 < max filling22.now tick - r.active)
    filling22.cfu.requests.find? (late 2500000) = none ∧ filling22.cfu.requests.find? (late 2500001) = some request22 ∧
    filling22.noActions :=
  ⟨by decide +kernel, by decide +kernel, noActions_of rfl⟩

/-- A frame of no kind, a COMMAND of no code, and a malformed frame of each kind. -/
theorem witness_UnknownAndMalformedFramesAnswered :
    (∀ f ∈ [(⟨0x05, 0, 9, 0, []⟩ : Frame), ⟨0x04, 0, 9, 0, [0x07, 0, 0, 0, 0, 0]⟩], part.takes f) ∧
    knownCode 0x07 = false ∧
    ∀ f ∈ [(⟨0x01, 0, 9, 0, [1]⟩ : Frame), ⟨0x02, 0, 9, 1, []⟩, ⟨0x03, 1, 9, 0, []⟩, ⟨0x04, 0, 9, 0, []⟩,
        ⟨0x04, 0, 9, 0, [1]⟩], part.takes f ∧ f.malformed = true ∧ f.unknown = false := by
  refine ⟨fun f hf => takes_of ?_, by decide, fun f hf => ⟨takes_of ?_, ?_, ?_⟩⟩ <;> revert f <;> decide +kernel

/-- The first oversize length; a frame whose CRC fails; an unfinished frame; and the first length too great. -/
theorem witness_ReceivedFramesStoredOrDropped :
    (linkUp []).lnk.state = .up ∧ (linkUp []).lnk.reception = none ∧
    (let stored (n : Nat) : State := linkUp (anyFrame n :: List.replicate 30 (anyFrame 1056))
     (stored 768).occupancy + (anyFrame 0).size = 32768 ∧ (stored 769).occupancy + (anyFrame 0).size = 32769) ∧
    receive [4, 0, 0, 0x27, 0x04, 0] = .oversize ∧ receive [4, 0, 0, 0, 0, 0, 0, 0, 0, 0] = .badCrc 10 ∧
    receive [4, 0, 0, 0x26, 0x04, 0] = .incomplete ∧ receive [] = .incomplete ∧ State.reset.lnk.state = .down ∧
    ({ part with lnk := { part.lnk with reception := some [4, 0] } } : State).lnk.reception = some [4, 0] := by
  decide +kernel

/-- Bytes of a frame one byte too long for any kind, with its CRC. -/
theorem witness_ReceivedFramesStoredOrDropped_length : receive (anyFrame 1057).bytes = .badLength 1067 := by
  have hn : (itemOfBytes (loByte (BitVec.ofNat 16 1057)) (hiByte (BitVec.ofNat 16 1057))).toNat = 1057 := by decide
  have hp : (anyFrame 1057).payload.length = 1057 := List.length_replicate
  generalize anyFrame 1057 = f at hp
  have hb : (bytesOfWord32 (crc32 f.covered)).length = 4 := rfl
  have hbytes : f.bytes = f.kind :: f.flags :: f.tag :: loByte (BitVec.ofNat 16 1057) :: hiByte (BitVec.ofNat 16 1057) ::
      f.zero :: (f.payload ++ bytesOfWord32 (crc32 f.covered)) := by
    simp [Frame.bytes, Frame.covered, bytesOfItem, hp]
  have ht : (f.payload ++ bytesOfWord32 (crc32 f.covered)).take 1057 = f.payload := by
    rw [← hp]; exact List.take_left
  have hd : (f.payload ++ bytesOfWord32 (crc32 f.covered)).drop 1057 = bytesOfWord32 (crc32 f.covered) := by
    rw [← hp]; exact List.drop_left
  rw [hbytes]
  simp only [receive, hn, ht, hd]
  simp [Config.oversizeLength, Config.largestPayload, hb, hp]

/-- DOWN, TRAINING and UP, and the last tick at which the link is not lost. -/
theorem witness_LinkComesUpAndIsLost_up :
    State.reset.lnk.state = .down ∧ State.reset.lnk.state ≠ .training ∧ (linkUp []).lnk.state ≠ .down ∧
    ({ State.reset with lnk := { Link.reset with state := .training } } : State).lnk.state = .training ∧
    max State.reset.now 50000 ≤ max State.reset.lnk.lastSymbol (min 0 (max State.reset.now 50000)) + 50000 := by
  decide +kernel

/-- The first tick at which the link is lost. -/
theorem witness_LinkComesUpAndIsLost_loss :
    max (linkUp []).lnk.lastSymbol (min 0 (max (linkUp []).now 50001)) + 50000 < max (linkUp []).now 50001 ∧
    (linkUp []).lnk.state = .up ∧
    ({ State.reset with lnk := { Link.reset with state := .training } } : State).lnk.state = .training := by decide +kernel

/-- A busy lane of a link in UP. -/
def busy (l : Link) : Link := { l with state := .up, sending := some busyLane }

/-- A lane with a frame of each class waiting, one with no frame and no record, one with a record, and one that sends the
reply to a SOFT_RESET. -/
theorem witness_TransmissionEndServesClassesInOrder :
    let p : Pending := { count := 1, mask := 0, detail := 6 }
    let s : State := { State.reset with lnk := busy Link.reset }
    let r : State := { s with evr := { Events.reset with records := (Events.reset.records.set 13 (some p)).set 11 (some p) } }
    State.reset.lnk.sending = none ∧
    (busy { Link.reset with resetReply := .sending }).resetReply = .sending ∧
    (busy { Link.reset with flowQueue := some true }).flowQueue = some true ∧
    (busy { Link.reset with requestQueue := [⟨1, 5, 22, 900⟩] }).flowQueue = none ∧
    (busy { Link.reset with replyQueue := [someReply] }).requestQueue = [] ∧
    (busy { Link.reset with dataQueue := [someData] }).replyQueue = [] ∧
    (∀ k ∈ eventKinds, s.evr.records[k.num] = none) ∧
    r.evr.records[EventKind.shortRev.num] = some p ∧ r.level .shortRev ≠ 0 ∧
    (∀ j ∈ eventKinds, r.evr.records[j.num] ≠ none →
      r.level j ≤ r.level .shortRev ∧ EventKind.shortRev.num ≤ j.num) := by decide +kernel

theorem witness_FirstIndexBeginsMeasurement : State.reset.stu.state = .noSignal ∧ State.reset.stu.rev = none ∧
    State.reset.stu.index = false ∧ (Spindle.reset true).index = true ∧ (Spindle.reset true).state = .noSignal ∧
    part.laneFree = false := by
  decide +kernel

/-- The ends of the tolerance of section 5.8, 74,250,000 and 75,750,000 ticks, the first periods past them, and each count
at which the state moves or stays. -/
theorem witness_IndexMovesSpindleState :
    (∀ p ∈ [74250000, 75750000], ((p : Int) - (worked.nominal : Int)).natAbs * 1000 ≤ worked.tolerance * worked.nominal) ∧
    (∀ p ∈ [74249999, 75750001], worked.tolerance * worked.nominal < ((p : Int) - (worked.nominal : Int)).natAbs * 1000) ∧
    (∀ v ∈ [2, 3], (turning (spinning .measuring none none none none v 0 0)).stu.valid = v) ∧
    (∀ r ∈ [2, 3], (turning (spinning .offSpeed none none none none 4 0 r)).stu.run = r) ∧
    (turning (spinning .locked none none none none 4 0 0)).stu.tPrev = some 0 := by decide +kernel

/-- A head whose record is ready, with a commit of its calibration pending; one whose record is not; and one that has waited
as long as the wait limit. -/
theorem witness_IndexStartsReadyTracks :
    let s : State := { live 6000 waiting604 with tlm := { workedTables with calPending := 0x10 } }
    let t : State := { live 6000 waiting604 with cca := oneSlot 50 { column22 2 with state := .filling } }
    let w : State := { t with heads := t.heads.set 4 { waiting604 with wait := 8 } }
    (s.stu.state = .locked ∧ s.stu.index = false ∧ s.stu.tPrev = some 0 ∧ s.inTolerance (max s.now 75000000 - 0) = true ∧
      s.noActions ∧ s.headsAgree ∧ s.tlm.calPending.getLsbD 4 = true ∧ s.heads[4].state = .waiting ∧
      s.startFailure 4 = none) ∧
    (t.noActions ∧ t.headsAgree ∧ t.startFailure 4 = some .unresolved ∧ ¬(t.waitLimit < t.heads[4].wait + 1) ∧
      t.heads[4].activeRecord = none) ∧
    (w.noActions ∧ w.headsAgree ∧ w.startFailure 4 = some .unresolved ∧ w.waitLimit < w.heads[4].wait + 1) := by
  unfold State.headsAgree
  refine ⟨⟨rfl, rfl, rfl, by decide +kernel, noActions_of rfl, by decide +kernel, by decide +kernel, by decide +kernel,
    by decide +kernel⟩, ⟨noActions_of rfl, by decide +kernel⟩, noActions_of rfl, by decide +kernel⟩

/-- A track in the range and the last track, with a suppressed cell or not, at the end of a whole revolution and of one with
cells dropped, of an ENGRAVING and a STOPPING head. -/
theorem witness_IndexEndsTracks :
    (∀ x ∈ [HeadState.engraving, .stopping], ∀ k ∈ [604, 749], ∀ sup ∈ [true, false], ∀ c ∈ [6000, 5999],
      let r : TrackRecord := { imageRecord k true with suppressed := sup }
      let s : State := live c { headIn x with nextTrack := k, queue := [r] }
      s.stu.tPrev = some 0 ∧ s.inTolerance (max s.now 75000000 - 0) = true ∧
        (∀ h : Head, (s.enabled h = true) ∧ (s.heads[h].state.trips = true → s.ports[h].fault = false)) ∧
        s.jcu.state = .running ∧ s.heads[4].state = x ∧ s.laneFree = false ∧ s.level .trackDone ≠ 0 ∧
        s.stu.rev = some (revolutionAt c) ∧ s.ports[4].phase = .a ∧
        s.heads[4].queue = r :: [] ∧ r.active = true ∧ s.lastTrack 4 = 749) := by
  decide +kernel

/-- The hypotheses of the same claim that are invariants; a prescale that admits the count; and a next track that starts: its
record is ready and its step is not owed, with the record behind it not. -/
theorem witness_IndexEndsTracks_next :
    let r : TrackRecord := imageRecord 605 false
    let s : State := { live 6000 { engraving604 with nextTrack := 605, tracksDone := 1 } with
      tlm := { workedTables with setups := workedTables.setups.set 4 [1, 600, 749, 0, 2] } }
    s.noActions ∧ s.headsAgree ∧ s.prescale 4 = 2 ∧ (s.heads[4].tracksDone.toNat + 1) % s.prescale 4 = 0 ∧
    s.heads[4].queue = imageRecord 604 true :: r :: [] ∧ s.readyToStart r = true ∧ s.heads[4].positioned = true ∧
    s.heads[4].nextTrack ≠ 604 ∧
    ({ s with cca := oneSlot 50 { column22 2 with state := .filling } }).readyToStart r = false ∧ 604 ≠ s.lastTrack 4 :=
  ⟨noActions_of rfl, by unfold State.headsAgree; decide +kernel, by decide +kernel, by decide +kernel, by decide +kernel,
    by decide +kernel, by decide +kernel, by decide +kernel, by decide +kernel, by decide +kernel⟩

/-- A revolution with a cell of each phase dropped, and a whole one with commits of both kinds pending, while the lane is
busy. -/
theorem witness_IndexRaisesShortRevAndAppliesCommits :
    let s : State := { live 6000 waiting604 with tlm := { workedTables with gradPending := 1, calPending := 0x10 } }
    (live 5999 waiting604).undueCells = 2 ∧ (live 5999 waiting604).level .shortRev ≠ 0 ∧
    (live 5999 waiting604).laneFree = false ∧ (live 5999 waiting604).noActions ∧
    s.undueCells = 0 ∧ s.stu.state = .locked ∧ s.stu.tPrev = some 0 ∧ s.inTolerance (max s.now 75000000 - 0) = true ∧
    s.laneFree = false ∧ s.level .commitApplied ≠ 0 ∧ s.noActions :=
  ⟨by decide +kernel, by decide +kernel, by decide +kernel, noActions_of rfl, by decide +kernel, rfl, rfl, by decide +kernel,
    by decide +kernel, by decide +kernel, noActions_of rfl⟩

/-- The last tick of the index timeout and the first past it, with the job at rest and RUNNING. -/
theorem witness_IndexTimeoutSilencesSpindle :
    State.reset.stu.state = .noSignal ∧
    (live 6000 waiting604).stu.tPrev = some 0 ∧ (live 6000 waiting604).stu.state ≠ .noSignal ∧
    max (live 6000 waiting604).now 150000000 ≤ 0 + 2 * (live 6000 waiting604).nominal ∧
    0 + 2 * (live 6000 waiting604).nominal < max (live 6000 waiting604).now 150000001 ∧
    (live 6000 waiting604).jcu.state = .running ∧ (live 6000 waiting604).noActions ∧
    (inJob .idle (live 6000 waiting604)).jcu.state ≠ .running ∧ (inJob .idle (live 6000 waiting604)).jcu.state ≠ .halting :=
  ⟨rfl, rfl, by decide, by decide +kernel, by decide +kernel, rfl, noActions_of rfl, by decide, by decide⟩

/-- No revolution; one with every cell strobed; a cell one tick before its due time and at it, on both phases (Table 5.4);
and heads that take nothing and that rest. -/
theorem witness_StrobeAtDueTime :
    State.reset.stu.rev = none ∧ (live 6000 waiting604).stu.rev = some (revolutionAt 6000) ∧
    (live 4321 waiting604).stu.rev = some (revolutionAt 4321) ∧
    max (live 4321 waiting604).now 54012499 < (revolutionAt 0).tIdx + 4321 * 75000000 / 6000 ∧
    (revolutionAt 0).tIdx + 4321 * 75000000 / 6000 ≤ max (live 4321 waiting604).now 54012500 ∧
    (revolutionAt 0).tIdx + (2 * 4321 + 1) * 75000000 / (2 * 6000) ≤ max (live 4321 waiting604).now 54018750 ∧
    (live 4321 waiting604).noActions ∧ (live 4321 waiting604).heads[0].state = .idle ∧
    (live 4321 waiting604).ports[4].phase = .a ∧ (live 4321 waiting604).heads[4].state = .waiting :=
  ⟨rfl, rfl, rfl, by decide +kernel, by decide +kernel, by decide +kernel, noActions_of rfl, by decide +kernel,
    by decide +kernel, by decide +kernel⟩

/-- Head 4 in PER_CELL mode under an active FAULT. -/
def perCellFault (s : State) : State :=
  { s with
    tlm := { s.tlm with setups := s.tlm.setups.set 4 [1, 600, 749, 1, 0] }
    ports := s.ports.set 4 (Port.reset true false) }

/-- Head 4 strobed at the last cell before the window, at the window start, and at an engraved cell, a cell of no depth and a
suppressed cell. -/
theorem witness_StrobeDeliversCell :
    let s (c : Nat) : State := { live c engraving604 with
      cca := { oneSlot 50 (column22 2) with samples := [(8192 * 50 + 135, 183)] } }
    ((s 4321).stu.rev = some (revolutionAt 4321) ∧ (revolutionAt 4321).due .a 4321 ≤ max (s 4321).now 54012500 ∧
      (s 4321).ports[4].phase = .a ∧ (s 4321).heads[4].state = .engraving ∧
      (s 4321).heads[4].activeRecord = some (imageRecord 604 true)) ∧
    (s 4321).noActions ∧ (perCellFault (s 4321)).noActions ∧
    (s 0).cells - (s 0).window = 5880 ∧ 604 < (s 0).lastTrack 4 ∧
    ((s 4321).computeCell 4 (imageRecord 604 true) 4321 matches .engraved _ _) = true ∧
    (s 5879).computeCell 4 (imageRecord 604 true) 5879 = .noCell ∧
    (perCellFault (s 4321)).computeCell 4 (imageRecord 604 true) 4321 = .suppressed :=
  ⟨by decide +kernel, noActions_of rfl, noActions_of rfl, by decide +kernel, by decide +kernel, by decide +kernel,
    by decide +kernel, by decide +kernel⟩

/-- Saturated cells of both limits and one within them, under the calibration of Table 2.5. -/
theorem witness_TonesDepthsAndCodesStayInRange :
    worked.tablesInRange ∧ ObjKind.headCal.inRange workedCal ∧ ObjKind.grad.inRange Tables.gradReset ∧
    ObjKind.tile.inRange workedTile ∧ ObjKind.expand.inRange Tables.expandReset ∧
    (worked.computeCell 4 { imageRecord 604 true with body := .margin 1023 } 0 matches .engraved _ _) = true ∧
    (0 : Nat) < calCut workedCal ∧ (1023 : Nat) ≤ 1023 :=
  ⟨worked_tables_in_range rfl, inRange_of (by decide +kernel), inRange_of (by decide +kernel),
    inRange_of (by decide +kernel), inRange_of (by decide +kernel), by decide +kernel, by decide +kernel, by decide⟩

/-- STEP raised and low, STEP_DONE active and inactive; FAULT active and inactive, PER_CELL mode, and a head that does not
trip. -/
theorem witness_PortInputsSetTheirLevels :
    stepRaised[4].stepDone = false ∧ stepRaised[4].step = true ∧ State.reset.ports[4].step = false ∧
    (Port.reset false true).stepDone = true ∧ (Port.reset true false).fault = true ∧
    State.reset.ports[4].fault = false ∧ State.reset.heads[4].state.trips = false ∧
    (perCellFault State.reset).perCell 4 = true := by decide +kernel

/-- An engraving and a waiting head with no routing action, and an engraving one where HEAD_TRIP has the action
ABORT_JOB. -/
theorem witness_FaultEdgeTripsLatchedHead :
    let a : State := { live 0 engraving604 with tlm := { workedTables with route := Tables.routeReset.set 16 0x0203 } }
    (∀ s ∈ [live 0 engraving604, live 0 waiting604, a], s.ports[4].fault = false ∧ s.perCell 4 = false ∧
      s.enabled 4 = true ∧ s.jcu.state = .running ∧ s.heads[4].state.trips = true) ∧
    (live 0 engraving604).noActions ∧ (live 0 waiting604).noActions ∧ (live 0 engraving604).jcu.state ≠ .halting ∧
    a.routeAction .headTrip = .abortJob ∧ ∀ k ∈ eventKinds, k ≠ .headTrip → a.routeAction k = .none :=
  ⟨by decide +kernel, noActions_of rfl, noActions_of rfl, by decide, by decide +kernel, by decide +kernel⟩

/-- A clear record and one that has counted 255, at level 3 and at level 0, with the lane busy; and a waiting head with no
track in progress. -/
theorem witness_OccurrencesGatherInOneRecord :
    let s : State := { worked with lnk := busy Link.reset }
    let full : State := { s with evr := { Events.reset with
      records := Events.reset.records.set 4 (some { count := 255, mask := 0, detail := 1 }) } }
    let silent : State := { s with tlm := { workedTables with route := Tables.routeReset.set 4 0 } }
    let w : State := { live 0 waiting604 with lnk := busy Link.reset }
    (∀ t ∈ [s, full, silent], t.takes (columnDataFrame ⟨9, false, 5, 22, 0, [1]⟩) ∧ t.lnk.sending.isSome = true ∧
      t.cfu.requests = []) ∧
    s.noActions ∧ s.level .strayData = 3 ∧ silent.level .strayData = 0 ∧
    w.noActions ∧ w.lnk.sending.isSome = true ∧ w.heads[4].state = .waiting ∧ w.heads[4].activeRecord = none ∧
    w.ports[4].fault = false ∧ w.perCell 4 = false ∧ w.enabled 4 = true ∧ w.jcu.state ≠ .halting := by
  refine ⟨?_, noActions_of rfl, by decide +kernel, by decide +kernel, noActions_of rfl, rfl, by decide +kernel,
    by decide +kernel, by decide +kernel, by decide +kernel, by decide +kernel, by decide⟩
  simp only [List.forall_mem_cons, List.not_mem_nil, false_imp_iff, implies_true, and_true]
  refine ⟨⟨?_, rfl, rfl⟩, ⟨?_, rfl, rfl⟩, ?_, rfl, rfl⟩ <;> exact takes_of (by decide +kernel)

/-- The longest payload, segment and write, and every command code. -/
theorem witness_ReceiverReadsFrameBytes_and_DispatchReadsBackFrames :
    (anyFrame 1056).payload.length = 1056 ∧ (List.replicate 512 (0 : Item)).length ≤ largestSegment ∧
    (List.replicate 524 (0 : Item)).length ≤ largestWrite ∧ knownCode 0x01 = true ∧ knownCode 0x33 = true := by
  decide +kernel

/-- A state of a running job in which every invariant holds and whose next step is a command. -/
theorem witness_invariants :
    let s : State := { live 6000 engraving604 with pending := [.index ⟨4, 4⟩ 75000000] }
    s.samplesCanonical ∧ s.oneLock ∧ s.queuesFit ∧ s.actionsTaken ∧ s.headsAgree ∧ s.fillsListed ∧ s.tablesInRange ∧
    s.marksInMotion ∧ s.pinsCounted ∧ s.queuesBounded ∧ ∃ t, step s = .next t :=
  ⟨by unfold State.samplesCanonical; decide +kernel, by unfold State.oneLock; decide +kernel,
    by unfold State.queuesFit; decide +kernel, by unfold State.actionsTaken; decide +kernel,
    by unfold State.headsAgree; decide +kernel, by unfold State.fillsListed; decide +kernel, worked_tables_in_range rfl,
    by unfold State.marksInMotion; decide +kernel, by unfold State.pinsCounted; decide +kernel,
    by unfold State.queuesBounded; decide +kernel, _, rfl⟩

end Sys2Proof.Tests
end

/-! What keeps a property through the parts of an event, and what keeps a property of the job state and the tables alone:
every event moves these two by a few kinds of change, so a property that those keep is kept by every step. -/

namespace Sys2Proof.Machine

/-! ## Properties kept through the parts of an event -/

/-- What each head's part keeps, the eight heads keep. -/
theorem State.eachHead_inv {P : State → Prop} (s : State) (f : Head → State → State)
    (hf : ∀ h t, P t → P (f h t)) (h : P s) : P (s.eachHead f) := by
  rw [State.eachHead_eq]
  exact hf 7 _ (hf 6 _ (hf 5 _ (hf 4 _ (hf 3 _ (hf 2 _ (hf 1 _ (hf 0 _ h)))))))

/-- What one action and the list of actions due keep, taking actions keeps. -/
theorem State.takeActions_inv {P : State → Prop} (hdue : ∀ t d, P t → P (t.setDue d))
    (hact : ∀ t a, P t → P (t.routeEffect a)) (n : Nat) :
    ∀ (acts : List DueAction) (s : State), P s → P (State.takeActions n acts s) := by
  induction n with
  | zero => intro _ _ h; exact h
  | succ n ih =>
    intro acts
    induction acts with
    | nil => intro _ h; exact h
    | cons a acts iha =>
      intro s h
      have hone : P ((s.setDue []).routeEffect a) := hact _ _ (hdue _ _ h)
      exact iha _ (ih _ _ (hdue _ _ hone))

/-- What a part of an event and the actions keep, the part with its actions taken keeps. -/
theorem State.within_inv {P : State → Prop} (s : State) (f : State → State) (hdue : ∀ t d, P t → P (t.setDue d))
    (hact : ∀ t a, P t → P (t.routeEffect a)) (hf : P (f (s.setDue []))) : P (s.within f) :=
  hdue _ _ (State.takeActions_inv hdue hact _ _ _ (hdue _ _ hf))

/-- What a head's change and the check of head states keep, the change passed to JCU keeps. -/
theorem State.withCheck_inv {P : State → Prop} (s : State) (h : Head) (f : State → State)
    (hcheck : ∀ t, P t → P t.headsCheck) (hf : P (f s)) : P (s.withCheck h f) := by
  unfold State.withCheck
  dsimp only
  split
  · exact hf
  · exact hcheck _ hf

/-! ## What an event does to the job state and the tables -/

/-- Copying the shadows of two empty masks changes nothing. -/
theorem Tables.copyShadows_zero (t : Tables) : t.copyShadows 0 0 = t := by
  have hm (m : BitVec 8) : m &&& 255#8 = m := BitVec.and_allOnes
  simp [Tables.copyShadows, hm]

/-- A commit copies the shadows of its masks. -/
theorem State.applyCommit_tlm (s : State) (g c : BitVec 8) (o : Occasion) :
    (s.applyCommit g c o).tlm = s.tlm.copyShadows g c := by
  unfold State.applyCommit
  split
  · next h => rw [h.1, h.2, Tables.copyShadows_zero]
  · simp

/-- The tables after a change of the job state: leaving RUNNING or HALTING for an end state copies what is pending. -/
def Tables.afterJob (t : Tables) (old new : JobState) : Tables :=
  if old.inMotion && new.ended then t.copyShadows t.gradPending t.calPending else t

/-- A change of the job state, in the job state and the tables. -/
theorem State.setJob_jcu_tlm (s : State) (new : JobState) (c : JobCause) :
    (s.setJob new c).jcu.state = new ∧ (s.setJob new c).tlm = s.tlm.afterJob s.jcu.state new := by
  unfold State.setJob Tables.afterJob
  split
  · simp [State.applyPending, State.applyCommit_tlm]
  · simp

/-- A computed cell moves, of the tables, its own head's wear count alone. -/
theorem State.strobeCell_tlm (s : State) (h : Head) (ph : Phase) (r : TrackRecord) (c : Nat) :
    ∃ w, (s.strobeCell h ph r c).tlm = { s.tlm with wear := s.tlm.wear.set h w } := by
  unfold State.strobeCell
  split
  · exact ⟨s.tlm.wear[h], by simp⟩
  · exact ⟨s.tlm.wear[h], by simp⟩
  · refine ⟨satInc s.tlm.wear[h], ?_⟩
    dsimp only
    split <;> simp [State.engraveCell]

/-- A strobe at a head moves, of the tables, its own head's wear count alone. -/
theorem State.strobeHead_tlm (ph : Phase) (c : Nat) (h : Head) (s : State) :
    ∃ w, (State.strobeHead ph c h s).tlm = { s.tlm with wear := s.tlm.wear.set h w } := by
  have hsame (t : State) (ht : t.tlm = s.tlm) : ∃ w, t.tlm = { s.tlm with wear := s.tlm.wear.set h w } :=
    ⟨s.tlm.wear[h], by simp [ht]⟩
  unfold State.strobeHead
  split
  · exact hsame _ rfl
  · split
    · unfold State.strobeEngaged
      split
      · exact hsame _ (by simp)
      · split
        · exact s.strobeCell_tlm _ _ _ _
        · dsimp only
          split <;> exact hsame _ (by simp)
    · exact hsame _ (by simp)

/-- A property of the job state and the tables that every kind of change of either keeps. -/
structure TableLaw (P : JobState → Tables → Prop) : Prop where
  reset : P .idle Tables.reset
  copy : ∀ j t g c, P j t → P j (t.copyShadows g c)
  job : ∀ j new t, (j.inMotion = true → new.inMotion = true ∨ new.ended = true) → P j t → P new (t.afterJob j new)
  mark : ∀ j t g c, j.inMotion = true → P j t →
    P j { t with gradPending := t.gradPending ||| g, calPending := t.calPending ||| c }
  wear : ∀ j t w, P j t → P j { t with wear := w }
  reading : ∀ j t r, P j t → P j { t with reading := r }
  write : ∀ (s : State) kind copy start items k, s.writeTests kind copy start items = .ok k → P s.jcu.state s.tlm →
    P s.jcu.state (s.tlm.store k copy.toNat
      (writeItems k (s.objItems k copy.toNat) start (withinObject k start items)).items)

/-- The property, of the job state and the tables of a state. -/
def State.TableProp (P : JobState → Tables → Prop) (s : State) : Prop := P s.jcu.state s.tlm

namespace TableLaw

variable {P : JobState → Tables → Prop}

/-- What leaves the job state and the tables keeps the property. -/
theorem of_same {s t : State} (h : s.TableProp P) (hj : t.jcu = s.jcu) (ht : t.tlm = s.tlm) : t.TableProp P := by
  unfold State.TableProp
  rw [hj, ht]
  exact h

section
variable (L : TableLaw P)
include L

/-! ### Job transitions and actions -/

theorem applyCommit (s : State) (g c : BitVec 8) (o : Occasion) (h : s.TableProp P) :
    (s.applyCommit g c o).TableProp P := by
  unfold State.TableProp
  rw [State.applyCommit_tlm, (s.applyCommit_keeps g c o).1]
  exact L.copy _ _ _ _ h

theorem setJob (s : State) (new : JobState) (c : JobCause)
    (hn : s.jcu.state.inMotion = true → new.inMotion = true ∨ new.ended = true) (h : s.TableProp P) :
    (s.setJob new c).TableProp P := by
  obtain ⟨hj, ht⟩ := s.setJob_jcu_tlm new c
  unfold State.TableProp
  rw [hj, ht]
  exact L.job _ _ _ hn h

theorem headsCheck (s : State) (h : s.TableProp P) : s.headsCheck.TableProp P := by
  unfold State.headsCheck
  split
  · split
    · exact L.setJob _ _ _ (fun _ => .inr rfl) h
    · exact h
  · split
    · split
      · exact L.setJob _ _ _ (fun _ => .inr (by split <;> rfl)) h
      · exact h
    · exact h

/-- A job transition: the job state is set, each head follows without touching job or tables, and JCU checks the heads. -/
theorem transition (s : State) (new : JobState) (c : JobCause) (f : Head → State → State)
    (hf : ∀ h t, (f h t).jcu = t.jcu ∧ (f h t).tlm = t.tlm)
    (hn : s.jcu.state.inMotion = true → new.inMotion = true ∨ new.ended = true) (h : s.TableProp P) :
    ((s.setJob new c).eachHead f).headsCheck.TableProp P :=
  L.headsCheck _ (State.eachHead_inv _ _ (fun g _ ht => of_same ht (hf g _).1 (hf g _).2) (L.setJob _ _ _ hn h))

theorem haltJob (s : State) (c : JobCause) (h : s.TableProp P) : (s.haltJob c).TableProp P :=
  L.transition _ _ _ _ (by simp) (fun _ => .inl rfl) h

theorem abortJob (s : State) (c : JobCause) (h : s.TableProp P) : (s.abortJob c).TableProp P :=
  L.transition _ _ _ _ (by simp) (fun _ => .inr rfl) h

theorem faultJob (s : State) (h : s.TableProp P) : s.faultJob.TableProp P :=
  L.transition _ _ _ _ (by simp) (fun _ => .inr rfl) h

theorem armJob (s : State) (hidle : s.jcu.state = .idle) (h : s.TableProp P) : s.armJob.TableProp P :=
  L.transition _ _ _ _ (by simp) (by simp [hidle, JobState.inMotion]) h

theorem clearJob (s : State) (hc : s.jcu.state.clearable = true) (h : s.TableProp P) : s.clearJob.TableProp P :=
  L.transition _ _ _ _ (by simp) (by cases hs : s.jcu.state <;> simp_all [JobState.clearable, JobState.inMotion]) h

theorem startJob (s : State) (h : s.TableProp P) : s.startJob.TableProp P := by
  have hset := L.setJob s .running .start (fun _ => .inl rfl) h
  have hheads := State.eachHead_inv _ State.startHead (fun _ _ ht => of_same ht (by simp) (by simp)) hset
  exact L.headsCheck _ (of_same hheads (by simp) (by simp))

theorem routeEffect (s : State) (a : DueAction) (h : s.TableProp P) : (s.routeEffect a).TableProp P := by
  unfold State.routeEffect
  split
  · split
    · exact L.haltJob _ _ h
    · exact h
  · split
    · exact L.abortJob _ _ h
    · exact h
  · exact h

/-- A part of an event and its actions. -/
theorem within (s : State) (f : State → State) (hf : (f (s.setDue [])).TableProp P) : (s.within f).TableProp P :=
  State.within_inv s f (fun _ _ ht => of_same ht rfl rfl) L.routeEffect hf

/-- A part of an event that leaves job and tables, and its actions. -/
theorem within_same (s : State) (f : State → State) (hf : ∀ t, (f t).jcu = t.jcu ∧ (f t).tlm = t.tlm)
    (h : s.TableProp P) : (s.within f).TableProp P :=
  L.within s f (of_same (s := s) h (by simp [hf]) (by simp [hf]))

/-- A head's change that leaves job and tables, passed to JCU. -/
theorem withCheck_same (s : State) (h : Head) (f : State → State) (hf : ∀ t, (f t).jcu = t.jcu ∧ (f t).tlm = t.tlm)
    (hs : s.TableProp P) : (s.withCheck h f).TableProp P :=
  State.withCheck_inv s h f L.headsCheck (of_same hs (hf s).1 (hf s).2)

/-! ### The events of the link and of the column fetch -/

theorem planning (s : State) (h : s.TableProp P) : (s.within State.planningPass).TableProp P :=
  L.within_same _ _ (by simp) h

theorem crcError (s : State) (n : Nat) (c : CrcCause) (h : s.TableProp P) : (s.crcError n c).TableProp P :=
  L.within_same _ _ (by simp) h

theorem offer (s : State) (f : Frame) (h : s.TableProp P) : (s.offer f).TableProp P := by
  unfold State.offer
  split
  · exact of_same h (by simp) (by simp)
  · exact L.within_same _ _ (by simp) h

theorem enterUp (s : State) (h : s.TableProp P) : s.enterUp.TableProp P := by
  have hup : ({ s with lnk := { s.lnk with state := .up } } : State).TableProp P := h
  have hevent := L.within_same _ (fun u => u.raisePlain .linkUp (linkUpDetail u.occupancy)) (by simp) hup
  exact of_same hevent (by simp [State.enterUp]) (by simp [State.enterUp])

theorem loseLink (s : State) (h : s.TableProp P) : s.loseLink.TableProp P := by
  have hlost : ({ s with lnk := s.lnk.lose } : State).TableProp P := h
  exact L.within_same _ _ (by simp) hlost

theorem acceptSegment (s : State) (r : Request) (sg : Segment) (h : s.TableProp P) :
    (s.acceptSegment r sg).TableProp P := by
  have hstored (f) : ((s.storeSegment r.slot sg).modRequest r.key f).TableProp P := of_same h (by simp) (by simp)
  unfold State.acceptSegment
  dsimp only
  split
  · exact L.planning _ (L.within_same _ _ (by simp) (hstored _))
  · exact hstored _

theorem preloadSegment (s : State) (sg : Segment) (h : s.TableProp P) : (s.preloadSegment sg).TableProp P := by
  unfold State.preloadSegment
  dsimp only
  repeat' split
  rotate_right
  · exact L.acceptSegment _ _ _ (of_same h (by simp) (by simp))
  all_goals exact L.within_same _ _ (by simp) h

theorem takeSegment (s : State) (sg : Segment) (h : s.TableProp P) : (s.takeSegment sg).TableProp P := by
  unfold State.takeSegment
  split
  · unfold State.matchedSegment
    split
    · exact L.within_same _ _ (by simp) h
    · exact L.acceptSegment _ _ _ h
  · split
    · exact L.preloadSegment _ _ h
    · exact L.within_same _ _ (by simp) h

theorem fillExpiry (s : State) (h : s.TableProp P) : s.fillExpiry.TableProp P := by
  unfold State.fillExpiry
  split
  · exact h
  · exact L.planning _ (L.within_same _ _ (by simp) h)

/-! ### The events of the table memory -/

theorem tableWrite (s : State) (tag kind copy : Byte) (start : Item) (items : Items) (h : s.TableProp P) :
    (s.tableWrite tag kind copy start items).TableProp P := by
  unfold State.tableWrite
  split
  · exact of_same h (by simp) (by simp)
  · next k hk =>
    have hw := L.write s kind copy start.toNat items k hk h
    simpa [State.TableProp, State.storeWrite] using hw

theorem readEvent (s : State) (r : Reading) (h : s.TableProp P) : (s.readEvent r).TableProp P := by
  obtain ⟨-, e⟩ | ⟨-, e⟩ := s.readEvent_cases r
  · rw [e]; exact L.reading _ _ _ h
  · have hread : ({ s with tlm := { s.tlm with reading := none } } : State).TableProp P := L.reading _ _ _ h
    rw [e]; exact of_same hread (by simp) (by simp)

theorem tableRead (s : State) (tag kind copy : Byte) (start count : Item) (h : s.TableProp P) :
    (s.tableRead tag kind copy start count).TableProp P := by
  unfold State.tableRead
  dsimp only
  split
  · exact of_same h (by simp) (by simp)
  · split
    · exact of_same h (by simp) (by simp)
    · exact L.readEvent _ _ h

theorem takeCommit (s : State) (tag g c : Byte) (h : s.TableProp P) : (s.takeCommit tag g c).TableProp P := by
  have hans : (s.answer tag 0x20 .accepted).TableProp P := of_same h (by simp) (by simp)
  unfold State.takeCommit
  dsimp only
  split
  · next hm => exact L.mark _ _ _ _ (by simpa using hm) hans
  · exact L.within _ _ (L.applyCommit _ _ _ _ hans)

/-! ### The commands -/

omit L in
/-- A bare reply leaves job and tables. -/
theorem answered (s : State) (tag code : Byte) (r : Result) (h : s.TableProp P) : (s.answer tag code r).TableProp P :=
  of_same h (by simp) (by simp)

theorem takeJobArm (s : State) (tag : Byte) (h : s.TableProp P) : (s.takeJobArm tag).TableProp P := by
  unfold State.takeJobArm
  split
  · next hidle =>
    split
    · next r n _ =>
      have hval : ({ s with jcu := { s.jcu with validation := .failed r n } } : State).TableProp P := h
      exact of_same hval (by simp) (by simp)
    · have hval : ({ s with jcu := { s.jcu with validation := .accepted } } : State).TableProp P := h
      exact L.within _ _ (L.armJob _ (by simp [hidle]) (answered _ tag 0x01 .accepted hval))
  · exact answered _ _ _ _ h

theorem takeJobStart (s : State) (tag : Byte) (h : s.TableProp P) : (s.takeJobStart tag).TableProp P := by
  unfold State.takeJobStart
  repeat' split
  · exact L.within _ _ (L.startJob _ (answered _ _ _ _ h))
  all_goals exact answered _ _ _ _ h

theorem takeJobHalt (s : State) (tag : Byte) (h : s.TableProp P) : (s.takeJobHalt tag).TableProp P := by
  unfold State.takeJobHalt
  split
  · exact L.within _ _ (L.haltJob _ _ (answered _ _ _ _ h))
  · exact answered _ _ _ _ h

theorem takeJobAbort (s : State) (tag : Byte) (h : s.TableProp P) : (s.takeJobAbort tag).TableProp P := by
  unfold State.takeJobAbort
  split
  · exact L.within _ _ (L.abortJob _ _ (answered _ _ _ _ h))
  · exact answered _ _ _ _ h

theorem takeJobClear (s : State) (tag : Byte) (h : s.TableProp P) : (s.takeJobClear tag).TableProp P := by
  unfold State.takeJobClear
  split
  · next hc => exact L.within _ _ (L.clearJob _ (by simpa using hc) (answered _ _ _ _ h))
  · exact answered _ _ _ _ h

theorem takeSoftReset (s : State) (tag : Byte) (h : s.TableProp P) : (s.takeSoftReset tag).TableProp P := by
  unfold State.takeSoftReset
  split
  · exact answered _ _ _ _ h
  · next hm =>
    have hreset (u : State) (ht : u.tlm = s.tlm) : u.resetBlocks.TableProp P := by
      have := L.job s.jcu.state .idle s.tlm (fun hm' => absurd hm' hm) h
      simpa [State.TableProp, Tables.afterJob, hm, ht, Job.reset] using this
    unfold State.raiseReset
    split
    · exact hreset _ (by simp)
    · exact L.within_same _ _ (by simp) (hreset _ (by simp))

theorem dispatchRead (s : State) (h : s.TableProp P) : s.dispatchRead.TableProp P := by
  unfold State.dispatchRead
  split
  · split
    · exact h
    · exact L.tableRead _ _ _ _ _ _ (of_same h (by simp) (by simp))
  · exact h

theorem softReset (s : State) (tag : Byte) (h : s.TableProp P) : (s.softReset tag).TableProp P := by
  unfold State.softReset
  split
  · exact L.dispatchRead _ (L.takeSoftReset _ _ h)
  · exact L.takeSoftReset _ _ h

omit L in
/-- A command of one head: RANGE, or what the head it names makes of it. -/
theorem forHead (s : State) (tag code a : Byte) (f : Head → State) (hf : ∀ h, (f h).TableProp P)
    (h : s.TableProp P) : (s.forHead tag code a f).TableProp P := by
  unfold State.forHead
  split
  · exact answered _ _ _ _ h
  · exact hf _

/-- An accepted head command: a change of the head passed to JCU. -/
theorem headChange (s : State) (tag code : Byte) (g : Head) (f : State → State)
    (hf : ∀ t, (f t).jcu = t.jcu ∧ (f t).tlm = t.tlm) (h : s.TableProp P) :
    ((s.answer tag code .accepted).within fun u => u.withCheck g f).TableProp P :=
  L.within _ _ (L.withCheck_same _ _ _ hf (answered _ _ _ _ h))

theorem takeHeadStop (s : State) (tag a : Byte) (h : s.TableProp P) : (s.takeHeadStop tag a).TableProp P := by
  refine forHead _ _ _ _ _ (fun g => ?_) h
  split
  · exact L.headChange _ _ _ _ _ (by simp) h
  · exact answered _ _ _ _ h

theorem takeHeadAbort (s : State) (tag a : Byte) (h : s.TableProp P) : (s.takeHeadAbort tag a).TableProp P := by
  refine forHead _ _ _ _ _ (fun g => ?_) h
  split
  · exact L.headChange _ _ _ _ _ (by simp) h
  · exact answered _ _ _ _ h

theorem takeTripClear (s : State) (tag a : Byte) (h : s.TableProp P) : (s.takeTripClear tag a).TableProp P := by
  refine forHead _ _ _ _ _ (fun g => ?_) h
  split
  · exact L.headChange _ _ _ _ _ (by simp) h
  · exact answered _ _ _ _ h

theorem takeHeadResume (s : State) (tag a : Byte) (h : s.TableProp P) : (s.takeHeadResume tag a).TableProp P := by
  refine forHead _ _ _ _ _ (fun g => ?_) h
  split
  · have hres := L.headChange s tag 0x12 g (State.resumeHead g) (by simp) h
    unfold State.resumeEffect
    dsimp only
    split
    · exact hres
    · exact L.planning _ hres
  · exact answered _ _ _ _ h

/-- A cache command: its reply on a state of the same job and tables, and the planning pass. -/
theorem cacheCommand (s : State) (u : State) (h : s.TableProp P) (hj : u.jcu = s.jcu) (ht : u.tlm = s.tlm) :
    u.afterCache.TableProp P := L.planning _ (of_same h hj ht)

theorem takeCommand (s : State) (tag code a : Byte) (b c : Item) (h : s.TableProp P) :
    (s.takeCommand tag code a b c).TableProp P := by
  unfold State.takeCommand
  split
  · exact L.takeJobArm _ _ h
  · exact L.takeJobStart _ _ h
  · exact L.takeJobHalt _ _ h
  · exact L.takeJobAbort _ _ h
  · exact L.takeJobClear _ _ h
  · exact L.softReset _ _ h
  · exact L.takeHeadStop _ _ _ h
  · exact L.takeHeadAbort _ _ _ h
  · exact L.takeHeadResume _ _ _ h
  · exact L.takeTripClear _ _ _ h
  · exact L.takeCommit _ _ _ _ h
  · unfold State.takeCacheLock
    split <;> exact L.cacheCommand s _ h (by simp) (by simp)
  · unfold State.takeCacheUnlock
    split <;> exact L.cacheCommand s _ h (by simp) (by simp)
  · split
    · exact L.cacheCommand s _ h (by simp) (by simp)
    · unfold State.takeInvalidateKey
      (repeat' split) <;> exact L.cacheCommand s _ h (by simp) (by simp)
  · unfold State.takeCacheQuery
    split <;> exact L.cacheCommand s _ h (by simp) (by simp)
  · exact h

theorem takeInbound (s : State) (i : Inbound) (h : s.TableProp P) : (s.takeInbound i).TableProp P := by
  cases i with
  | segment sg => exact L.takeSegment _ _ h
  | tableWrite tag kind copy start items => exact L.tableWrite _ _ _ _ _ _ h
  | tableRead tag kind copy start count => exact L.tableRead _ _ _ _ _ _ h
  | command tag code a b c => exact L.takeCommand _ _ _ _ _ _ h
  | unknown kind tag code => exact of_same (s := s) h (by simp [State.takeInbound]) (by simp [State.takeInbound])
  | badSegment size => exact L.crcError _ _ _ h

/-! ### The events of the spindle and of the head ports -/

theorem endRevolution (s : State) (h : s.TableProp P) : s.endRevolution.TableProp P := by
  unfold State.endRevolution
  split
  · exact h
  · split
    · exact h
    · exact State.eachHead_inv _ _ (fun g _ ht => L.withCheck_same _ g _ (by simp) ht)
        (L.within_same _ _ (by simp) h)

theorem passSpindle (x : SpindleState) (s : State) (h : s.TableProp P) : (State.passSpindle x s).TableProp P := by
  unfold State.passSpindle
  split
  · exact L.within _ _ (L.faultJob _ h)
  · exact h

theorem raiseSpindle (x : SpindleState) (p : Nat) (s : State) (h : s.TableProp P) :
    (State.raiseSpindle x p s).TableProp P := by
  unfold State.raiseSpindle
  repeat' split
  · exact h
  · exact L.within_same _ _ (by simp) h
  · exact L.within_same _ _ (by simp) h
  · exact h
  · exact h

theorem serveIndex (s : State) (h : s.TableProp P) : s.serveIndex.TableProp P := by
  have hcommit : (s.within fun u => u.applyPending .index).TableProp P := L.within _ _ (L.applyCommit _ _ _ _ h)
  have hheads := State.eachHead_inv _ (fun g t => t.withCheck g (State.indexHead g))
    (fun g _ ht => L.withCheck_same _ g _ (by simp) ht) hcommit
  have hphase := State.eachHead_inv _ State.setPhase (fun _ _ ht => of_same ht (by simp) (by simp)) hheads
  exact of_same hphase (by simp [State.serveIndex]) (by simp [State.serveIndex])

theorem indexArrival (s : State) (h : s.TableProp P) : s.indexArrival.TableProp P := by
  refine L.within _ _ ?_
  have hend := L.endRevolution (s.setDue []) h
  exact L.serveIndex _ (L.raiseSpindle _ _ _ (L.passSpindle _ _ (of_same hend (by simp) (by simp))))

theorem indexTimeout (s : State) (h : s.TableProp P) : s.indexTimeout.TableProp P := by
  unfold State.indexTimeout
  split
  · exact L.within_same _ _ (by simp) (L.passSpindle _ _ h)
  · exact h

/-- A strobe at a head leaves the job state, and of the tables moves the wear counts alone. -/
theorem strobeHead (ph : Phase) (c : Nat) (g : Head) (s : State) (h : s.TableProp P) :
    (State.strobeHead ph c g s).TableProp P := by
  obtain ⟨w, hw⟩ := State.strobeHead_tlm ph c g s
  unfold State.TableProp
  rw [hw, show (State.strobeHead ph c g s).jcu = s.jcu by simp]
  exact L.wear _ _ _ h

theorem cellStrobe (s : State) (ph : Phase) (h : s.TableProp P) : (s.cellStrobe ph).TableProp P := by
  unfold State.cellStrobe
  split
  · exact h
  · exact L.within _ _ (State.eachHead_inv _ _ (fun g _ ht => L.strobeHead _ _ g _ ht) h)

theorem faultActive (s : State) (g : Head) (n : Nat) (h : s.TableProp P) : (s.faultActive g n).TableProp P := by
  have hpin (u : State) (hj : u.jcu = s.jcu) (ht : u.tlm = s.tlm) : u.TableProp P := of_same h hj ht
  unfold State.faultActive
  dsimp only
  split
  · unfold State.faultTaken
    dsimp only
    split
    · exact L.within _ _ (L.withCheck_same _ _ _ (by simp) (hpin _ (by simp) (by simp)))
    · exact hpin _ (by simp) (by simp)
  · exact hpin _ (by simp) (by simp)

/-- A property that every kind of change of job state and tables keeps is kept by every kind of event. -/
theorem closed : State.Closed (State.TableProp P) where
  queue _ _ h := h
  tick _ _ h := h
  powerOn _ _ _ _ := L.reset
  offer := L.offer
  pop _ h := of_same h (by simp) (by simp)
  inbound := L.takeInbound
  crc := L.crcError
  reception _ _ h := h
  symbol _ _ h := h
  linkState _ _ h := h
  enterUp := L.enterUp
  loseLink := L.loseLink
  endSending _ h := of_same h (by simp) (by simp)
  read s r _ h := L.readEvent s r h
  expiry := L.fillExpiry
  levels _ _ _ h := h
  index := L.indexArrival
  timeout := L.indexTimeout
  strobe := L.cellStrobe
  stepDone _ _ _ h := of_same h (by simp) (by simp)
  stepDoneRelease _ _ _ h := of_same h (by simp) (by simp)
  fault := L.faultActive
  faultRelease _ _ _ h := of_same h (by simp) (by simp)

end

end TableLaw

end Sys2Proof.Machine

/-! What a taken write makes of an object, item by item, and that it leaves the object in its range
(R2, R44, R155, R156). -/

namespace Sys2Proof.Machine

/-! ## Items and numbers -/

/-- An item of a number that fits holds that number. -/
theorem toItem_toNat {n : Nat} (h : n < 65536) : (toItem n).toNat = n := by simp [toItem]; omega

/-- A number within a range is not moved. -/
theorem clampNat_of_mem {lo hi v : Nat} (hlo : lo ≤ v) (hhi : v ≤ hi) : clampNat lo hi v = v := by
  unfold clampNat
  split_ifs <;> omega

/-- A clamped number lies within the range. -/
theorem clampNat_mem {lo hi : Nat} (h : lo ≤ hi) (v : Nat) : lo ≤ clampNat lo hi v ∧ clampNat lo hi v ≤ hi := by
  unfold clampNat
  split_ifs <;> omega

/-- Clamping, by maximum and minimum. -/
theorem clampNat_eq {lo hi : Nat} (h : lo ≤ hi) (v : Nat) : clampNat lo hi v = max lo (min hi v) := by
  unfold clampNat
  split_ifs <;> omega

/-- A clamped signed number lies within the range, and one within it is not moved. -/
theorem clampInt_mem {lo hi : Int} (h : lo ≤ hi) (v : Int) :
    lo ≤ clampInt lo hi v ∧ clampInt lo hi v ≤ hi ∧ (lo ≤ v → v ≤ hi → clampInt lo hi v = v) := by
  unfold clampInt
  split_ifs <;> omega

/-- Reading a list of items after one is set. -/
theorem getD_set (o : Items) (i j : Nat) (x : Item) :
    (o.set i x).getD j 0 = if i = j ∧ i < o.length then x else o.getD j 0 := by
  by_cases hij : i = j
  · subst hij
    by_cases hi : i < o.length <;> simp [List.getD_eq_getElem?_getD, hi]
  · simp [List.getD_eq_getElem?_getD, hij]

/-! ## Item rules -/

/-- The range of a rule is not empty, and an item can hold it. -/
def ItemRule.proper : ItemRule → Bool
  | .num lo hi => decide (lo ≤ hi ∧ hi < 65536)
  | .signed lo hi => decide (-32768 ≤ lo ∧ lo ≤ hi ∧ hi ≤ 32767)
  | .flag | .select _ | .route | .whole => true

/-- Every rule of every object is proper. -/
theorem ObjKind.rule_proper (k : ObjKind) (i : Nat) : (k.rule i).proper = true := by
  have hall : ∀ r ∈ k.rules, r.proper = true := by
    cases k
    case expand => intro r hr; rw [List.eq_of_mem_replicate hr]; rfl
    case grad => intro r hr; rw [List.eq_of_mem_replicate hr]; rfl
    case route => intro r hr; rw [List.eq_of_mem_replicate hr]; rfl
    all_goals decide
  unfold ObjKind.rule
  by_cases hi : i < k.rules.length
  · rw [List.getD_eq_getElem _ _ hi]; exact hall _ (List.getElem_mem hi)
  · rw [List.getD_eq_default _ _ (by omega)]; rfl

/-- What a rule stores of an item that names a value of its select field, the rule holds. -/
theorem ItemRule.holds_storedItem {r : ItemRule} (hr : r.proper = true) {w : Item} (hw : selectOk r w = true) :
    r.holds (storedItem r w) := by
  cases r with
  | num lo hi =>
    obtain ⟨hle, hlt⟩ : lo ≤ hi ∧ hi < 65536 := by simpa [ItemRule.proper] using hr
    have hm := clampNat_mem hle w.toNat
    refine ⟨?_, rfl⟩
    simp only [storedItem]
    rw [toItem_toNat (by omega), clampNat_of_mem hm.1 hm.2]
  | flag => refine ⟨?_, rfl⟩; simp only [storedItem]; split <;> simp_all
  | select values => exact ⟨rfl, hw⟩
  | signed lo hi =>
    obtain ⟨hmin, hle, hmax⟩ : -32768 ≤ lo ∧ lo ≤ hi ∧ hi ≤ 32767 := by simpa [ItemRule.proper] using hr
    obtain ⟨h1, h2, -⟩ := clampInt_mem hle w.toInt
    have hread : (BitVec.ofInt 16 (clampInt lo hi w.toInt)).toInt = clampInt lo hi w.toInt := by
      rw [BitVec.toInt_ofInt]
      exact Int.bmod_eq_of_le (by norm_num; omega) (by norm_num; omega)
    refine ⟨?_, rfl⟩
    simp only [storedItem]
    rw [hread, (clampInt_mem hle _).2.2 h1 h2]
  | route =>
    have hact : w.toNat / 256 ≤ 2 := by simpa [selectOk] using hw
    have hnum : (storedItem .route w).toNat = w.toNat / 256 * 256 + min (w.toNat % 256) 7 := toItem_toNat (by omega)
    refine ⟨?_, ?_⟩
    · exact congrArg toItem (by rw [hnum]; omega)
    · exact decide_eq_true (by rw [hnum]; omega)
  | whole => exact ⟨rfl, rfl⟩

/-- A numeric rule holds of the items of its range. -/
theorem ItemRule.holds_num {lo hi : Nat} {w : Item} (hlo : lo ≤ w.toNat) (hhi : w.toNat ≤ hi) :
    (ItemRule.num lo hi).holds w := by
  refine ⟨?_, rfl⟩
  simp only [storedItem]
  rw [clampNat_of_mem hlo hhi]
  simp [toItem]

/-- An item of which a numeric rule holds lies in its range. -/
theorem ItemRule.mem_of_holds_num {lo hi : Nat} (hle : lo ≤ hi) (hlt : hi < 65536) {w : Item}
    (h : (ItemRule.num lo hi).holds w) : lo ≤ w.toNat ∧ w.toNat ≤ hi := by
  have hm := clampNat_mem hle w.toNat
  have he : w.toNat = clampNat lo hi w.toNat := by
    conv_lhs => rw [← h.1]
    exact toItem_toNat (by omega)
  omega

/-! ## The two kinds of field that take more than one item -/

/-- Where the 32-bit field of an object lies: within it, on items with no range of their own, its range in 32 bits. -/
theorem ObjKind.wideField_facts {k : ObjKind} {w lo hi : Nat} (h : k.wideField = some (w, lo, hi)) :
    w + 1 < k.length ∧ lo ≤ hi ∧ hi < 4294967296 ∧ k.rule w = .whole ∧ k.rule (w + 1) = .whole := by
  cases k <;> simp only [ObjKind.wideField, Option.some.injEq, Prod.mk.injEq, reduceCtorEq] at h <;>
    obtain ⟨rfl, rfl, rfl⟩ := h <;> decide

/-- Where the two ordered items of an object lie: within it, off its 32-bit field, the first of a range from 0 and the second
never below the gap. -/
theorem ObjKind.ordered_facts {k : ObjKind} {a b gap : Nat} (h : k.ordered = some (a, b, gap)) :
    a < k.length ∧ b < k.length ∧ a ≠ b ∧
    (∃ hi, k.rule a = .num 0 hi ∧ hi < 65536) ∧ (∃ lo hi, k.rule b = .num lo hi ∧ gap ≤ lo ∧ lo ≤ hi ∧ hi < 65536) := by
  cases k <;> simp only [ObjKind.ordered, Option.some.injEq, Prod.mk.injEq, reduceCtorEq] at h <;>
    obtain ⟨rfl, rfl, rfl⟩ := h <;>
    exact ⟨by decide, by decide, by decide, ⟨_, rfl, by decide⟩, _, _, rfl, by decide, by decide, by decide⟩

/-- The item numbers that a numeric rule has are not of the 32-bit field. -/
theorem ObjKind.ne_wide_of_num {k : ObjKind} {w lo hi i l u : Nat} (h : k.wideField = some (w, lo, hi))
    (hi : k.rule i = .num l u) : i ≠ w ∧ i ≠ w + 1 := by
  obtain ⟨-, -, -, h1, h2⟩ := ObjKind.wideField_facts h
  constructor <;> rintro rfl <;> simp_all

/-! ## The parts of a write -/

/-- The part of a run that falls within an object: its items, and those numbers that fall within. -/
theorem withinObject_length (k : ObjKind) (start : Nat) (items : Items) :
    (withinObject k start items).length = min items.length (k.length - start) := by
  simp [withinObject, Nat.min_comm]

/-- The items of the part of a run within an object are those of the run. -/
theorem withinObject_getD (k : ObjKind) (start : Nat) (items : Items) {i : Nat} (h : start + i < k.length) :
    (withinObject k start items).getD i 0 = items.getD i 0 := by
  simp [withinObject, List.getD_eq_getElem?_getD, show i < k.length - start by omega]

/-- The object after a run is stored: its length, its items, and whether a value was changed. -/
theorem storeRun_eq (k : ObjKind) (ws : Items) : ∀ (o : Written) (i : Nat),
    (storeRun k o i ws).items.length = o.items.length ∧
    (∀ j, (storeRun k o i ws).items.getD j 0 =
      if i ≤ j ∧ j < i + ws.length ∧ j < o.items.length then storedItem (k.rule j) (ws.getD (j - i) 0)
      else o.items.getD j 0) ∧
    ((storeRun k o i ws).changed = true ↔
      o.changed = true ∨ ∃ j < ws.length, itemClamped (k.rule (i + j)) (ws.getD j 0) = true) := by
  induction ws with
  | nil => intro o i; simp [storeRun]; intros; omega
  | cons w ws ih =>
    intro o i
    obtain ⟨hlen, hget, hch⟩ :=
      ih ⟨o.items.set i (storedItem (k.rule i) w), o.changed || itemClamped (k.rule i) w⟩ (i + 1)
    refine ⟨by simpa [storeRun] using hlen, fun j => ?_, ?_⟩
    · rw [storeRun, hget, getD_set]
      simp only [List.length_set, List.length_cons]
      by_cases hj : i = j
      · subst hj
        simp
      · by_cases hr : i + 1 ≤ j ∧ j < i + 1 + ws.length ∧ j < o.items.length
        · rw [if_pos hr, if_pos (by omega), show j - i = j - (i + 1) + 1 by omega, List.getD_cons_succ]
        · rw [if_neg hr, if_neg (by omega), if_neg (by omega)]
    · rw [storeRun, hch]
      simp only [Bool.or_eq_true, or_assoc]
      refine or_congr_right ⟨?_, ?_⟩
      · rintro (h | ⟨j, hj, h⟩)
        · exact ⟨0, by simp, by simpa using h⟩
        · exact ⟨j + 1, by simpa using hj, by simpa [Nat.add_assoc, Nat.add_comm 1] using h⟩
      · rintro ⟨j, hj, h⟩
        cases j with
        | zero => exact .inl (by simpa using h)
        | succ j => exact .inr ⟨j, by simpa using hj, by simpa [Nat.add_assoc, Nat.add_comm 1] using h⟩

/-- The object after its 32-bit field is judged. -/
theorem clampWide_eq (o : Written) {i lo hi : Nat} (hlen : i + 1 < o.items.length) (hle : lo ≤ hi)
    (hlt : hi < 4294967296) :
    (clampWide o i lo hi).items.length = o.items.length ∧
    (∀ j, j ≠ i → j ≠ i + 1 → (clampWide o i lo hi).items.getD j 0 = o.items.getD j 0) ∧
    wideItem (clampWide o i lo hi).items i = clampNat lo hi (wideItem o.items i) ∧
    ((clampWide o i lo hi).changed = true ↔
      o.changed = true ∨ clampNat lo hi (wideItem o.items i) ≠ wideItem o.items i) := by
  have hm := clampNat_mem hle (wideItem o.items i)
  refine ⟨by simp [clampWide], fun j h1 h2 => ?_, ?_, by simp [clampWide]⟩
  · rw [clampWide, getD_set, if_neg (by omega), getD_set, if_neg (by omega)]
  · generalize hc : clampNat lo hi (wideItem o.items i) = c at hm
    simp only [clampWide, wideItem, item] at hc ⊢
    rw [hc, getD_set, if_neg (by omega), getD_set, if_pos (by omega), getD_set,
      if_pos (by rw [List.length_set]; omega), toItem_toNat (by omega), toItem_toNat (by omega)]
    omega

/-- The object after its two ordered items are held apart, the second being no less than the gap. -/
theorem clampOrdered_eq (o : Written) {a b gap : Nat} (ha : a < o.items.length)
    (hb : gap ≤ item o.items b) :
    (clampOrdered o a b gap).items.length = o.items.length ∧
    (∀ j, j ≠ a → (clampOrdered o a b gap).items.getD j 0 = o.items.getD j 0) ∧
    item (clampOrdered o a b gap).items a = min (item o.items a) (item o.items b - gap) ∧
    ((clampOrdered o a b gap).changed = true ↔
      o.changed = true ∨ min (item o.items a) (item o.items b - gap) ≠ item o.items a) := by
  have hlt : item o.items b < 65536 := (o.items.getD b 0).isLt
  unfold clampOrdered
  split
  · next h =>
    refine ⟨by simp, fun j hj => by rw [getD_set, if_neg (by omega)], ?_, ?_⟩
    · rw [item, getD_set, if_pos ⟨rfl, ha⟩, toItem_toNat (by omega)]
      omega
    · simp only [true_iff]
      omega
  · next h =>
    refine ⟨rfl, fun _ _ => rfl, by omega, ?_⟩
    rw [show min (item o.items a) (item o.items b - gap) = item o.items a by omega]
    simp

/-- The second part of a write: the 32-bit field is judged where the run touches it. -/
def judgeWide (k : ObjKind) (t : Nat → Bool) (o : Written) : Written :=
  match k.wideField with
  | some (i, lo, hi) => if t i || t (i + 1) then clampWide o i lo hi else o
  | none => o

/-- The third part of a write: the ordered items are held apart where the run touches them. -/
def judgeOrdered (k : ObjKind) (t : Nat → Bool) (o : Written) : Written :=
  match k.ordered with
  | some (i, j, gap) => if t i || t j then clampOrdered o i j gap else o
  | none => o

/-- A write is its three parts. -/
theorem writeItems_eq (k : ObjKind) (o : Items) (start : Nat) (run : Items) :
    writeItems k o start run =
      judgeOrdered k (touches start run.length) (judgeWide k (touches start run.length) (storeRun k ⟨o, false⟩ start run)) :=
  rfl

/-- The object after its 32-bit field is judged, one that the run does not touch being in its range. -/
theorem judgeWide_eq (k : ObjKind) (t : Nat → Bool) (o : Written) (hlen : o.items.length = k.length)
    (hold : ∀ w lo hi, k.wideField = some (w, lo, hi) → t w = false → t (w + 1) = false →
      lo ≤ wideItem o.items w ∧ wideItem o.items w ≤ hi) :
    (judgeWide k t o).items.length = k.length ∧
    (∀ j, (∀ w lo hi, k.wideField = some (w, lo, hi) → j ≠ w ∧ j ≠ w + 1) →
      (judgeWide k t o).items.getD j 0 = o.items.getD j 0) ∧
    (∀ w lo hi, k.wideField = some (w, lo, hi) →
      wideItem (judgeWide k t o).items w = max lo (min hi (wideItem o.items w))) ∧
    ((judgeWide k t o).changed = true ↔ o.changed = true ∨ ∃ w lo hi, k.wideField = some (w, lo, hi) ∧
      wideItem (judgeWide k t o).items w ≠ wideItem o.items w) := by
  unfold judgeWide
  cases hw : k.wideField with
  | none => simp [hlen]
  | some f =>
    obtain ⟨w, lo, hi⟩ := f
    obtain ⟨hwl, hle, hlt, -⟩ := ObjKind.wideField_facts hw
    obtain ⟨c1, c2, c3, c4⟩ := clampWide_eq o (i := w) (hlen ▸ hwl) hle hlt
    simp only [Option.some.injEq, Prod.mk.injEq, and_imp]
    split
    · refine ⟨c1.trans hlen, fun j hj => ?_, ?_, ?_⟩
      · obtain ⟨h1, h2⟩ := hj w lo hi rfl rfl rfl
        exact c2 j h1 h2
      · rintro _ _ _ rfl rfl rfl
        rw [c3, clampNat_eq hle]
      · rw [c4]
        refine or_congr_right ⟨fun h => ⟨w, lo, hi, ⟨rfl, rfl, rfl⟩, by rwa [c3]⟩, ?_⟩
        rintro ⟨_, _, _, ⟨rfl, rfl, rfl⟩, h⟩
        rwa [c3] at h
    · next ht =>
      simp only [Bool.or_eq_true, not_or, Bool.not_eq_true] at ht
      obtain ⟨h1, h2⟩ := hold w lo hi hw ht.1 ht.2
      refine ⟨hlen, fun _ _ => rfl, ?_, by simp⟩
      rintro _ _ _ rfl rfl rfl
      omega

/-- The object after its ordered items are held apart, two that the run does not touch being so. -/
theorem judgeOrdered_eq (k : ObjKind) (t : Nat → Bool) (o : Written) (hlen : o.items.length = k.length)
    (hgap : ∀ a b gap, k.ordered = some (a, b, gap) → gap ≤ item o.items b)
    (hold : ∀ a b gap, k.ordered = some (a, b, gap) → t a = false → t b = false →
      item o.items a + gap ≤ item o.items b) :
    (judgeOrdered k t o).items.length = k.length ∧
    (∀ j, (∀ a b gap, k.ordered = some (a, b, gap) → j ≠ a) →
      (judgeOrdered k t o).items.getD j 0 = o.items.getD j 0) ∧
    (∀ a b gap, k.ordered = some (a, b, gap) →
      item (judgeOrdered k t o).items a = min (item o.items a) (item o.items b - gap)) ∧
    ((judgeOrdered k t o).changed = true ↔ o.changed = true ∨ ∃ a b gap, k.ordered = some (a, b, gap) ∧
      item (judgeOrdered k t o).items a ≠ item o.items a) := by
  unfold judgeOrdered
  cases hw : k.ordered with
  | none => simp [hlen]
  | some f =>
    obtain ⟨a, b, gap⟩ := f
    obtain ⟨hal, -⟩ := ObjKind.ordered_facts hw
    obtain ⟨c1, c2, c3, c4⟩ := clampOrdered_eq o (a := a) (b := b) (hlen ▸ hal) (hgap a b gap hw)
    simp only [Option.some.injEq, Prod.mk.injEq, and_imp]
    split
    · refine ⟨c1.trans hlen, fun j hj => c2 j (hj a b gap rfl rfl rfl), ?_, ?_⟩
      · rintro _ _ _ rfl rfl rfl
        exact c3
      rw [c4]
      refine or_congr_right ⟨fun h => ⟨a, b, gap, ⟨rfl, rfl, rfl⟩, by rwa [c3]⟩, ?_⟩
      rintro ⟨_, _, _, ⟨rfl, rfl, rfl⟩, h⟩
      rwa [c3] at h
    · next ht =>
      simp only [Bool.or_eq_true, not_or, Bool.not_eq_true] at ht
      have hapart := hold a b gap hw ht.1 ht.2
      refine ⟨hlen, fun _ _ => rfl, ?_, by simp⟩
      rintro _ _ _ rfl rfl rfl
      omega

/-! ## A write as a whole -/

/-- The object after the items of a run that fall within it are stored, before its fields are judged: the items put, and
whether one of them was changed. -/
theorem storeRun_within (k : ObjKind) (old : Items) (start : Nat) (items : Items) (hlen : old.length = k.length) :
    let a := storeRun k ⟨old, false⟩ start (withinObject k start items)
    a.items.length = k.length ∧ (∀ j, a.items.getD j 0 = putItem k old start items j) ∧
    (a.changed = true ↔ ∃ i < items.length, start + i < k.length ∧ k.rule (start + i) ≠ ItemRule.flag ∧
      storedItem (k.rule (start + i)) (items.getD i 0) ≠ items.getD i 0) := by
  obtain ⟨h1, h2, h3⟩ := storeRun_eq k (withinObject k start items) ⟨old, false⟩ start
  simp only [withinObject_length] at h2 h3
  refine ⟨h1.trans hlen, fun j => ?_, ?_⟩
  · rw [h2, putItem]
    simp only [hlen]
    by_cases hj : start ≤ j ∧ j < start + items.length ∧ j < k.length
    · rw [if_pos hj, if_pos (by omega), withinObject_getD _ _ _ (by omega)]
    · rw [if_neg hj, if_neg (by omega)]
  · rw [h3]
    simp only [Bool.false_eq_true, false_or, itemClamped, Bool.and_eq_true, bne_iff_ne]
    constructor
    · rintro ⟨i, hi, h⟩
      rw [withinObject_getD _ _ _ (by omega)] at h
      exact ⟨i, by omega, by omega, h⟩
    · rintro ⟨i, hi, hk, h⟩
      exact ⟨i, by omega, by rwa [withinObject_getD _ _ _ hk]⟩

/-- An item number that the part of a run within an object does not touch keeps its item. -/
theorem putItem_of_not_touches {k : ObjKind} {old : Items} {start : Nat} {items : Items} {i : Nat} (hi : i < k.length)
    (h : touches start (withinObject k start items).length i = false) : putItem k old start items i = old.getD i 0 := by
  rw [touches, withinObject_length, decide_eq_false_iff_not] at h
  exact if_neg (by omega)

/-- The item of a numeric rule lies in its range once a run has been stored. -/
theorem putItem_mem_num {k : ObjKind} {old : Items} (hold : k.inRange old) (start : Nat) (items : Items) {i lo hi : Nat}
    (hi0 : k = .layout → i ≠ 0) (hil : i < k.length) (hr : k.rule i = .num lo hi) :
    lo ≤ (putItem k old start items i).toNat ∧ (putItem k old start items i).toNat ≤ hi := by
  obtain ⟨hle, hlt⟩ : lo ≤ hi ∧ hi < 65536 := by simpa [hr, ItemRule.proper] using k.rule_proper i
  obtain ⟨hlen, hitems, -⟩ := hold
  unfold putItem
  split
  · have hm := clampNat_mem hle (items.getD (i - start) 0).toNat
    rw [hr]
    simp only [storedItem]
    rwa [toItem_toNat (by omega)]
  · have h := hitems i (by omega)
    rw [hr] at h
    exact ItemRule.mem_of_holds_num hle hlt (h.resolve_right fun ⟨hk, h0, _⟩ => hi0 hk h0)

/-- A taken write of an object in its range stores its run. -/
theorem writeStores_writeItems {k : ObjKind} {old : Items} (hold : k.inRange old) (start : Nat) (items : Items) :
    let w := writeItems k old start (withinObject k start items)
    WriteStores k old start items w.items w.changed := by
  obtain ⟨hlen, -, hwide, hord⟩ := id hold
  intro w
  obtain ⟨a1, a2, a3⟩ := storeRun_within k old start items hlen
  generalize ha : storeRun k ⟨old, false⟩ start (withinObject k start items) = a at a1 a2 a3
  generalize ht : touches start (withinObject k start items).length = t
  have hput (i) (hi : i < k.length) (h : t i = false) : a.items.getD i 0 = old.getD i 0 := by
    subst ht
    rw [a2, putItem_of_not_touches hi h]
  obtain ⟨b1, b2, b3, b4⟩ := judgeWide_eq k t a a1 fun v lo hi hv h1 h2 => by
    have hv' := ObjKind.wideField_facts hv
    simpa only [wideItem, item, hput v (by omega) h1, hput (v + 1) (by omega) h2] using hwide v lo hi hv
  generalize hb : judgeWide k t a = b at b1 b2 b3 b4
  -- The ordered items are no part of the 32-bit field, so judging that field leaves them.
  have hkeep {i l u : Nat} (hr : k.rule i = .num l u) : item b.items i = (putItem k old start items i).toNat := by
    rw [← a2, item, b2 _ fun _ _ _ hv => ObjKind.ne_wide_of_num hv hr]
  have hfirst (x y gap) (ho : k.ordered = some (x, y, gap)) :
      item b.items x = (putItem k old start items x).toNat := by
    obtain ⟨-, -, -, ⟨_, hr, -⟩, -⟩ := ObjKind.ordered_facts ho
    exact hkeep hr
  have hsecond (x y gap) (ho : k.ordered = some (x, y, gap)) :
      item b.items y = (putItem k old start items y).toNat := by
    obtain ⟨-, -, -, -, _, _, hr, -⟩ := ObjKind.ordered_facts ho
    exact hkeep hr
  obtain ⟨c1, c2, c3, c4⟩ := judgeOrdered_eq k t b b1
    (fun x y gap ho => by
      obtain ⟨-, hy, -, -, lo, hi, hr, hg, -⟩ := ObjKind.ordered_facts ho
      rw [hsecond x y gap ho]
      have hmem := putItem_mem_num hold start items (i := y)
        (fun hk => by subst hk; simp only [ObjKind.ordered, Option.some.injEq, Prod.mk.injEq] at ho; omega) hy hr
      omega)
    (fun x y gap ho h1 h2 => by
      obtain ⟨hx, hy, -⟩ := ObjKind.ordered_facts ho
      rw [hfirst x y gap ho, hsecond x y gap ho, ← a2, ← a2, hput x hx h1, hput y hy h2]
      exact hord x y gap ho)
  have hw : w = judgeOrdered k t b := by rw [← hb, ← ha, ← ht]; exact writeItems_eq k old start _
  have hawide (v) : wideItem a.items v =
      (putItem k old start items v).toNat + 65536 * (putItem k old start items (v + 1)).toNat := by
    simp only [wideItem, item, a2]
  have hvwide (v lo hi) (hv : k.wideField = some (v, lo, hi)) :
      wideItem b.items v = wideItem (judgeOrdered k t b).items v := by
    have hoff (i) (hi : i = v ∨ i = v + 1) (x y gap) (ho : k.ordered = some (x, y, gap)) : i ≠ x := by
      obtain ⟨-, -, -, ⟨_, hr, -⟩, -⟩ := ObjKind.ordered_facts ho
      have := ObjKind.ne_wide_of_num hv hr
      omega
    simp only [wideItem, item, c2 v (hoff v (.inl rfl)), c2 (v + 1) (hoff _ (.inr rfl))]
  rw [hw]
  refine ⟨c1, fun i hi1 hi2 => ?_, fun v lo hi hv => ?_, fun x y gap ho => ?_, ?_⟩
  · rw [c2 i fun x y gap ho => hi2 x y gap ho, b2 i hi1, a2]
  · rw [← hvwide v lo hi hv, b3 v lo hi hv, hawide]
  · rw [c3 x y gap ho, hfirst x y gap ho, hsecond x y gap ho]
  · rw [c4, b4, a3, or_assoc]
    refine or_congr_right (or_congr ?_ ?_)
    · refine exists_congr fun v => exists_congr fun lo => exists_congr fun hi => and_congr_right fun hv => ?_
      rw [hvwide v lo hi hv, hawide]
    · refine exists_congr fun x => exists_congr fun y => exists_congr fun gap => and_congr_right fun ho => ?_
      rw [hfirst x y gap ho]

/-- Every select field of a run names one of its values, item by item. -/
theorem selectsOk_iff (k : ObjKind) (ws : Items) : ∀ i : Nat,
    selectsOk k i ws = true ↔ ∀ j < ws.length, selectOk (k.rule (i + j)) (ws.getD j 0) = true := by
  induction ws with
  | nil => intro i; simp [selectsOk]
  | cons w ws ih =>
    intro i
    rw [selectsOk, Bool.and_eq_true, ih]
    constructor
    · rintro ⟨h0, h⟩ j hj
      cases j with
      | zero => simpa using h0
      | succ j => simpa [Nat.add_assoc, Nat.add_comm 1] using h j (by simpa using hj)
    · intro h
      refine ⟨by simpa using h 0 (by simp), fun j hj => ?_⟩
      simpa [Nat.add_assoc, Nat.add_comm 1] using h (j + 1) (by simpa using hj)

/-- An item put by a run whose select fields name their values is one that its rule holds, or the old one. -/
theorem putItem_holds {k : ObjKind} {start : Nat} {items : Items}
    (hsel : selectsOk k start (withinObject k start items) = true) (old : Items) (i : Nat) :
    (k.rule i).holds (putItem k old start items i) ∨ putItem k old start items i = old.getD i 0 := by
  unfold putItem
  split
  · next h =>
    have hok := (selectsOk_iff k _ start).1 hsel (i - start) (by rw [withinObject_length]; omega)
    rw [withinObject_getD _ _ _ (by omega), show start + (i - start) = i by omega] at hok
    exact .inl (ItemRule.holds_storedItem (k.rule_proper i) hok)
  · exact .inr rfl

/-- A taken write leaves an object in its range. -/
theorem WriteStores.inRange {k : ObjKind} {old : Items} {start : Nat} {items o : Items} {changed : Bool}
    (hold : k.inRange old) (hsel : selectsOk k start (withinObject k start items) = true)
    (h : WriteStores k old start items o changed) : k.inRange o := by
  obtain ⟨hlen, hitems, -⟩ := id hold
  obtain ⟨olen, oput, owide, oord, -⟩ := h
  refine ⟨olen, fun i hi => ?_, fun w lo hi hw => ?_, fun a b gap ho => ?_⟩
  · by_cases hw : ∃ w lo hi, k.wideField = some (w, lo, hi) ∧ (i = w ∨ i = w + 1)
    · obtain ⟨w, lo, hi', hw, hiw⟩ := hw
      obtain ⟨-, -, -, hr, hr'⟩ := ObjKind.wideField_facts hw
      have hrule : k.rule i = .whole := by rcases hiw with rfl | rfl <;> assumption
      rw [hrule]
      exact .inl ⟨rfl, rfl⟩
    · by_cases ha : ∃ b gap, k.ordered = some (i, b, gap)
      · obtain ⟨b, gap, ho⟩ := ha
        obtain ⟨hil, -, -, ⟨top, hr, -⟩, -⟩ := ObjKind.ordered_facts ho
        have hmem := putItem_mem_num hold start items (i := i)
          (fun hk => by subst hk; simp only [ObjKind.ordered, Option.some.injEq, Prod.mk.injEq] at ho; omega) hil hr
        have hle : (o.getD i 0).toNat ≤ top := by
          have := oord i b gap ho
          simp only [item] at this
          omega
        rw [hr]
        exact .inl (ItemRule.holds_num (Nat.zero_le _) hle)
      · rw [oput i (fun w lo hi' hw' => by by_contra hn; exact hw ⟨w, lo, hi', hw', by omega⟩)
          (fun a b gap ho => by rintro rfl; exact ha ⟨b, gap, ho⟩)]
        obtain h | h := putItem_holds hsel old i
        · exact .inl h
        · rw [h]
          exact hitems i (by omega)
  · obtain ⟨-, hle, -⟩ := ObjKind.wideField_facts hw
    rw [owide w lo hi hw]
    omega
  · obtain ⟨-, hb, hab, -, lo, hi, hr, hg, -⟩ := ObjKind.ordered_facts ho
    have hmem := putItem_mem_num hold start items (i := b)
      (fun hk => by subst hk; simp only [ObjKind.ordered, Option.some.injEq, Prod.mk.injEq] at ho; omega) hb hr
    have hbeq : item o b = (putItem k old start items b).toNat := by
      rw [item, oput b (fun w lo hi hw => ObjKind.ne_wide_of_num hw hr)
        (fun a' b' gap' ho' => by rw [ho] at ho'; simp only [Option.some.injEq, Prod.mk.injEq] at ho'; omega)]
    rw [oord a b gap ho, hbeq]
    omega

/-! ## A write that passes the tests -/

/-- Tests 3 to 7 of R155: the first that fails. -/
theorem State.writeRefusal_cases (s : State) (k : ObjKind) (n start : Nat) (items : Items) :
    (k.permission = .readOnly → s.writeRefusal k n start items = some .readOnly) ∧
    (k.permission = .idle → s.jcu.state ≠ .idle → s.writeRefusal k n start items = some .state) ∧
    (k.permission ≠ .readOnly → (k.permission = .idle → s.jcu.state = .idle) →
      (s.commitPending k n = true ∨ (k = .tile ∧ s.tileBusy (Fin.ofNat 32 n) = true) →
        s.writeRefusal k n start items = some .busy) ∧
      (¬(s.commitPending k n = true ∨ (k = .tile ∧ s.tileBusy (Fin.ofNat 32 n) = true)) →
        selectsOk k start (withinObject k start items) = false → s.writeRefusal k n start items = some .range)) := by
  unfold State.writeRefusal
  refine ⟨fun h => if_pos h, fun h hj => ?_, fun hp hj => ?_⟩
  · rw [if_neg (by simp [h]), if_pos ⟨h, hj⟩]
  · rw [if_neg hp, if_neg (by tauto)]
    refine ⟨fun h => ?_, fun h hsel => ?_⟩
    · split
      · rfl
      · exact if_pos (h.resolve_left ‹_›)
    · rw [if_neg (by tauto), if_neg (by tauto), hsel]
      rfl

/-- What tests 3 to 7 of R155 let through. -/
theorem State.writeRefusal_eq_none {s : State} {k : ObjKind} {n start : Nat} {items : Items}
    (h : s.writeRefusal k n start items = none) :
    k.permission ≠ .readOnly ∧ selectsOk k start (withinObject k start items) = true := by
  obtain ⟨hro, hidle, hlater⟩ := s.writeRefusal_cases k n start items
  rw [h] at hro hidle hlater
  have hp : k.permission ≠ .readOnly := fun he => nomatch hro he
  obtain ⟨hbusy, hselect⟩ := hlater hp fun he => by_contra fun hj => nomatch hidle he hj
  exact ⟨hp, by_contra fun hs => nomatch hselect (fun hb => nomatch hbusy hb) (by simpa using hs)⟩

/-- What the tests of R155 let through. -/
theorem State.writeTests_eq_ok {s : State} {kind copy : Byte} {start : Nat} {items : Items} {k : ObjKind}
    (h : s.writeTests kind copy start items = .ok k) :
    objOfCode kind = some k ∧ copy.toNat < k.copies ∧ start < k.length ∧ items ≠ [] ∧ items.length ≤ 512 ∧
      s.writeRefusal k copy.toNat start items = none := by
  unfold State.writeTests at h
  split at h
  · cases h
  · next j hj =>
    split at h
    · cases h
    · split at h
      · cases h
      · split at h
        · cases h
        · next h1 h2 _ h3 =>
          cases h
          simp only [not_or, Nat.not_le] at h2
          exact ⟨hj, by omega, by omega, fun he => h2.2.1 (by simp [he]), by omega, h3⟩

/-! ## The tables in range -/

/-- Every object of the tables is in its range. -/
def Tables.inRange (t : Tables) : Prop := ({ State.reset with tlm := t } : State).tablesInRange

/-- The tables of a state are in range when their objects are. -/
theorem State.tablesInRange_iff (s : State) : s.tablesInRange ↔ s.tlm.inRange := Iff.rfl

/-- What holds of every element of a vector and of one more holds after that one is put in. -/
theorem vecSet_forall {α : Type} {m : Nat} {p : α → Prop} {v : Vector α m} (hv : ∀ i : Fin m, p v[i]) (n : Nat)
    {x : α} (hx : p x) (i : Fin m) : p (vecSet v n x)[i] := by
  unfold vecSet
  split
  · by_cases hi : n = i.val
    · subst hi; simpa using hx
    · simpa [Vector.getElem_set, hi] using hv i
  · exact hv i

/-- The element of a vector at a number below its size. -/
theorem vecGet_of_lt {α : Type} {m : Nat} (v : Vector α m) {n : Nat} (d : α) (h : n < m) : vecGet v n d = v[n] := by
  simp [vecGet, h]

/-- What holds of every element of a vector holds of the one at a number below its size. -/
theorem vecGet_forall {α : Type} {m : Nat} {p : α → Prop} {v : Vector α m} (hv : ∀ i : Fin m, p v[i]) {n : Nat} {d : α}
    (h : n < m) : p (vecGet v n d) := by
  rw [vecGet_of_lt v d h]
  exact hv ⟨n, h⟩

/-- A written object of tables in range is in its range; a wear count has none. -/
theorem State.objItems_inRange {s : State} (h : s.tablesInRange) {k : ObjKind} (hp : k.permission ≠ .readOnly)
    (hk : k ≠ .wear) {n : Nat} (hn : n < k.copies) : k.inRange (s.objItems k n) := by
  obtain ⟨hlayout, hlanes, htiles, hexpands, hsetups, hcals, -, hgrads, -, hroute⟩ := h
  cases k with
  | layout => exact hlayout
  | lane => exact vecGet_forall hlanes hn
  | tile => exact vecGet_forall htiles hn
  | expand => exact vecGet_forall hexpands hn
  | headSetup => exact vecGet_forall hsetups hn
  | headCal => exact vecGet_forall hcals hn
  | grad => exact vecGet_forall hgrads hn
  | route => exact hroute
  | wear => exact absurd rfl hk
  | headCalActive | gradActive | defect | counters | status => exact absurd rfl hp

/-- Storing an object in its range keeps the tables in range. -/
theorem Tables.store_inRange {t : Tables} (h : t.inRange) (k : ObjKind) (n : Nat) {o : Items}
    (ho : k.permission ≠ .readOnly → k ≠ .wear → k.inRange o) : (t.store k n o).inRange := by
  obtain ⟨hlayout, hlanes, htiles, hexpands, hsetups, hcals, hactive, hgrads, hgactive, hroute⟩ := h
  cases k with
  | layout =>
    exact ⟨ho (by decide) (by decide), hlanes, htiles, hexpands, hsetups, hcals, hactive, hgrads, hgactive, hroute⟩
  | lane =>
    exact ⟨hlayout, vecSet_forall hlanes n (ho (by decide) (by decide)), htiles, hexpands, hsetups, hcals, hactive,
      hgrads, hgactive, hroute⟩
  | tile =>
    exact ⟨hlayout, hlanes, vecSet_forall htiles n (ho (by decide) (by decide)), hexpands, hsetups, hcals, hactive,
      hgrads, hgactive, hroute⟩
  | expand =>
    exact ⟨hlayout, hlanes, htiles, vecSet_forall hexpands n (ho (by decide) (by decide)), hsetups, hcals, hactive,
      hgrads, hgactive, hroute⟩
  | headSetup =>
    exact ⟨hlayout, hlanes, htiles, hexpands, vecSet_forall hsetups n (ho (by decide) (by decide)), hcals, hactive,
      hgrads, hgactive, hroute⟩
  | headCal =>
    exact ⟨hlayout, hlanes, htiles, hexpands, hsetups, vecSet_forall hcals n (ho (by decide) (by decide)), hactive,
      hgrads, hgactive, hroute⟩
  | grad =>
    exact ⟨hlayout, hlanes, htiles, hexpands, hsetups, hcals, hactive, vecSet_forall hgrads n (ho (by decide) (by decide)),
      hgactive, hroute⟩
  | route =>
    exact ⟨hlayout, hlanes, htiles, hexpands, hsetups, hcals, hactive, hgrads, hgactive, ho (by decide) (by decide)⟩
  | wear | headCalActive | gradActive | defect | counters | status =>
    exact ⟨hlayout, hlanes, htiles, hexpands, hsetups, hcals, hactive, hgrads, hgactive, hroute⟩

/-- Copying shadows in range keeps the tables in range. -/
theorem Tables.copyShadows_inRange {t : Tables} (h : t.inRange) (g c : BitVec 8) : (t.copyShadows g c).inRange := by
  obtain ⟨hlayout, hlanes, htiles, hexpands, hsetups, hcals, hactive, hgrads, hgactive, hroute⟩ := h
  refine ⟨hlayout, hlanes, htiles, hexpands, hsetups, hcals, fun n => ?_, hgrads, fun n => ?_, hroute⟩
  · simp only [Tables.copyShadows, Fin.getElem_fin, Vector.getElem_ofFn]
    split
    · exact hcals n
    · exact hactive n
  · simp only [Tables.copyShadows, Fin.getElem_fin, Vector.getElem_ofFn]
    split
    · exact hgrads n
    · exact hgactive n

/-- A write that passes the tests keeps the tables in range. -/
theorem State.write_inRange {s : State} {kind copy : Byte} {start : Nat} {items : Items} {k : ObjKind}
    (hw : s.writeTests kind copy start items = .ok k) (h : s.tablesInRange) :
    (s.tlm.store k copy.toNat (writeItems k (s.objItems k copy.toNat) start (withinObject k start items)).items).inRange := by
  obtain ⟨-, hn, -, -, -, href⟩ := State.writeTests_eq_ok hw
  obtain ⟨-, hsel⟩ := State.writeRefusal_eq_none href
  refine Tables.store_inRange h k _ fun hp hk => ?_
  have hold := State.objItems_inRange h hp hk hn
  exact WriteStores.inRange hold hsel (writeStores_writeItems hold start items)

/-- An object of one numeric rule whose items all lie in its range, with no field judged beside its items. -/
theorem ObjKind.inRange_of_num {k : ObjKind} {o : Items} {lo hi : Nat} (hrule : ∀ i < k.length, k.rule i = .num lo hi)
    (hwide : k.wideField = none) (hord : k.ordered = none) (hlen : o.length = k.length)
    (hmem : ∀ i < k.length, lo ≤ (o.getD i 0).toNat ∧ (o.getD i 0).toNat ≤ hi) : k.inRange o := by
  refine ⟨hlen, fun i hi => ?_, by simp [hwide], by simp [hord]⟩
  rw [hlen] at hi
  rw [hrule i hi]
  exact .inl (ItemRule.holds_num (hmem i hi).1 (hmem i hi).2)

/-- The expansion tables of power-on are in range. -/
theorem expandReset_inRange : ObjKind.expand.inRange Tables.expandReset := by
  refine ObjKind.inRange_of_num (lo := 0) (hi := 1023) (fun i hi => ?_) rfl rfl (by simp [Tables.expandReset, ObjKind.length])
    fun i hi => ?_
  · exact List.getD_replicate _ hi
  · have h : i < 256 := hi
    simp [Tables.expandReset, List.getD_eq_getElem?_getD, h]
    omega

/-- The gradation tables of power-on are in range. -/
theorem gradReset_inRange : ObjKind.grad.inRange Tables.gradReset := by
  refine ObjKind.inRange_of_num (lo := 0) (hi := 4095) (fun i hi => ?_) rfl rfl (by simp [Tables.gradReset, ObjKind.length])
    fun i hi => ?_
  · exact List.getD_replicate _ hi
  · have h : i < 257 := hi
    simp [Tables.gradReset, List.getD_eq_getElem?_getD, h]
    omega

/-- The tables of power-on are in range. -/
theorem Tables.reset_inRange : Tables.reset.inRange := by
  have hlayout : ObjKind.layout.inRange Tables.layoutReset :=
    ⟨rfl, by unfold ItemRule.holds; decide, by rintro _ _ _ ⟨⟩; decide, by rintro _ _ _ ⟨⟩; decide⟩
  have hlane : ObjKind.lane.inRange Tables.laneReset :=
    ⟨rfl, by unfold ItemRule.holds; decide, by rintro _ _ _ ⟨⟩, by rintro _ _ _ ⟨⟩⟩
  have htile : ObjKind.tile.inRange Tables.tileReset :=
    ⟨rfl, by unfold ItemRule.holds; decide, by rintro _ _ _ ⟨⟩, by rintro _ _ _ ⟨⟩⟩
  have hsetup : ObjKind.headSetup.inRange Tables.setupReset :=
    ⟨rfl, by unfold ItemRule.holds; decide, by rintro _ _ _ ⟨⟩, by rintro _ _ _ ⟨⟩⟩
  have hcal (h : Head) : ObjKind.headCal.inRange (Tables.calReset h) :=
    ⟨rfl, by unfold ItemRule.holds; revert h; decide, by rintro _ _ _ ⟨⟩; revert h; decide,
      by rintro _ _ _ ⟨⟩; revert h; decide⟩
  have hroute : ObjKind.route.inRange Tables.routeReset :=
    ⟨rfl, by unfold ItemRule.holds; decide, by rintro _ _ _ ⟨⟩, by rintro _ _ _ ⟨⟩⟩
  refine ⟨hlayout, fun n => ?_, fun n => ?_, fun n => ?_, fun n => ?_, fun n => ?_, fun n => ?_, fun n => ?_, fun n => ?_,
    hroute⟩
  · simpa [Tables.reset] using hlane
  · simpa [Tables.reset] using htile
  · simpa [Tables.reset] using expandReset_inRange
  · simpa [Tables.reset] using hsetup
  · simpa [Tables.reset] using hcal n
  · simpa [Tables.reset] using hcal n
  · simpa [Tables.reset] using gradReset_inRange
  · simpa [Tables.reset] using gradReset_inRange

/-! ## The two laws -/

/-- Every change of the tables keeps them in range. -/
theorem tablesInRange_law : TableLaw fun _ t => t.inRange where
  reset := Tables.reset_inRange
  copy _ _ g c h := Tables.copyShadows_inRange h g c
  job old new t _ h := by
    unfold Tables.afterJob
    split
    · exact Tables.copyShadows_inRange h _ _
    · exact h
  mark _ _ _ _ _ h := h
  wear _ _ _ h := h
  reading _ _ _ h := h
  write _ _ _ _ _ _ hw h := State.write_inRange hw h

/-- Storing an object leaves the commit-pending marks. -/
theorem Tables.store_pending (t : Tables) (k : ObjKind) (n : Nat) (o : Items) :
    (t.store k n o).gradPending = t.gradPending ∧ (t.store k n o).calPending = t.calPending := by
  cases k <;> exact ⟨rfl, rfl⟩

/-- Every change of the job state and the tables keeps commit-pending marks to jobs in motion: a job that leaves RUNNING and
HALTING has its pending objects copied, and a mark is set in those two alone. -/
theorem marksInMotion_law : TableLaw fun j t => j.inMotion = false → t.gradPending = 0 ∧ t.calPending = 0 where
  reset _ := ⟨rfl, rfl⟩
  copy j t g c h hj := by
    obtain ⟨hg, hc⟩ := h hj
    simp [Tables.copyShadows, hg, hc]
  job old new t hleave h hnew := by
    unfold Tables.afterJob
    by_cases hold : old.inMotion = true
    · have hended : new.ended = true := (hleave hold).resolve_left (by simp [hnew])
      simp [hold, hended, Tables.copyShadows]
    · simpa [hold] using h (by simpa using hold)
  mark j t g c hj _ hn := absurd hj (by simp [hn])
  wear _ _ _ h := h
  reading _ _ _ h := h
  write s _ _ _ _ _ _ h hj := by
    obtain ⟨hg, hc⟩ := Tables.store_pending s.tlm _ _ _
    rw [hg, hc]
    exact h hj

/-- Settles O59: both invariants are kept by every kind of change of the job state and the tables, so by every step. -/
theorem stepKeepsTablesInRange : Obligations.StepKeepsTablesInRange := by
  unfold Obligations.StepKeepsTablesInRange
  exact ⟨fun s t hs hstep => t.tablesInRange_iff.2 (tablesInRange_law.closed.step s t (s.tablesInRange_iff.1 hs) hstep),
    fun s t hs hstep => marksInMotion_law.closed.step s t hs hstep⟩

end Sys2Proof.Machine

/-! The rows that write the tables, and the JOB_ARM that reads them all: each on the state in which its owner takes the frame
(R11, R143, R155, R156, R67). -/

namespace Sys2Proof.Machine

/-! ## The state in which a frame is taken -/

/-- What `State.taken` leaves. -/
@[simp] theorem State.taken_keeps (s : State) (n : Nat) :
    (s.taken n).jcu = s.jcu ∧ (s.taken n).tlm = s.tlm ∧ (s.taken n).stu = s.stu ∧ (s.taken n).cca = s.cca ∧
    (s.taken n).cfu = s.cfu ∧ (s.taken n).heads = s.heads ∧ (s.taken n).pipes = s.pipes ∧ (s.taken n).ports = s.ports ∧
    (s.taken n).evr = s.evr ∧ (s.taken n).pending = s.pending ∧ (s.taken n).now = max s.now n := by
  unfold State.taken
  split <;> and_intros <;> rfl

/-- Arm validation reads the tables alone. -/
theorem State.armFailure_of_tlm {s t : State} (h : t.tlm = s.tlm) : t.armFailure = s.armFailure := by
  have hread (u : State) : u.armFailure = ({ State.reset with tlm := u.tlm } : State).armFailure := rfl
  rw [hread t, hread s, h]

/-- JOB_ARM in IDLE with a failed check: the outcome is noted and the reply INVALID queued (R11, R143). -/
theorem State.takeJobArm_failed {s : State} (tag : Byte) {r : ArmReason} {n : Nat} (hidle : s.jcu.state = .idle)
    (hfail : s.armFailure = some (r, n)) :
    s.takeJobArm tag = ({ s with jcu := { state := .idle, validation := .failed r n } }).queueReply
      { tag, kind := 0x04, code := 0x01, result := .invalid, mark := false, data := .invalid r n } := by
  rw [State.takeJobArm, if_pos hidle, hfail, ← hidle]
  rfl

/-- Settles O7: the frame is taken at once, and arm validation reads the tables, which the taking leaves. -/
theorem jobArmReportsFirstFailedCheck : Obligations.JobArmReportsFirstFailedCheck := by
  unfold Obligations.JobArmReportsFirstFailedCheck
  intro s tag tick reason object htakes hidle hfail
  have hexec : exec (.jobArm tag tick) s = .next ((s.taken tick).takeJobArm tag) :=
    congrArg Host.Outcome.next (State.present_of_takes s tick _ _ htakes)
  have hfail' : (s.taken tick).armFailure = some (reason, object) := by
    rw [State.armFailure_of_tlm (s := s) (by simp), hfail]
  rw [hexec, State.takeJobArm_failed tag (by simp [hidle]) hfail']

/-! ## A TABLE_WRITE that is taken at once -/

/-- The four rows of a TABLE_WRITE, on the state in which TLM takes the frame: three of them name their object kind. -/
theorem exec_tableWrite_of_takes {s : State} {tag kind copy : Byte} {start : Item} {items : Items} (tick : Nat)
    (h : s.takes (tableWriteFrame tag kind copy start items)) :
    let o := Host.Outcome.next (φ := Fault) (ρ := Refusal) ((s.taken tick).tableWrite tag kind copy start items)
    exec (.tableWrite tag kind copy start items tick) s = o ∧
    (kind = 0x03 → exec (.tileWrite tag copy start items tick) s = o) ∧
    (kind = 0x0A → exec (.wearWrite tag copy start items tick) s = o) ∧
    (kind = 0x0B → exec (.routeWrite tag copy start items tick) s = o) := by
  have hpresent := congrArg (Host.Outcome.next (φ := Fault) (ρ := Refusal))
    (State.present_of_takes s tick _ (fun u => u.tableWrite tag kind copy start items) h)
  exact ⟨hpresent, by rintro rfl; exact hpresent, by rintro rfl; exact hpresent, by rintro rfl; exact hpresent⟩

/-- The tests of a write read the job state, the tables and the slots. -/
theorem State.writeTests_of_same {s t : State} (hj : t.jcu = s.jcu) (ht : t.tlm = s.tlm) (hc : t.cca = s.cca)
    (kind copy : Byte) (start : Nat) (items : Items) :
    t.writeTests kind copy start items = s.writeTests kind copy start items := by
  have hread (u : State) : u.writeTests kind copy start items =
      ({ State.reset with jcu := u.jcu, tlm := u.tlm, cca := u.cca } : State).writeTests kind copy start items := rfl
  rw [hread t, hread s, hj, ht, hc]

/-! ## The tests in their order (R155) -/

/-- The tests on an object kind that exists: its copies, its length and the size of the run, then tests 3 to 7. -/
theorem State.writeTests_of_kind (s : State) {kind : Byte} {k : ObjKind} (hk : objOfCode kind = some k) (copy : Byte)
    (start : Nat) (items : Items) :
    (k.copies ≤ copy.toNat ∨ k.length ≤ start ∨ items = [] ∨ 512 < items.length →
      s.writeTests kind copy start items = .error .range) ∧
    (copy.toNat < k.copies → start < k.length → items ≠ [] → items.length ≤ 512 →
      ∀ r, s.writeRefusal k copy.toNat start items = some r → s.writeTests kind copy start items = .error r) := by
  unfold State.writeTests
  rw [hk]
  dsimp only
  constructor
  · intro h
    split
    · rfl
    · rw [if_pos]
      simpa using h.resolve_left ‹_›
  · intro hcopy hstart hne hlen r hr
    have hrun : ¬(k.length ≤ start ∨ items.length = 0 ∨ 512 < items.length) := by
      rw [List.length_eq_zero_iff]
      have := Nat.not_le.2 hstart
      have := Nat.not_lt.2 hlen
      tauto
    simp only [if_neg (Nat.not_le.2 hcopy), if_neg hrun, hr]

/-- An object pending commit is a shadow that a mark names (R155 test 5). -/
theorem State.commitPending_iff (s : State) (k : ObjKind) (n : Nat) :
    s.commitPending k n = true ↔
      (k = .grad ∧ s.tlm.gradPending.getLsbD n = true) ∨ (k = .headCal ∧ s.tlm.calPending.getLsbD n = true) := by
  cases k <;> simp [State.commitPending]

/-- An item that passes test 7 of R155 names one of the values of its select field: a replication factor, the sample width,
justify or fill mode of a tile, the trip mode of a head, the action of a routing entry. -/
theorem selectOk_names {k : ObjKind} {i : Nat} (hi : i < k.length) {w : Item} (h : selectOk (k.rule i) w = true) :
    (k = .lane → i = 5 ∨ i = 8 → w.toNat = 1 ∨ w.toNat = 2 ∨ w.toNat = 4) ∧
    (k = .tile → (i = 3 → w.toNat = 6 ∨ w.toNat = 8 ∨ w.toNat = 10) ∧ (i = 4 → w.toNat ≤ 1) ∧
      (i = 5 → w.toNat ≤ 3)) ∧
    (k = .headSetup → i = 3 → w.toNat ≤ 1) ∧ (k = .route → w.toNat / 256 ≤ 2) := by
  refine ⟨?_, ?_, ?_, ?_⟩
  · rintro rfl (rfl | rfl) <;> simpa [ObjKind.rule, ObjKind.rules, selectOk] using h
  · rintro rfl
    refine ⟨?_, ?_, ?_⟩ <;> rintro rfl <;> simp [ObjKind.rule, ObjKind.rules, selectOk] at h <;> omega
  · rintro rfl rfl
    simp [ObjKind.rule, ObjKind.rules, selectOk] at h
    omega
  · rintro rfl
    rw [show ObjKind.route.rule i = .route from List.getD_replicate _ hi] at h
    exact of_decide_eq_true h

/-- Settles O25: each test, where those before it pass, decides the reply of all four rows. -/
theorem tableWriteTestsInOrder : Obligations.TableWriteTestsInOrder := by
  unfold Obligations.TableWriteTestsInOrder
  intro s tag kind copy start items tick htakes refused busy named
  have hrefused (r : Result) (h : s.writeTests kind copy start.toNat items = .error r) : refused r := by
    have hw : (s.taken tick).tableWrite tag kind copy start items = (s.taken tick).queueReply (writeReply tag r false 0) := by
      rw [State.tableWrite, State.writeTests_of_same (s := s) (by simp) (by simp) (by simp), h]
    have hrows := exec_tableWrite_of_takes tick htakes
    rwa [hw] at hrows
  refine ⟨fun hk => hrefused _ (by rw [State.writeTests, hk]), fun k hk => ?_⟩
  obtain ⟨hrange, htests⟩ := s.writeTests_of_kind hk copy start.toNat items
  refine ⟨fun h => hrefused _ (hrange h), fun hcopy hstart hne hlen => ?_⟩
  have hlate (r : Result) (h : s.writeRefusal k copy.toNat start.toNat items = some r) : refused r :=
    hrefused r (htests hcopy hstart hne hlen r h)
  obtain ⟨hro, hidle, hlater⟩ := s.writeRefusal_cases k copy.toNat start.toNat items
  have hbusy_iff : busy k ↔ s.commitPending k copy.toNat = true ∨
      (k = .tile ∧ s.tileBusy (Fin.ofNat 32 copy.toNat) = true) := by
    rw [s.commitPending_iff, or_assoc]
  refine ⟨fun h => hlate _ (hro h), fun h hj => hlate _ (hidle h hj), fun hp hj => ?_⟩
  obtain ⟨hbusy, hselect⟩ := hlater hp hj
  refine ⟨fun h => hlate _ (hbusy (hbusy_iff.1 h)), fun hnb => ?_⟩
  rintro ⟨i, hi, hik, hnot⟩
  refine hlate _ (hselect (fun h => hnb (hbusy_iff.2 h)) ?_)
  by_contra hok
  have hall := (selectsOk_iff k _ _).1 (by simpa using hok) i (by rw [withinObject_length]; omega)
  rw [withinObject_getD _ _ _ hik] at hall
  exact hnot (selectOk_names hik hall)

/-! ## A TABLE_WRITE that passes the tests (R156) -/

/-- A written object is read from the tables alone. -/
theorem State.objItems_of_tlm {s t : State} (h : t.tlm = s.tlm) {k : ObjKind} (hp : k.permission ≠ .readOnly) (n : Nat) :
    t.objItems k n = s.objItems k n := by
  cases k with
  | layout | lane | tile | expand | headSetup | headCal | grad | wear | route => simp only [State.objItems, h]
  | headCalActive | gradActive | defect | counters | status => exact absurd rfl hp

/-- A taken write from an index within the object: the items stored, the effect of the object kind, and the reply. -/
theorem State.storeWrite_eq (s : State) (tag : Byte) (k : ObjKind) (n : Nat) {start : Nat} (items : Items)
    (h : start < k.length) :
    let w := writeItems k (s.objItems k n) start (withinObject k start items)
    s.storeWrite tag k n start items =
      (({ s with tlm := s.tlm.store k n w.items }).writeEffect k n start (withinObject k start items).length).queueReply
        (takenReply tag k start items w.changed) := by
  have hpast : (min items.length (k.length - start) < items.length) = (k.length < start + items.length) :=
    propext (by omega)
  simp only [State.storeWrite, takenReply, writeReply, writeResult, withinObject_length, hpast, decide_eq_true_eq]

/-- A write of tables in range that passes the tests, taken at once, whichever row it is: the object stored, and the state
after its effect and reply. -/
theorem tableWrite_taken {s : State} (tag : Byte) {kind copy : Byte} {k : ObjKind} {start : Item} {items : Items}
    (tick : Nat) (hr : s.tablesInRange) (hk : k ≠ .wear) (hw : s.writeTests kind copy start.toNat items = .ok k) :
    ∃ (o : Items) (changed : Bool), WriteStores k (s.objItems k copy.toNat) start.toNat items o changed ∧
      (s.taken tick).tableWrite tag kind copy start items =
        (({ s.taken tick with tlm := s.tlm.store k copy.toNat o }).writeEffect k copy.toNat start.toNat
          (withinObject k start.toNat items).length).queueReply (takenReply tag k start.toNat items changed) := by
  obtain ⟨-, hn, hstart, -, -, href⟩ := State.writeTests_eq_ok hw
  obtain ⟨hp, -⟩ := State.writeRefusal_eq_none href
  refine ⟨_, _, writeStores_writeItems (State.objItems_inRange hr hp hk hn) start.toNat items, ?_⟩
  rw [State.tableWrite, State.writeTests_of_same (s := s) (by simp) (by simp) (by simp), hw]
  dsimp only
  rw [State.storeWrite_eq _ _ _ _ _ hstart, State.objItems_of_tlm (s := s) (by simp) hp, (s.taken_keeps tick).2.1]

/-- Settles O26: of these kinds a taken write has no effect beside the items it stores. -/
theorem tableWriteStoresRun : Obligations.TableWriteStoresRun := by
  unfold Obligations.TableWriteStoresRun
  intro s tag kind copy k start items tick htakes hr hk hw
  have hwear : k ≠ .wear := by rintro rfl; simp at hk
  obtain ⟨o, changed, hstores, htaken⟩ := tableWrite_taken tag tick hr hwear hw
  refine ⟨o, changed, hstores, ?_⟩
  rw [(exec_tableWrite_of_takes tick htakes).1, htaken]
  obtain rfl | rfl | rfl | rfl | rfl | rfl := hk <;> rfl

/-! ## A TILE write (R67) -/

/-- A slot after a write to tile `t`: a RESIDENT slot of the tile is EMPTY. -/
def tileSlot (t : Fin 32) (sl : Slot) : Slot :=
  if sl.state == SlotState.resident && sl.key.any (fun (k : Key) => k.tile == t) then Slot.empty else sl

/-- Emptying one slot of a tile changes that slot alone. -/
theorem State.emptyTileSlot_eq (t : Fin 32) (s : State) (n : Fin 64) :
    State.emptyTileSlot t s n =
      { s with cca := { s.cca with slots := s.cca.slots.set n (tileSlot t s.cca.slots[n]) } } := by
  unfold State.emptyTileSlot tileSlot
  by_cases h : s.cca.slots[n].state = .resident ∧ s.cca.slots[n].key.any (·.tile == t) = true
  · rw [if_pos h, if_pos (by simpa using h)]
    rfl
  · rw [if_neg h, if_neg (by simpa using h)]
    simp

/-- A vector with one element changed. -/
def changeAt {α : Type} {m : Nat} (f : α → α) (v : Vector α m) (n : Fin m) : Vector α m := v.set n (f v[n])

/-- Emptying the slots of a list, as a change of the slots. -/
theorem State.foldl_emptyTileSlot_eq (t : Fin 32) (ns : List (Fin 64)) : ∀ s : State,
    ns.foldl (State.emptyTileSlot t) s =
      { s with cca := { s.cca with slots := ns.foldl (changeAt (tileSlot t)) s.cca.slots } } := by
  induction ns with
  | nil => intro s; rfl
  | cons n ns ih => intro s; rw [List.foldl_cons, ih, State.emptyTileSlot_eq]; rfl

/-- Changing once each element that a list names changes those elements. -/
theorem foldl_changeAt_getElem {α : Type} {m : Nat} (f : α → α) (ns : List (Fin m)) (hn : ns.Nodup) (v : Vector α m)
    (i : Fin m) : (ns.foldl (changeAt f) v)[i] = if i ∈ ns then f v[i] else v[i] := by
  induction ns generalizing v with
  | nil => simp
  | cons n ns ih =>
    obtain ⟨hnot, hns⟩ := List.nodup_cons.1 hn
    rw [List.foldl_cons, ih hns]
    by_cases hi : i = n
    · subst hi
      simp [hnot, changeAt]
    · have hval : ¬ n.val = i.val := fun h => hi (Fin.ext h.symm)
      simp [hi, changeAt, hval]

/-- A taken TILE write empties the RESIDENT slots of the tile and changes nothing else. -/
theorem State.emptyTile_eq (s : State) (t : Fin 32) :
    s.emptyTile t = { s with cca := { s.cca with slots := s.cca.slots.map (tileSlot t) } } := by
  have hslots : slotOrder.foldl (changeAt (tileSlot t)) s.cca.slots = s.cca.slots.map (tileSlot t) := by
    ext1 i hi
    have h := foldl_changeAt_getElem (tileSlot t) slotOrder (List.nodup_finRange 64) s.cca.slots ⟨i, hi⟩
    rw [if_pos (show _ ∈ slotOrder from List.mem_finRange _)] at h
    simpa using h
  rw [State.emptyTile, State.foldl_emptyTileSlot_eq, hslots]

/-- Settles O27: a write that passes the tests has the effect of its kind on the slots, and test 6 refuses one to a busy
tile. -/
theorem tileWriteEmptiesTile : Obligations.TileWriteEmptiesTile := by
  unfold Obligations.TileWriteEmptiesTile
  intro s tag copy n start items tick hcopy htakes hr hidle hstart hne hlen
  have htile : (Fin.ofNat 32 copy.toNat) = n := by rw [hcopy]; exact Fin.ofNat_val_eq_self n
  have hrow := (exec_tableWrite_of_takes tick htakes).2.1 rfl
  refine ⟨fun _ hw => ?_, fun hbusy => ?_⟩
  · obtain ⟨o, changed, hstores, htaken⟩ := tableWrite_taken tag tick hr (by decide) hw
    have hobj : s.objItems .tile copy.toNat = s.tlm.tiles[n] := by
      rw [hcopy]; exact vecGet_of_lt _ _ n.isLt
    have hstore : s.tlm.store .tile copy.toNat o = { s.tlm with tiles := s.tlm.tiles.set n o } := by
      simp [Tables.store, vecSet, hcopy]
    refine ⟨o, changed, hobj ▸ hstores, ?_⟩
    rw [hrow, htaken, hstore, State.writeEffect, htile, State.emptyTile_eq]
    simp only [(s.taken_keeps tick).2.2.2.1]
    rfl
  · obtain ⟨-, htests⟩ := s.writeTests_of_kind (kind := 0x03) rfl copy start.toNat items
    obtain ⟨-, -, hlater⟩ := s.writeRefusal_cases .tile copy.toNat start.toNat items
    have hrefusal := (hlater (by decide) fun _ => hidle).1 (.inr ⟨rfl, by rw [htile]; exact hbusy⟩)
    have hw := htests (by rw [hcopy]; exact n.isLt) hstart hne hlen _ hrefusal
    rw [hrow, State.tableWrite, State.writeTests_of_same (s := s) (by simp) (by simp) (by simp), hw]
    rfl

end Sys2Proof.Machine

/-! A cell strobe at one head: what the other heads leave of it, and what the head's own port, pipeline, channel and wear count
become (R25, R26, R37 to R43, R115, R131, R140). -/

namespace Sys2Proof.Machine

/-! ## Events without routing actions -/

/-- The routing actions are read from the routing entries alone. -/
theorem State.noActions_of_route {s t : State} (h : t.tlm.route = s.tlm.route) (hs : s.noActions) : t.noActions := by
  intro k
  have hk := hs k
  unfold State.routeAction at hk ⊢
  rwa [h]

/-- With no routing action an occurrence leaves no action due. -/
theorem State.raise_due {s : State} (hs : s.noActions) (k : EventKind) (d : Word32) (m : BitVec 8) :
    (s.raise k d m).evr.due = s.evr.due := by
  unfold State.raise
  rw [if_pos (hs k)]
  simp

/-- A part of an event that leaves no action due is that part alone. -/
theorem State.within_of_no_due (s : State) (f : State → State) (h : (f (s.setDue [])).evr.due = []) :
    s.within f = (f (s.setDue [])).setDue s.evr.due := by
  simp only [State.within, h]
  rfl

/-! ## One head among the eight -/

/-- Where every head but one keeps what a relation says, the head takes its part in a state so related to the first, and the
last state is so related to the one it leaves. -/
theorem State.eachHead_at {R : State → State → Prop} (hrefl : ∀ t, R t t) (htrans : ∀ t u v, R t u → R u v → R t v)
    (f : Head → State → State) (h : Head) (hf : ∀ g ≠ h, ∀ t, R t (f g t)) (s : State) :
    ∃ u, R s u ∧ R (f h u) (s.eachHead f) := by
  have hothers (gs : List Head) (hg : h ∉ gs) : ∀ t, R t (gs.foldl (fun t g => f g t) t) := by
    induction gs with
    | nil => exact hrefl
    | cons g gs ih =>
      intro t
      obtain ⟨hne, hrest⟩ : h ≠ g ∧ h ∉ gs := by simpa using hg
      exact htrans _ _ _ (hf g (Ne.symm hne) t) (ih hrest _)
  have hall : ∀ g : Head, g ∈ headOrder := by decide
  obtain ⟨before, after, horder⟩ := List.append_of_mem (hall h)
  have hnodup : (before ++ h :: after).Nodup := by rw [← horder]; decide
  obtain ⟨-, hafter, hdisj⟩ := List.nodup_append.1 hnodup
  refine ⟨before.foldl (fun t g => f g t) s, hothers _ (fun hm => hdisj h hm h (by simp) rfl) _, ?_⟩
  rw [State.eachHead, horder, List.foldl_append, List.foldl_cons]
  exact hothers _ (List.nodup_cons.1 hafter).1 _

/-- The tables but for the wear counts. -/
def Tables.withoutWear (t : Tables) : Tables := { t with wear := Tables.reset.wear }

/-- What a strobe reads and writes for head `h` is the same in two states. -/
structure State.SameFor (h : Head) (s t : State) : Prop where
  port : t.ports[h] = s.ports[h]
  head : t.heads[h] = s.heads[h]
  pipe : t.pipes[h] = s.pipes[h]
  wear : t.tlm.wear[h] = s.tlm.wear[h]
  tables : t.tlm.withoutWear = s.tlm.withoutWear
  cca : t.cca = s.cca
  now : t.now = s.now

/-- The cell of head `h` computed from the tables, the cache, the latched wear term and the FAULT level alone. -/
def cellOf (h : Head) (r : TrackRecord) (c : Nat) (t : Tables) (cache : Cache) (wearTerm : Option Nat) (fault : Bool) :
    CellResult :=
  let s : State := { State.reset with tlm := t, cca := cache }
  let cal := t.calsActive[h]
  cellOfDepth cal (wearTerm.getD 0) (depthOfTone cal t.gradsActive[calGradation cal] (s.toneOfCell r c))
    (s.perCell h && fault)

/-- What the computation of a cell reads of a state; the wear counts are not among it, but the term latched of them. -/
theorem State.computeCell_eq (s : State) (h : Head) (r : TrackRecord) (c : Nat) :
    s.computeCell h r c = cellOf h r c s.tlm.withoutWear s.cca s.pipes[h].wearTerm s.ports[h].fault := rfl

namespace State.SameFor

variable {h : Head} {s t u : State}

theorem refl (s : State) : SameFor h s s := ⟨rfl, rfl, rfl, rfl, rfl, rfl, rfl⟩

theorem trans (hst : SameFor h s t) (htu : SameFor h t u) : SameFor h s u :=
  ⟨htu.port.trans hst.port, htu.head.trans hst.head, htu.pipe.trans hst.pipe, htu.wear.trans hst.wear,
    htu.tables.trans hst.tables, htu.cca.trans hst.cca, htu.now.trans hst.now⟩

/-- The list of actions due is nothing that a strobe reads. -/
theorem setDue (s : State) (d : List DueAction) : SameFor h s (s.setDue d) := ⟨rfl, rfl, rfl, rfl, rfl, rfl, rfl⟩

/-- The active calibration, the step window and the range of the head are the same. -/
theorem fields (hst : SameFor h s t) :
    t.tlm.calsActive = s.tlm.calsActive ∧ t.windowCell = s.windowCell ∧ t.lastTrack h = s.lastTrack h := by
  have hlayout := congrArg Tables.layout hst.tables
  have hsetups := congrArg Tables.setups hst.tables
  have hcals := congrArg Tables.calsActive hst.tables
  simp only [Tables.withoutWear] at hlayout hsetups hcals
  simp only [State.windowCell, State.cells, State.window, State.lastTrack, hlayout, hsetups, hcals, and_self]

/-- The computed cell of the head is the same. -/
theorem computeCell (hst : SameFor h s t) (r : TrackRecord) (c : Nat) : t.computeCell h r c = s.computeCell h r c := by
  rw [State.computeCell_eq t, State.computeCell_eq s, hst.port, hst.pipe, hst.tables, hst.cca]

end State.SameFor

/-! ## The strobe at the other heads -/

/-- A strobe at a head leaves the ports, channels and pipelines of the others. -/
theorem State.strobeHead_other {g h : Head} (hne : g ≠ h) (ph : Phase) (c : Nat) (s : State) :
    (State.strobeHead ph c g s).ports[h] = s.ports[h] ∧ (State.strobeHead ph c g s).heads[h] = s.heads[h] ∧
    (State.strobeHead ph c g s).pipes[h] = s.pipes[h] := by
  have hval : g.val ≠ h.val := fun he => hne (Fin.ext he)
  have hcell (r) : (s.strobeCell g ph r c).ports[h] = s.ports[h] ∧ (s.strobeCell g ph r c).heads[h] = s.heads[h] ∧
      (s.strobeCell g ph r c).pipes[h] = s.pipes[h] := by
    unfold State.strobeCell
    split
    · simp [hval]
    · simp [State.suppressCell, hval]
    · dsimp only
      split <;> simp [State.engraveCell, State.saturateCell, hval]
  unfold State.strobeHead
  split
  · exact ⟨rfl, rfl, rfl⟩
  · split
    · unfold State.strobeEngaged
      split
      · simp [hval]
      · split
        · exact hcell _
        · dsimp only
          split
          · unfold State.windowStart
            split <;> simp [hval]
          · simp [hval]
    · simp [hval]

/-- What a strobe at another head leaves of a head. -/
theorem State.strobeHead_sameFor {g h : Head} (hne : g ≠ h) (ph : Phase) (c : Nat) (s : State) :
    State.SameFor h s (State.strobeHead ph c g s) := by
  have hval : g.val ≠ h.val := fun he => hne (Fin.ext he)
  obtain ⟨hport, hhead, hpipe⟩ := State.strobeHead_other hne ph c s
  obtain ⟨w, hw⟩ := State.strobeHead_tlm ph c g s
  refine ⟨hport, hhead, hpipe, ?_, ?_, by simp, by simp⟩
  · rw [hw]
    simp [hval]
  · rw [hw]
    rfl

/-- With no routing action a strobe at a head leaves no action due. -/
theorem State.strobeHead_due {s : State} (hs : s.noActions) (ph : Phase) (c : Nat) (g : Head) :
    (State.strobeHead ph c g s).evr.due = s.evr.due := by
  have hraise (t : State) (ht : t.tlm.route = s.tlm.route) (k d m) : (t.raise k d m).evr.due = t.evr.due :=
    State.raise_due (State.noActions_of_route ht hs) k d m
  have hcell (r) : (s.strobeCell g ph r c).evr.due = s.evr.due := by
    unfold State.strobeCell
    split
    · simp
    · rw [State.suppressCell, State.raiseHead, hraise _ (by simp)]
      simp
    · dsimp only
      split
      · simp
      · rw [State.saturateCell, State.raiseHead, hraise _ (by simp [State.engraveCell])]
        simp
  unfold State.strobeHead
  split
  · rfl
  · split
    · unfold State.strobeEngaged
      split
      · simp
      · split
        · exact hcell _
        · dsimp only
          split <;> simp
    · simp

/-! ## The strobe at the head itself -/

/-- A strobe of its phase at an engaged head. -/
theorem State.strobeHead_engaged {s : State} {ph : Phase} {h : Head} (hph : s.ports[h].phase = ph)
    (hst : s.heads[h].state.engaged = true) (c : Nat) : State.strobeHead ph c h s = s.strobeEngaged h ph c := by
  have hidle : ¬(s.ports[h].phase ≠ ph ∨ s.heads[h].state = .idle) := by
    rintro (hp | hi)
    · exact hp hph
    · rw [hi] at hst; cases hst
  rw [State.strobeHead, if_neg hidle, if_pos hst]

/-- A strobe in the step window at an engaged head: one pulse with the rest word, and at the first cell of the window the step
of a track that is not the last. -/
theorem State.strobeHead_window {s : State} {ph : Phase} {h : Head} {r : TrackRecord} {c : Nat}
    (hph : s.ports[h].phase = ph) (hst : s.heads[h].state.engaged = true) (hr : s.heads[h].activeRecord = some r)
    (hc : s.windowCell ≤ c) :
    let t := State.strobeHead ph c h s
    let first := c = s.windowCell ∧ r.track < s.lastTrack h
    t.ports[h] =
      { s.ports[h] with
        word := s.restWord h ph c
        loads := s.ports[h].loads + 1
        loadTick := some s.now
        step := if first then true else s.ports[h].step } ∧
    t.heads[h] = (if first then { s.heads[h] with nextTrack := r.track + 1, positioned := false } else s.heads[h]) ∧
    t.pipes[h] = s.pipes[h] ∧ t.tlm.wear[h] = s.tlm.wear[h] := by
  have hlast (w) : (s.deliver h w).lastTrack h = s.lastTrack h := rfl
  dsimp only
  rw [State.strobeHead_engaged hph hst, State.strobeEngaged, hr]
  dsimp only
  rw [if_neg (Nat.not_lt.2 hc)]
  by_cases hfirst : c = s.windowCell
  · by_cases htrack : r.track < s.lastTrack h
    · simp [State.windowStart, hlast, hfirst, htrack]
    · simp [State.windowStart, hlast, hfirst, htrack]
  · simp [hfirst]

/-- A strobe before the step window at an engaged head is that of the computed cell. -/
theorem State.strobeHead_computed {s : State} {ph : Phase} {h : Head} {r : TrackRecord} {c : Nat}
    (hph : s.ports[h].phase = ph) (hst : s.heads[h].state.engaged = true) (hr : s.heads[h].activeRecord = some r)
    (hc : c < s.windowCell) : State.strobeHead ph c h s = s.strobeCell h ph r c := by
  rw [State.strobeHead_engaged hph hst, State.strobeEngaged, hr]
  exact if_pos hc

/-- The strobe of a no-cell: one pulse with the rest word (R37, R41). -/
theorem State.strobeCell_noCell {s : State} {h : Head} {r : TrackRecord} {c : Nat} (ph : Phase)
    (hcell : s.computeCell h r c = .noCell) :
    let t := s.strobeCell h ph r c
    t.ports[h] = { s.ports[h] with
      word := s.restWord h ph c, loads := s.ports[h].loads + 1, loadTick := some s.now } ∧
    t.heads[h] = s.heads[h] ∧ t.pipes[h] = s.pipes[h] ∧ t.tlm.wear[h] = s.tlm.wear[h] := by
  simp [State.strobeCell, hcell]

/-- The strobe of a suppressed cell: one pulse with the rest word, counted, and the track marked (R43). -/
theorem State.strobeCell_suppressed {s : State} {h : Head} {r : TrackRecord} {c : Nat} (ph : Phase)
    (hcell : s.computeCell h r c = .suppressed) :
    let t := s.strobeCell h ph r c
    t.ports[h] = { s.ports[h] with
      word := s.restWord h ph c, loads := s.ports[h].loads + 1, loadTick := some s.now } ∧
    t.heads[h] = { s.heads[h] with queue := markSuppressed s.heads[h].queue } ∧
    t.pipes[h] = { s.pipes[h] with suppressed := satInc s.pipes[h].suppressed } ∧ t.tlm.wear[h] = s.tlm.wear[h] := by
  simp [State.strobeCell, hcell, State.suppressCell]

/-- The strobe of an engraved cell: one pulse with its word, the wear count and the cells-engraved counter advanced, and the
saturations where a limit set the drive code (R40, R41). -/
theorem State.strobeCell_engraved {s : State} {h : Head} {r : TrackRecord} {c code : Nat} {limit : Option Bool} (ph : Phase)
    (hcell : s.computeCell h r c = .engraved code limit) :
    let t := s.strobeCell h ph r c
    t.ports[h] = { s.ports[h] with
      word := s.engravedWord h ph c code, loads := s.ports[h].loads + 1, loadTick := some s.now } ∧
    t.heads[h] = s.heads[h] ∧
    t.pipes[h] = { s.pipes[h] with
      engraved := satInc s.pipes[h].engraved
      saturations := if limit.isSome then satInc s.pipes[h].saturations else s.pipes[h].saturations } ∧
    t.tlm.wear[h] = satInc s.tlm.wear[h] := by
  cases limit with
  | none => simp [State.strobeCell, hcell, State.engraveCell]
  | some high => simp [State.strobeCell, hcell, State.engraveCell, State.saturateCell]

/-- The rest word of a head with a track in progress: FIRST is set at cell 0 (R131). -/
theorem State.restWord_of_active {s : State} {h : Head} {r : TrackRecord} (hr : s.heads[h].activeRecord = some r)
    (ph : Phase) (c : Nat) : s.restWord h ph c = cellWord (calRest s.tlm.calsActive[h]) false ph (c == 0) := by
  simp only [State.restWord, State.firstMark, hr, Option.isSome_some, Bool.and_true]

/-- The word of an engraved cell of a head with a track in progress (R131). -/
theorem State.engravedWord_of_active {s : State} {h : Head} {r : TrackRecord} (hr : s.heads[h].activeRecord = some r)
    (ph : Phase) (c code : Nat) : s.engravedWord h ph c code = cellWord code true ph (c == 0) := by
  simp only [State.engravedWord, State.firstMark, hr, Option.isSome_some, Bool.and_true]

/-- Marking the queue of a head with a track in progress marks that track's record. -/
theorem markSuppressed_head {q : Channel} {r : TrackRecord} (hr : q.activeRecord = some r) :
    ((markSuppressed q.queue).head?).map TrackRecord.suppressed = some true := by
  cases hq : q.queue with
  | nil => simp [Channel.activeRecord, hq] at hr
  | cons r rs => rfl

/-! ## The strobe as a command -/

/-- With no routing action, a strobe that is due reaches head `h` in a state that is for it that of the command, and what it
makes of the head stands at the end. -/
theorem cellStrobe_reaches {s : State} {ph : Phase} {r : Revolution} {tick : Nat} (h : Head) (hrev : s.stu.rev = some r)
    (hpos : r.pos ph < r.cells) (hdue : r.due ph (r.pos ph) ≤ max s.now tick) (hno : s.noActions) :
    ∃ u t, exec (.cellStrobe ph tick) s = .next t ∧ State.SameFor h (s.at tick) u ∧
      State.SameFor h (State.strobeHead ph (r.pos ph) h u) t := by
  have hdueRev : (s.at tick).dueRevolution ph = some r := by
    simp only [State.dueRevolution, State.at_keeps, hrev, State.at_now]
    exact if_pos ⟨hpos, hdue⟩
  generalize hs1 : ({ s.at tick with stu := { s.stu with rev := some (r.advance ph) } } : State) = s1
  have hexec : exec (.cellStrobe ph tick) s =
      .next (s1.within fun u => u.eachHead (State.strobeHead ph (r.pos ph))) := by
    rw [← hs1, show exec (.cellStrobe ph tick) s = .next ((s.at tick).cellStrobe ph) from rfl, State.cellStrobe, hdueRev]
    rfl
  have hnone : ((s1.setDue []).eachHead (State.strobeHead ph (r.pos ph))).noActions ∧
      ((s1.setDue []).eachHead (State.strobeHead ph (r.pos ph))).evr.due = [] := by
    refine State.eachHead_inv (P := fun t => t.noActions ∧ t.evr.due = []) _ _ (fun g t ht => ?_) ⟨?_, rfl⟩
    · obtain ⟨w, hw⟩ := State.strobeHead_tlm ph (r.pos ph) g t
      exact ⟨State.noActions_of_route (by rw [hw]) ht.1, (State.strobeHead_due ht.1 ph _ g).trans ht.2⟩
    · exact State.noActions_of_route (by subst hs1; rfl) hno
  obtain ⟨u, hu, ht⟩ := State.eachHead_at State.SameFor.refl (fun _ _ _ => State.SameFor.trans)
    (State.strobeHead ph (r.pos ph)) h (fun g hg t => State.strobeHead_sameFor hg ph _ t) (s1.setDue [])
  rw [State.within_of_no_due s1 (fun v => v.eachHead (State.strobeHead ph (r.pos ph))) hnone.2] at hexec
  have hstart : State.SameFor h (s.at tick) s1 := by
    subst hs1
    exact ⟨rfl, rfl, rfl, rfl, rfl, rfl, rfl⟩
  exact ⟨u, _, hexec, (hstart.trans (State.SameFor.setDue s1 [])).trans hu, ht.trans (State.SameFor.setDue _ _)⟩

/-- Settles O47: the strobe reaches the head as in the state of the command, and there the step window or the result of the
computed cell says what is delivered and counted. -/
theorem strobeDeliversCell : Obligations.StrobeDeliversCell := by
  unfold Obligations.StrobeDeliversCell
  intro s ph h rec r tick hrev hpos hdue hno hph hst hrec c rest
  obtain ⟨u, t, hexec, hu, ht⟩ := cellStrobe_reaches h hrev hpos hdue hno
  obtain ⟨hcals, hwindow, hlast⟩ := hu.fields
  have huph : u.ports[h].phase = ph := by rw [hu.port]; exact hph
  have huhead : u.heads[h] = s.heads[h] := hu.head
  have hust : u.heads[h].state.engaged = true := by
    rw [huhead]
    rcases hst with hst | hst <;> rw [hst] <;> rfl
  have hurec : u.heads[h].activeRecord = some rec := by rw [huhead, hrec]
  have hrest : u.restWord h ph c = rest := by rw [State.restWord_of_active hurec, hcals]; rfl
  have hcell : u.computeCell h rec c = s.computeCell h rec c := hu.computeCell rec c
  refine ⟨t, hexec, ?_⟩
  rw [ht.port, ht.head, ht.pipe, ht.wear]
  by_cases hc : s.cells - s.window ≤ c
  · obtain ⟨hport, hhead, hpipe, hwear⟩ := State.strobeHead_window huph hust hurec (c := c) (by rw [hwindow]; exact hc)
    rw [hport, hhead, hpipe, hwear, hu.port, hu.head, hu.pipe, hu.wear, hu.now, hwindow, hlast, hrest]
    refine ⟨rfl, rfl, fun _ => ⟨rfl, rfl, rfl, ?_⟩, fun hlt => absurd hc (Nat.not_le.2 hlt)⟩
    have hwc : (s.at tick).windowCell = s.cells - s.window := rfl
    have hlt : (s.at tick).lastTrack h = s.lastTrack h := rfl
    rw [hwc, hlt]
    by_cases hfirst : c = s.cells - s.window ∧ rec.track < s.lastTrack h
    · rw [if_pos hfirst, if_pos hfirst, if_pos hfirst]
      exact ⟨rfl, rfl⟩
    · rw [if_neg hfirst, if_neg hfirst, if_neg hfirst]
      exact ⟨rfl, rfl⟩
  · rw [State.strobeHead_computed huph hust hurec (by rw [hwindow]; exact Nat.not_le.1 hc)]
    cases hres : s.computeCell h rec c with
    | noCell =>
      obtain ⟨hport, hhead, hpipe, hwear⟩ := State.strobeCell_noCell ph (hcell.trans hres)
      rw [hport, hhead, hpipe, hwear, hu.port, hu.head, hu.pipe, hu.wear, hu.now, hrest]
      exact ⟨rfl, rfl, fun hle => absurd hle hc, fun _ => ⟨rfl, rfl, rfl, rfl, rfl⟩⟩
    | suppressed =>
      obtain ⟨hport, hhead, hpipe, hwear⟩ := State.strobeCell_suppressed ph (hcell.trans hres)
      rw [hport, hhead, hpipe, hwear, hu.port, hu.head, hu.pipe, hu.wear, hu.now, hrest]
      exact ⟨rfl, rfl, fun hle => absurd hle hc, fun _ => ⟨rfl, rfl, rfl, rfl, markSuppressed_head hrec⟩⟩
    | engraved code limit =>
      obtain ⟨hport, hhead, hpipe, hwear⟩ := State.strobeCell_engraved ph (hcell.trans hres)
      rw [hport, hhead, hpipe, hwear, hu.port, hu.head, hu.pipe, hu.wear, hu.now, State.engravedWord_of_active hurec]
      exact ⟨rfl, rfl, fun hle => absurd hle hc, fun _ => ⟨rfl, rfl, rfl, rfl, rfl⟩⟩

end Sys2Proof.Machine

/-! A WEAR write, taken at once: the halves of the wear count that its run replaces (R42, R155, R156). -/

namespace Sys2Proof.Machine

/-- The items of a wear count have no range of their own. -/
@[simp] theorem ObjKind.wear_rule (i : Nat) : ObjKind.wear.rule i = .whole := by
  match i with
  | 0 => rfl
  | 1 => rfl
  | _ + 2 => rfl

/-- A write to a WEAR object passes the tests in every job state. -/
theorem State.writeTests_wear (s : State) {copy : Byte} {start : Nat} {items : Items}
    (hcopy : copy.toNat < ObjKind.wear.copies) (hstart : start < ObjKind.wear.length) (hne : items ≠ [])
    (hlen : items.length ≤ 512) :
    s.writeTests 0x0A copy start items = .ok .wear := by
  have hcode : objOfCode 0x0A = some .wear := rfl
  have hselects : selectsOk .wear start (withinObject .wear start items) = true :=
    (selectsOk_iff _ _ _).2 fun j _ => by rw [ObjKind.wear_rule]; rfl
  have hrefusal : s.writeRefusal .wear copy.toNat start items = none := by
    simp [State.writeRefusal, ObjKind.permission, State.commitPending, hselects]
  have hrun : ¬(ObjKind.wear.length ≤ start ∨ items.length = 0 ∨ 512 < items.length) := by
    rw [List.length_eq_zero_iff]
    simp only [hne, false_or]
    omega
  rw [State.writeTests, hcode]
  dsimp only
  rw [if_neg (Nat.not_le.2 hcopy), if_neg hrun, hrefusal]

/-- An item with no range of its own is stored as it was written. -/
@[simp] theorem storedItem_whole (w : Item) : storedItem .whole w = w := rfl

@[simp] theorem itemClamped_whole (w : Item) : itemClamped .whole w = false := by simp [itemClamped]

/-- No item of a wear count is judged beside the run that is stored. -/
theorem writeItems_wear (o : Items) (start : Nat) (run : Items) :
    writeItems .wear o start run = storeRun .wear ⟨o, false⟩ start run := rfl

/-- A run stored from the low item of a wear count: both halves, or the low one alone. -/
theorem writeItems_wear_low (lo hi : Item) {items : Items} (hne : items ≠ []) :
    writeItems .wear [lo, hi] 0 (withinObject .wear 0 items) =
      ⟨[items.getD 0 0, if items.length = 1 then hi else items.getD 1 0], false⟩ := by
  match items with
  | [a] => simp [writeItems_wear, withinObject, ObjKind.length, storeRun]
  | a :: b :: rest => simp [writeItems_wear, withinObject, ObjKind.length, storeRun]

/-- A run stored from the high item of a wear count: the high half alone. -/
theorem writeItems_wear_high (lo hi : Item) {items : Items} (hne : items ≠ []) :
    writeItems .wear [lo, hi] 1 (withinObject .wear 1 items) = ⟨[lo, items.getD 0 0], false⟩ := by
  match items with
  | a :: rest => simp [writeItems_wear, withinObject, ObjKind.length, storeRun]

/-- The reply to a WEAR write: PARTIAL_WRITE where items fall past the count, and never the clamp mark. -/
theorem takenReply_wear (tag : Byte) (start : Nat) (items : Items) :
    takenReply tag .wear start items false =
      if start + items.length ≤ 2 then writeReply tag .accepted false items.length
      else writeReply tag .partialWrite false (2 - start) := by
  have hpast : decide (ObjKind.wear.length < start + items.length) = !decide (start + items.length ≤ 2) := by
    rw [← decide_not]
    exact decide_eq_decide.2 Nat.not_le.symm
  unfold takenReply
  by_cases h : start + items.length ≤ 2
  · have hall : min items.length (ObjKind.wear.length - start) = items.length := Nat.min_eq_left (Nat.le_sub_of_add_le' h)
    simp [hpast, h, hall, writeReply]
  · have hsome : min items.length (ObjKind.wear.length - start) = 2 - start :=
      Nat.min_eq_right (Nat.sub_le_iff_le_add'.2 (Nat.le_of_not_le h))
    simp [hpast, h, hsome, writeReply]

/-- A WEAR write that is taken at once replaces the wear count by the two items stored. -/
theorem exec_wearWrite_of_takes {s : State} {tag copy : Byte} {h : Head} {start : Item} {items : Items} (tick : Nat)
    (hcopy : copy.toNat = h.val) (hstart : start.toNat < ObjKind.wear.length) (hne : items ≠ []) (hlen : items.length ≤ 512)
    (htakes : s.takes (tableWriteFrame tag 0x0A copy start items)) {lo hi : Item}
    (hw : writeItems .wear (itemsOfWord32 s.tlm.wear[h]) start.toNat (withinObject .wear start.toNat items) =
      ⟨[lo, hi], false⟩) :
    exec (.wearWrite tag copy start items tick) s =
      .next (({ s.taken tick with tlm := { s.tlm with wear := s.tlm.wear.set h (hi ++ lo) } }).queueReply
        (takenReply tag .wear start.toNat items false)) := by
  have htests := (s.taken tick).writeTests_wear (copy := copy) (hcopy ▸ h.isLt) hstart hne hlen
  have hobj : (s.taken tick).objItems .wear copy.toNat = itemsOfWord32 s.tlm.wear[h] := by
    rw [State.objItems_of_tlm (s := s) (by simp) (by decide), hcopy]
    exact congrArg itemsOfWord32 (vecGet_of_lt _ _ h.isLt)
  have hstore : (s.taken tick).tlm.store .wear copy.toNat [lo, hi] =
      { s.tlm with wear := s.tlm.wear.set h (hi ++ lo) } := by
    simp [Tables.store, vecSet, hcopy, word32OfItems]
  rw [(exec_tableWrite_of_takes tick htakes).2.2.1 rfl, State.tableWrite, htests]
  dsimp only
  rw [State.storeWrite_eq _ _ _ _ _ hstart, hobj, hw, hstore]
  rfl

/-- Settles O28: the write passes the tests in every job state, and its run stores both halves of the count or one. -/
theorem wearWriteReplacesCount : Obligations.WearWriteReplacesCount := by
  unfold Obligations.WearWriteReplacesCount
  intro s tag copy h items tick hcopy hne hlen lo hi reply
  refine ⟨fun htakes => ?_, fun htakes => ?_⟩
  · have hreply : takenReply tag .wear 0 items false =
        if items.length ≤ 2 then reply .accepted items.length else reply .partialWrite 2 := by
      rw [takenReply_wear, Nat.zero_add]
      rfl
    rw [← hreply]
    exact exec_wearWrite_of_takes tick hcopy (by decide) hne hlen htakes (writeItems_wear_low _ _ hne)
  · have hreply : takenReply tag .wear 1 items false =
        if items.length = 1 then reply .accepted 1 else reply .partialWrite 1 := by
      have hpos : 0 < items.length := List.length_pos_of_ne_nil hne
      rw [takenReply_wear]
      by_cases hone : items.length = 1
      · rw [if_pos (by omega), if_pos hone, hone]
        rfl
      · rw [if_neg (by omega), if_neg hone]
        rfl
    rw [← hreply]
    exact exec_wearWrite_of_takes tick hcopy (by decide) hne hlen htakes (writeItems_wear_high _ _ hne)

end Sys2Proof.Machine

/-! The tone-to-depth computation keeps to the ranges that tables in range give it (R28 to R40, R44). -/

namespace Sys2Proof.Machine

/-! ## The fields that the tone-to-depth computation reads (Tables 1.3 and 2.3, R31, R35) -/

/-- An item of an object in range under a numeric rule lies within it; LAYOUT, whose C is 0 until it is written, apart. -/
theorem ObjKind.inRange.num_mem {k : ObjKind} {o : Items} (ho : k.inRange o) (hk : k ≠ .layout) {i lo hi : Nat}
    (hil : i < k.length) (hr : k.rule i = .num lo hi) : lo ≤ item o i ∧ item o i ≤ hi := by
  obtain ⟨hle, hlt⟩ : lo ≤ hi ∧ hi < 65536 := by simpa [hr, ItemRule.proper] using k.rule_proper i
  obtain ⟨hlen, hitems, -⟩ := ho
  have hitem := (hitems i (by omega)).resolve_right fun ⟨hlayout, _⟩ => hk hlayout
  rw [hr] at hitem
  exact ItemRule.mem_of_holds_num hle hlt hitem

/-- Every item of an object in range of one numeric rule from 0 keeps to it; one past the object's end reads 0. -/
theorem ObjKind.inRange.item_le {k : ObjKind} {o : Items} (ho : k.inRange o) (hk : k ≠ .layout) {hi : Nat}
    (hrule : ∀ i < k.length, k.rule i = .num 0 hi) (i : Nat) : item o i ≤ hi := by
  by_cases hil : i < k.length
  · exact (ho.num_mem hk hil (hrule i hil)).2
  · rw [item, List.getD_eq_default _ _ (by rw [ho.1]; omega)]
    exact Nat.zero_le _

/-- Every entry of an expansion table is a tone. -/
theorem expand_item_le {table : Items} (ht : ObjKind.expand.inRange table) (i : Nat) : item table i ≤ 1023 :=
  ht.item_le (by decide) (fun _ hi => List.getD_replicate _ hi) i

/-- Every knot of a gradation table is a depth. -/
theorem grad_item_le {g : Items} (hg : ObjKind.grad.inRange g) (i : Nat) : item g i ≤ 4095 :=
  hg.item_le (by decide) (fun _ hi => List.getD_replicate _ hi) i

/-- The sample width of a tile is 6, 8 or 10. -/
theorem tileSampleWidth_mem {tile : Items} (ht : ObjKind.tile.inRange tile) :
    tileSampleWidth tile = 6 ∨ tileSampleWidth tile = 8 ∨ tileSampleWidth tile = 10 := by
  obtain ⟨hlen, hitems, -⟩ := ht
  have hrule := (hitems 3 (by rw [hlen]; decide)).resolve_right (by simp)
  obtain ⟨-, htile, -⟩ := selectOk_names (k := .tile) (by decide) hrule.2
  exact (htile rfl).1 rfl

/-- The floor depth and the drive limits of a calibration are 12-bit numbers, and the limits are in order. -/
theorem cal_limits {cal : Items} (hc : ObjKind.headCal.inRange cal) :
    calFloor cal ≤ 4095 ∧ calDriveMax cal ≤ 4095 ∧ calDriveMin cal ≤ calDriveMax cal := by
  obtain ⟨-, -, -, hordered⟩ := id hc
  exact ⟨(hc.num_mem (i := 2) (by decide) (by decide) rfl).2, (hc.num_mem (i := 6) (by decide) (by decide) rfl).2,
    hordered 5 6 0 rfl⟩

/-! ## Tone, depth and drive code (R28 to R40) -/

/-- The stored value of a sample word has the sample width (R28). -/
theorem extract_lt {w : Nat} (hw : w ≤ 16) (left : Bool) (word : Item) : extract w left word < 2 ^ w := by
  unfold extract
  split
  · rw [Nat.div_lt_iff_lt_mul (by positivity), ← pow_add, Nat.add_sub_cancel' hw]
    exact word.isLt
  · exact Nat.mod_lt _ (by positivity)

/-- An expanded value is a tone (R29 to R31). -/
theorem expand_le {w t : Nat} {table : Items} (ht : ObjKind.expand.inRange table) (hpos : 0 < w) (hw : w ≤ 10)
    (hlt : t < 2 ^ w) (mode : Nat) : expand w mode table t ≤ 1023 := by
  have hscale : (t + 1) * 2 ^ (10 - w) ≤ 1024 := by
    calc (t + 1) * 2 ^ (10 - w) ≤ 2 ^ w * 2 ^ (10 - w) := Nat.mul_le_mul_right _ hlt
      _ = 2 ^ 10 := by rw [← pow_add, Nat.add_sub_cancel' hw]
      _ = 1024 := rfl
  have hgap : 0 < 2 ^ (10 - w) := Nat.two_pow_pos _
  have htwo : 1 < 2 ^ w := Nat.one_lt_two_pow hpos.ne'
  rw [Nat.succ_mul] at hscale
  unfold expand
  split
  · next hten => rw [hten] at hlt; omega
  · split
    · omega
    · split <;> omega
    · refine Nat.le_of_lt_succ ((Nat.div_lt_iff_lt_mul (by omega)).2 ?_)
      omega
    · exact expand_item_le ht t

/-- The tone of a sample word of a tile in range is a tone (R28 to R32). -/
theorem sampleTone_le {tile table : Items} (ht : ObjKind.tile.inRange tile) (he : ObjKind.expand.inRange table)
    (word : Item) : sampleTone tile table word ≤ 1023 := by
  have hwidth := tileSampleWidth_mem ht
  have hvalue := extract_lt (w := tileSampleWidth tile) (by omega) (tileJustifyLeft tile) word
  have htone := expand_le he (by omega) (by omega) hvalue (tileFillMode tile)
  unfold sampleTone invertTone
  split
  · exact Nat.sub_le _ _
  · exact htone

/-- A depth between knots is a depth (R34). -/
theorem interpolate_le {g : Items} (hg : ObjKind.grad.inRange g) (t : Nat) : interpolate g t ≤ 4095 := by
  have hlow : item g (t / 4) * (4 - t % 4) ≤ 4095 * (4 - t % 4) := Nat.mul_le_mul_right _ (grad_item_le hg _)
  have hhigh : item g (t / 4 + 1) * (t % 4) ≤ 4095 * (t % 4) := Nat.mul_le_mul_right _ (grad_item_le hg _)
  unfold interpolate
  omega

/-- The floor leaves 0, and brings any other depth to at least the floor depth (R36). -/
theorem floorDepth_cases (floor d : Nat) :
    (d = 0 ∧ floorDepth floor d = 0) ∨ (floor ≤ floorDepth floor d ∧ floorDepth floor d = max floor d) := by
  unfold floorDepth
  split <;> omega

/-- The depth of a tone below the cut, and of any other (R33 to R36). -/
theorem depthOfTone_cases (cal g : Items) (t : Nat) :
    (t < calCut cal ∧ depthOfTone cal g t = 0) ∨
      (calCut cal ≤ t ∧ depthOfTone cal g t = floorDepth (calFloor cal) (interpolate g t)) := by
  unfold depthOfTone
  split
  · exact .inl ⟨‹_›, rfl⟩
  · exact .inr ⟨Nat.not_lt.1 ‹_›, rfl⟩

/-- The three outcomes of the clamp (R40). -/
theorem clampDrive_engraved {cal : Items} {v : Int} {code : Nat} {limit : Option Bool}
    (h : clampDrive cal v = .engraved code limit) (horder : calDriveMin cal ≤ calDriveMax cal) :
    calDriveMin cal ≤ code ∧ code ≤ calDriveMax cal ∧ (limit = some true → code = calDriveMax cal) ∧
      (limit = some false → code = calDriveMin cal) := by
  unfold clampDrive at h
  split at h
  · cases h
    exact ⟨le_rfl, horder, nofun, fun _ => rfl⟩
  · split at h
    · cases h
      exact ⟨horder, le_rfl, fun _ => rfl, nofun⟩
    · cases h
      exact ⟨by omega, by omega, nofun, nofun⟩

/-- An engraved cell is a clamped drive code (R37, R38, R40, R43). -/
theorem cellOfDepth_engraved {cal : Items} {wearTerm d code : Nat} {suppress : Bool} {limit : Option Bool}
    (h : cellOfDepth cal wearTerm d suppress = .engraved code limit) :
    clampDrive cal (driveOf cal wearTerm d) = .engraved code limit := by
  unfold cellOfDepth at h
  split at h
  · cases h
  · split at h
    · cases h
    · exact h

/-- Settles O48: each stage of the computation keeps to the range that the tables in range give it. -/
theorem tonesDepthsAndCodesStayInRange : Obligations.TonesDepthsAndCodesStayInRange := by
  unfold Obligations.TonesDepthsAndCodesStayInRange
  refine ⟨fun s h r c code limit hranges hcell => ?_, fun tile table cal g word tone htile hexpand hcal hgrad => ?_⟩
  · obtain ⟨-, -, -, -, -, -, hactive, -⟩ := hranges
    obtain ⟨-, hmax, horder⟩ := cal_limits (hactive h)
    obtain ⟨hlo, hhi, htrue, hfalse⟩ := clampDrive_engraved (cellOfDepth_engraved hcell) horder
    exact ⟨hlo, hhi, hhi.trans hmax, htrue, hfalse⟩
  · refine ⟨sampleTone_le htile hexpand word, fun _ => ?_⟩
    obtain ⟨hfloor, -⟩ := cal_limits hcal
    have hdepth := interpolate_le hgrad tone
    have hcut := depthOfTone_cases cal g tone
    have hfloored := floorDepth_cases (calFloor cal) (interpolate g tone)
    refine ⟨?_, ?_, ?_⟩ <;> omega

end Sys2Proof.Machine

/-! A JOB_ARM that passes validation: the arbiter and EVR read neither the job nor the actions due, no action moves a job
that is not in motion, and each head is armed as it stood (R45, R110, R142, R143, R150). -/

namespace Sys2Proof.Machine

/-! ## What neither the arbiter nor EVR reads -/

/-- A state with another job and other actions due. -/
def State.withJobDue (s : State) (j : Job) (d : List DueAction) : State :=
  { s with jcu := j, evr := { s.evr with due := d } }

/-- A report is formed from a record whatever the job and the actions due. -/
theorem State.beginReport_withJobDue (s : State) (j : Job) (d : List DueAction) (k : EventKind) :
    (s.withJobDue j d).beginReport k = (s.beginReport k).withJobDue j d := by
  have hrecord : (s.withJobDue j d).evr.records[k.num] = s.evr.records[k.num] := rfl
  cases hcase : s.evr.records[k.num] with
  | none => simp only [State.beginReport, hrecord, hcase]
  | some p =>
    simp only [State.beginReport, hrecord, hcase]
    rfl

/-- The arbiter reads neither the job nor the actions due. -/
theorem State.arbitrate_withJobDue (s : State) (j : Job) (d : List DueAction) :
    (s.withJobDue j d).arbitrate = s.arbitrate.withJobDue j d := by
  have hfree : (s.withJobDue j d).laneFree = s.laneFree := rfl
  have hlnk : (s.withJobDue j d).lnk = s.lnk := rfl
  have hchoose : (s.withJobDue j d).chooseReport = s.chooseReport := rfl
  unfold State.arbitrate
  simp only [hfree, hlnk, hchoose, State.beginReport_withJobDue]
  repeat' split
  all_goals rfl

/-- A reply is queued whatever the job and the actions due. -/
theorem State.answer_withJobDue (s : State) (j : Job) (d : List DueAction) (tag code : Byte) (r : Result) :
    (s.withJobDue j d).answer tag code r = (s.answer tag code r).withJobDue j d :=
  State.arbitrate_withJobDue { s with lnk := { s.lnk with replyQueue := s.lnk.replyQueue ++ [commandReply tag code r] } } j d

/-- EVR gathers an occurrence whatever the job and the actions due. -/
theorem State.recordEvent_withJobDue (s : State) (j : Job) (d : List DueAction) (k : EventKind) (e : Word32)
    (m : BitVec 8) : (s.withJobDue j d).recordEvent k e m = (s.recordEvent k e m).withJobDue j d := by
  have hlevel : (s.withJobDue j d).level k = s.level k := rfl
  have hrecord : (s.withJobDue j d).evr.records = s.evr.records := rfl
  unfold State.recordEvent
  simp only [hlevel, hrecord]
  split
  · rfl
  · split
    · exact State.arbitrate_withJobDue
        { s with evr := { s.evr with records := s.evr.records.set k.num (some (gather s.evr.records[k.num] e m)) } } j d
    · rfl

/-- An occurrence is raised whatever the job and the actions due, beside what becomes due. -/
theorem State.raisePlain_withJobDue (s : State) (j : Job) (d : List DueAction) (k : EventKind) (e : Word32) :
    ∃ due, (s.withJobDue j d).raisePlain k e = (s.raisePlain k e).withJobDue j due := by
  have haction : (s.withJobDue j d).routeAction k = s.routeAction k := rfl
  unfold State.raisePlain State.raise
  simp only [haction, State.recordEvent_withJobDue]
  split
  · exact ⟨_, rfl⟩
  · exact ⟨_, rfl⟩

/-! ## A job that is not in motion -/

/-- JCU's check of the head states moves a job in motion alone (R147). -/
theorem State.headsCheck_of_not_inMotion {s : State} (h : s.jcu.state.inMotion = false) : s.headsCheck = s := by
  unfold State.headsCheck
  split
  · next hrun => rw [hrun] at h; cases h
  · split
    · next hhalt => rw [hhalt] at h; cases h
    · rfl

/-- Routing actions move a job in motion alone (R150). -/
theorem State.takeActions_of_not_inMotion {s : State} (h : s.jcu.state.inMotion = false) (n : Nat)
    (acts : List DueAction) : State.takeActions n acts (s.setDue []) = s.setDue [] := by
  have hone (a : DueAction) : (s.setDue []).routeEffect a = s.setDue [] := by
    have hrun : s.jcu.state ≠ .running := fun he => by rw [he] at h; cases h
    unfold State.routeEffect
    split <;> simp [h, hrun]
  induction n generalizing acts with
  | zero => rfl
  | succ n ih =>
    refine List.foldl_fixed' (fun a => ?_) acts
    rw [show (s.setDue []).setDue [] = s.setDue [] from rfl, hone]
    exact ih _

/-- A part of an event that leaves the job out of motion is that part alone. -/
theorem State.within_of_not_inMotion (s : State) (f : State → State)
    (h : (f (s.setDue [])).jcu.state.inMotion = false) : s.within f = (f (s.setDue [])).setDue s.evr.due := by
  rw [State.within, State.takeActions_of_not_inMotion h]
  rfl

/-! ## JOB_ARM that passes validation (R143) -/

/-- What arming the heads leaves. -/
@[simp] theorem State.eachHead_armHead_keeps (s : State) :
    (s.eachHead State.armHead).jcu = s.jcu ∧ (s.eachHead State.armHead).lnk = s.lnk ∧
    (s.eachHead State.armHead).tlm = s.tlm ∧ (s.eachHead State.armHead).stu = s.stu ∧
    (s.eachHead State.armHead).cca = s.cca ∧ (s.eachHead State.armHead).cfu = s.cfu ∧
    (s.eachHead State.armHead).ports = s.ports ∧ (s.eachHead State.armHead).evr = s.evr := by
  simp [State.eachHead_eq]

/-- The transition to READY: JOB_STATE is raised, and every head is armed. -/
theorem State.armJob_of_idle {s : State} (hidle : s.jcu.state = .idle) :
    s.armJob = (({ s with jcu := { s.jcu with state := .ready } }).raisePlain .jobState
      (jobStateDetail .idle .ready .arm)).eachHead State.armHead := by
  have hset : s.setJob .ready .arm = ({ s with jcu := { s.jcu with state := .ready } }).raisePlain .jobState
      (jobStateDetail .idle .ready .arm) := by
    simp only [State.setJob, hidle]
    rfl
  rw [State.armJob, hset]
  exact State.headsCheck_of_not_inMotion (by simp [JobState.inMotion])

/-- A channel after an arm, by the enable and the first track of its head and its STEP line (R45, R110). -/
def Channel.armed (c : Channel) (enabled step : Bool) (first : Nat) : Channel :=
  if enabled then
    { c with
      state := .ready, nextTrack := first, positioned := !step, wait := 0, complete := false, defects := [], overflow := 0,
      tracksDone := 0, tracksDefective := 0, idleRevs := 0 }
  else
    { c with state := .idle, defects := [], overflow := 0, tracksDone := 0, tracksDefective := 0, idleRevs := 0 }

/-- What an arm makes of a head's channel and counters (R45, R110). -/
theorem State.armHead_self (h : Head) (s : State) :
    (State.armHead h s).heads[h] = s.heads[h].armed (s.enabled h) s.ports[h].step (s.firstTrack h) ∧
    (State.armHead h s).pipes[h] = { s.pipes[h] with engraved := 0, suppressed := 0, saturations := 0 } := by
  simp [State.armHead, Channel.armed]

/-- Arming a head leaves the others. -/
theorem State.armHead_sameFor {g h : Head} (hne : g ≠ h) (s : State) : State.SameFor h s (State.armHead g s) := by
  have hval : g.val ≠ h.val := fun he => hne (Fin.ext he)
  constructor <;> simp [State.armHead, hval]

/-- The eight heads armed, each as the first state has it. -/
theorem State.eachHead_armHead (s : State) (h : Head) :
    (s.eachHead State.armHead).heads[h] = s.heads[h].armed (s.enabled h) s.ports[h].step (s.firstTrack h) ∧
    (s.eachHead State.armHead).pipes[h] = { s.pipes[h] with engraved := 0, suppressed := 0, saturations := 0 } := by
  obtain ⟨u, hu, ht⟩ := State.eachHead_at State.SameFor.refl (fun _ _ _ => State.SameFor.trans) State.armHead h
    (fun g hg t => State.armHead_sameFor hg t) s
  have hsetups := congrArg Tables.setups hu.tables
  simp only [Tables.withoutWear] at hsetups
  obtain ⟨hhead, hpipe⟩ := State.armHead_self h u
  rw [ht.head, hhead, ht.pipe, hpipe, hu.head, hu.pipe, hu.port]
  simp only [State.enabled, State.firstTrack, hsetups, and_self]

/-- JOB_ARM in IDLE that passes every check: the reply, JOB_STATE, and then every head armed (R142, R143). -/
theorem State.takeJobArm_accepted {s : State} (tag : Byte) (hidle : s.jcu.state = .idle) (hpass : s.armFailure = none) :
    let u := (s.answer tag 0x01 .accepted).raisePlain .jobState (jobStateDetail .idle .ready .arm)
    ∃ d, s.takeJobArm tag =
      ((u.withJobDue { state := .ready, validation := .accepted } d).eachHead State.armHead).setDue s.evr.due := by
  intro u
  have hanswer :
      (({ s with jcu := { s.jcu with validation := .accepted } }).answer tag 0x01 .accepted).setDue [] =
        (s.answer tag 0x01 .accepted).withJobDue { state := .idle, validation := .accepted } [] := by
    rw [← hidle, show ({ s with jcu := { s.jcu with validation := .accepted } } : State) =
      s.withJobDue { s.jcu with validation := .accepted } s.evr.due from rfl, State.answer_withJobDue]
    rfl
  obtain ⟨d, hraise⟩ := (s.answer tag 0x01 .accepted).raisePlain_withJobDue
    { state := .ready, validation := .accepted } [] .jobState (jobStateDetail .idle .ready .arm)
  have harm : ((s.answer tag 0x01 .accepted).withJobDue { state := .idle, validation := .accepted } []).armJob =
      (u.withJobDue { state := .ready, validation := .accepted } d).eachHead State.armHead := by
    rw [State.armJob_of_idle rfl, ← hraise]
    rfl
  refine ⟨d, ?_⟩
  rw [State.takeJobArm, if_pos hidle, hpass]
  dsimp only
  rw [State.within_of_not_inMotion, hanswer, harm]
  · simp
  · rw [hanswer, harm]
    simp [State.withJobDue, JobState.inMotion]

/-- Settles O8: the frame is taken at once, no action can move the job that becomes READY, and each head is armed from the
tables, its channel and its STEP line as they stood. -/
theorem jobArmArmsHeads : Obligations.JobArmArmsHeads := by
  unfold Obligations.JobArmArmsHeads
  intro s tag tick htakes hidle hpass u
  have hexec : exec (.jobArm tag tick) s = .next ((s.taken tick).takeJobArm tag) :=
    congrArg Host.Outcome.next (State.present_of_takes s tick _ _ htakes)
  obtain ⟨d, htaken⟩ := State.takeJobArm_accepted (s := s.taken tick) tag (by simp [hidle])
    (by rw [State.armFailure_of_tlm (s := s) (by simp), hpass])
  refine ⟨_, by rw [hexec, htaken], ?_⟩
  generalize hw : u.withJobDue { state := .ready, validation := .accepted } d = w
  obtain ⟨hjob, hlink, hrecords⟩ :
      w.jcu = { state := .ready, validation := .accepted } ∧ w.lnk = u.lnk ∧ w.evr.records = u.evr.records := by
    subst hw
    exact ⟨rfl, rfl, rfl⟩
  obtain ⟨hheads, hpipes, hports, htlm, hstu, hcca, hcfu⟩ :
      w.heads = s.heads ∧ w.pipes = s.pipes ∧ w.ports = s.ports ∧ w.tlm = s.tlm ∧ w.stu = s.stu ∧ w.cca = s.cca ∧
        w.cfu = s.cfu := by
    subst hw
    simp [State.withJobDue, u]
  have harmed (h : Head) := w.eachHead_armHead h
  simp only [State.enabled, State.firstTrack, hheads, hpipes, hports, htlm] at harmed
  refine ⟨?_, fun h => (harmed h).1, fun h => (harmed h).2, ?_⟩
  · simp [hjob]
  · simp [hlink, hrecords, htlm, hstu, hcca, hcfu, hports]

end Sys2Proof.Machine

/-! An index at a head that waits: a queue that the statement admits and R103 does not (R103, R114, R129). -/

namespace Sys2Proof.Machine

/-- A record of a track with a margin tone. -/
def marginRecord (track : Nat) (active : Bool) : TrackRecord :=
  { track, body := .margin 0, active, suppressed := false }

/-- Head 0 waits for track 0, not positioned and at the wait limit, and an ACTIVE record of track 1 stands behind the
PLANNED one of track 0; stagger is on and no event kind has an action. -/
def activeBehindPlanned : State :=
  { State.reset with
    jcu := { state := .running, validation := .accepted }
    tlm := { Tables.reset with
      layout := Tables.layoutReset.set 3 1
      setups := Tables.reset.setups.set 0 [1, 0, 1, 0, 0] }
    heads := State.reset.heads.set 0 { Channel.reset with
      state := .waiting, positioned := false, wait := 8, queue := [marginRecord 0 false, marginRecord 1 true] } }

/-- The state meets every hypothesis of the statement, and head 0 has no track in progress. -/
theorem activeBehindPlanned_meets :
    activeBehindPlanned.noActions ∧ activeBehindPlanned.headsAgree ∧
      activeBehindPlanned.heads[(0 : Head)].state = .waiting ∧
      activeBehindPlanned.startFailure 0 = some .notPositioned ∧
      activeBehindPlanned.heads[(0 : Head)].activeRecord = none := by
  refine ⟨fun k => by cases k <;> rfl, ?_, rfl, rfl, rfl⟩
  unfold State.headsAgree
  decide

/-- At the index the head stalls and loses its PLANNED record, so that the ACTIVE one comes to the front, and the port takes
its phase from that one's odd track. -/
theorem activeBehindPlanned_index :
    let t := (activeBehindPlanned.at 0).indexInput 4 4
    t.heads[(0 : Head)].state = .stalled ∧ t.heads[(0 : Head)].queue = [marginRecord 1 true] ∧
      t.ports[(0 : Head)].phase = .b := by
  decide +kernel

/-- Refutes O42: the statement bounds no record behind the first, and where an ACTIVE one stands there, a head that stalls
strobes on that record's phase and not on that of its next track. R103 has an ACTIVE record first, and a hypothesis that says
so, as IndexEndsTracks has one, excludes the case. -/
theorem not_indexStartsReadyTracks : ¬ Obligations.IndexStartsReadyTracks := by
  unfold Obligations.IndexStartsReadyTracks
  intro h
  obtain ⟨hno, hagree, hwaiting, hfails, hnone⟩ := activeBehindPlanned_meets
  obtain ⟨-, -, hindex⟩ := activeBehindPlanned_index
  obtain ⟨t, hexec, -, hidle, -⟩ := h activeBehindPlanned 0 4 4 0 (by decide) (.inl rfl) nofun hno hagree hwaiting
  obtain ⟨-, -, -, hphase⟩ := hidle _ hfails
  rw [← Host.Outcome.next.inj hexec, hindex] at hphase
  exact absurd (hphase hnone) (by decide)

end Sys2Proof.Machine

/-! What the events of the heads leave of the slots: unpinning is all that they do to one, so each slot stays as it was but
for its pin count (R47, R52). -/

namespace Sys2Proof.Machine

/-- A slot but for its pin count. -/
def Slot.unpinned (sl : Slot) : Slot := { sl with pins := 0 }

/-- A change of the pin count of one slot leaves every slot but for its pin count. -/
theorem unpinned_set_pins (v : Vector Slot 64) (n : Fin 64) (p : Nat) :
    (v.set n { v[n] with pins := p }).map Slot.unpinned = v.map Slot.unpinned := by
  ext i hi : 1
  by_cases hn : n.val = i
  · subst hn
    simp [Slot.unpinned]
  · simp [Vector.getElem_set_ne _ _ hn]

theorem State.unpin_unpinned (s : State) (n : Fin 64) :
    (s.unpin n).cca.slots.map Slot.unpinned = s.cca.slots.map Slot.unpinned := unpinned_set_pins _ _ _

theorem State.pin_unpinned (s : State) (n : Fin 64) :
    (s.pin n).cca.slots.map Slot.unpinned = s.cca.slots.map Slot.unpinned := unpinned_set_pins _ _ _

@[simp] theorem State.unpinRecord_unpinned (s : State) (r : TrackRecord) :
    (s.unpinRecord r).cca.slots.map Slot.unpinned = s.cca.slots.map Slot.unpinned := by
  unfold State.unpinRecord
  split
  · exact s.unpin_unpinned _
  · rfl
  · rfl

@[simp] theorem State.foldl_unpin_unpinned (rs : List TrackRecord) : ∀ s : State,
    (rs.foldl State.unpinRecord s).cca.slots.map Slot.unpinned = s.cca.slots.map Slot.unpinned := by
  induction rs with
  | nil => exact fun _ => rfl
  | cons r rs ih => exact fun s => (ih _).trans (s.unpinRecord_unpinned r)

/-! ## Queues and track ends -/

@[simp] theorem State.dropPlanned_unpinned (s : State) (h : Head) :
    (s.dropPlanned h).cca.slots.map Slot.unpinned = s.cca.slots.map Slot.unpinned := by
  simp [State.dropPlanned]

@[simp] theorem State.clearQueue_unpinned (s : State) (h : Head) :
    (s.clearQueue h).cca.slots.map Slot.unpinned = s.cca.slots.map Slot.unpinned := by
  simp [State.clearQueue]

@[simp] theorem State.endTrack_unpinned (s : State) (h : Head) (o : Option DefectCause) :
    (s.endTrack h o).cca.slots.map Slot.unpinned = s.cca.slots.map Slot.unpinned := by
  unfold State.endTrack
  split
  · rfl
  · simp [State.removeActive]

@[simp] theorem State.park_unpinned (s : State) (h : Head) (k : Nat) :
    (s.park h k).cca.slots.map Slot.unpinned = s.cca.slots.map Slot.unpinned := by
  simp [State.park]

@[simp] theorem State.stopNow_unpinned (s : State) (h : Head) :
    (s.stopNow h).cca.slots.map Slot.unpinned = s.cca.slots.map Slot.unpinned := by
  simp [State.stopNow]

@[simp] theorem State.afterEnd_unpinned (s : State) (h : Head) (k : Nat) (stopping owed : Bool) :
    (s.afterEnd h k stopping owed).cca.slots.map Slot.unpinned = s.cca.slots.map Slot.unpinned := by
  unfold State.afterEnd
  repeat' split
  all_goals simp

@[simp] theorem State.testStart_unpinned (s : State) (h : Head) :
    (s.testStart h).cca.slots.map Slot.unpinned = s.cca.slots.map Slot.unpinned := by
  unfold State.testStart
  split
  · simp
  · unfold State.idleRevolution
    dsimp only
    split <;> simp

@[simp] theorem State.tripHead_unpinned (s : State) (h : Head) :
    (s.tripHead h).cca.slots.map Slot.unpinned = s.cca.slots.map Slot.unpinned := by
  simp [State.tripHead]

/-! ## What each event makes of a head -/

@[simp] theorem State.indexHead_unpinned (h : Head) (s : State) :
    (State.indexHead h s).cca.slots.map Slot.unpinned = s.cca.slots.map Slot.unpinned := by
  unfold State.indexHead
  dsimp only
  repeat' split
  all_goals simp

@[simp] theorem State.shortRevHead_unpinned (a b : Bool) (h : Head) (s : State) :
    (State.shortRevHead a b h s).cca.slots.map Slot.unpinned = s.cca.slots.map Slot.unpinned := by
  unfold State.shortRevHead
  dsimp only
  repeat' split
  all_goals simp

@[simp] theorem State.stopHead_unpinned (h : Head) (s : State) :
    (State.stopHead h s).cca.slots.map Slot.unpinned = s.cca.slots.map Slot.unpinned := by
  unfold State.stopHead
  split <;> simp

@[simp] theorem State.haltHead_unpinned (c : DefectCause) (h : Head) (s : State) :
    (State.haltHead c h s).cca.slots.map Slot.unpinned = s.cca.slots.map Slot.unpinned := by
  unfold State.haltHead
  split <;> simp

@[simp] theorem State.setWaiting_unpinned (h : Head) (s : State) :
    (State.setWaiting h s).cca.slots.map Slot.unpinned = s.cca.slots.map Slot.unpinned := by
  unfold State.setWaiting
  dsimp only
  repeat' split
  all_goals simp

@[simp] theorem State.resumeHead_unpinned (h : Head) (s : State) :
    (State.resumeHead h s).cca.slots.map Slot.unpinned = s.cca.slots.map Slot.unpinned := by
  unfold State.resumeHead
  split <;> simp

@[simp] theorem State.startHead_unpinned (h : Head) (s : State) :
    (State.startHead h s).cca.slots.map Slot.unpinned = s.cca.slots.map Slot.unpinned := by
  unfold State.startHead
  split <;> simp

@[simp] theorem State.clearHead_unpinned (h : Head) (s : State) :
    (State.clearHead h s).cca.slots.map Slot.unpinned = s.cca.slots.map Slot.unpinned := by
  simp [State.clearHead]

end Sys2Proof.Machine

/-! The request list and the FILLING slots: what a fill that begins, goes on and ends makes of the list and of the slots that
are FILLING (R49, R56, R69, R71, R78, R80). -/

namespace Sys2Proof.Machine

/-! ## The request ids (R71) -/

/-- Advancing the counter goes round 1 to 255. -/
theorem nextId_iterate_toNat {c : Byte} (hc : c ≠ 0) (i : Nat) :
    (nextId^[i] c).toNat = (c.toNat - 1 + i) % 255 + 1 := by
  have hpos : 0 < c.toNat := Nat.pos_of_ne_zero fun h => hc (BitVec.eq_of_toNat_eq h)
  have hlt := c.isLt
  induction i with
  | zero => simp; omega
  | succ i ih =>
    rw [Function.iterate_succ_apply', nextId]
    generalize nextId^[i] c = d at ih
    split
    · next hd =>
      subst hd
      simp at ih ⊢
      omega
    · next hd =>
      have hne : d.toNat ≠ 255 := fun h => hd (BitVec.eq_of_toNat_eq h)
      have hlt := d.isLt
      simp [BitVec.toNat_add]
      omega

/-- The counter never comes to 0, the id of a preload. -/
theorem nextId_ne_zero {c : Byte} (hc : c ≠ 0) : nextId c ≠ 0 := by
  intro h
  have := nextId_iterate_toNat hc 1
  simp [h] at this

/-- A search that ends on an id that is held has found every id on its way held. -/
theorem iterate_mem_of_freeId_mem {held : List Byte} (n : Nat) :
    ∀ c, freeId held n c ∈ held → ∀ i ≤ n, nextId^[i] c ∈ held := by
  induction n with
  | zero =>
    intro c h i hi
    obtain rfl : i = 0 := by omega
    exact h
  | succ n ih =>
    intro c h i hi
    rw [freeId] at h
    split at h
    · next hc =>
      cases i with
      | zero => simpa using hc
      | succ i => exact ih _ h i (by omega)
    · next hc => exact absurd h (by simpa using hc)

/-- The search visits more ids than a list of `n` entries at most can hold, so it ends on a free one. -/
theorem freeId_not_mem {held : List Byte} {n : Nat} {c : Byte} (hc : c ≠ 0) (hheld : held.length ≤ n) (hn : n < 255) :
    freeId held n c ∉ held := by
  intro h
  have hinj : Set.InjOn (fun i => nextId^[i] c) (Finset.range (n + 1)) := by
    intro i hi j hj hij
    have hi' : i < n + 1 := by simpa using hi
    have hj' : j < n + 1 := by simpa using hj
    have hnat := congrArg BitVec.toNat hij
    simp only [nextId_iterate_toNat hc] at hnat
    omega
  have hsub : (Finset.range (n + 1)).image (fun i => nextId^[i] c) ⊆ held.toFinset := by
    intro b hb
    obtain ⟨i, hi, rfl⟩ := Finset.mem_image.1 hb
    have hi' : i < n + 1 := by simpa using hi
    exact List.mem_toFinset.2 (iterate_mem_of_freeId_mem n c h i (by omega))
  have hcard := Finset.card_le_card hsub
  rw [Finset.card_image_of_injOn hinj, Finset.card_range] at hcard
  have := held.toFinset_card_le
  omega

/-- The search never ends on 0. -/
theorem freeId_ne_zero {held : List Byte} (n : Nat) : ∀ {c : Byte}, c ≠ 0 → freeId held n c ≠ 0 := by
  induction n with
  | zero => exact fun hc => hc
  | succ n ih =>
    intro c hc
    rw [freeId]
    split
    · exact ih (nextId_ne_zero hc)
    · exact hc

/-! ## The slots that are FILLING -/

/-- The key of a slot that is FILLING; `none` for a slot in another state. -/
def Slot.filling (sl : Slot) : Option (Option Key) := if sl.state = .filling then some sl.key else none

theorem Slot.filling_eq_some {sl : Slot} {k : Option Key} : sl.filling = some k ↔ sl.state = .filling ∧ sl.key = k := by
  simp [Slot.filling]

theorem Slot.filling_eq_none {sl : Slot} : sl.filling = none ↔ sl.state ≠ .filling := by
  simp [Slot.filling]

/-- The keys of the slots that are FILLING. -/
def State.filling (s : State) (n : Fin 64) : Option (Option Key) := s.cca.slots[n].filling

/-- A changed slot is FILLING as its new record says. -/
theorem State.filling_of_set {s t : State} {n : Fin 64} {sl : Slot} (h : t.cca.slots = s.cca.slots.set n sl) :
    t.filling = Function.update s.filling n sl.filling := by
  funext m
  unfold State.filling
  rw [h]
  by_cases hm : m = n
  · subst hm
    simp
  · rw [Function.update_of_ne hm]
    have hval : n.val ≠ m.val := fun he => hm (Fin.ext he.symm)
    simp [hval]

/-- A change of a slot that leaves whether it is FILLING, and to which key. -/
theorem State.filling_of_set_same {s t : State} {n : Fin 64} {sl : Slot} (h : t.cca.slots = s.cca.slots.set n sl)
    (hsl : sl.filling = s.cca.slots[n].filling) : t.filling = s.filling := by
  rw [State.filling_of_set h, hsl]
  exact Function.update_eq_self n s.filling

/-- Pins do not count. -/
theorem State.filling_of_unpinned {s t : State}
    (h : t.cca.slots.map Slot.unpinned = s.cca.slots.map Slot.unpinned) : t.filling = s.filling := by
  funext n
  have hn : t.cca.slots[n].unpinned = s.cca.slots[n].unpinned := by
    simpa using congrArg (fun v : Vector Slot 64 => v[n]) h
  exact (congrArg Slot.filling hn :)

/-! ## The request list and the slots -/

/-- The parts of a request entry that never change. -/
def Request.ident (r : Request) : Byte × Key × Fin 64 := (r.id, r.key, r.slot)

/-- The invariant of the request list, over the list and the slots that are FILLING (R69, R71). -/
structure Fetch.Lists (c : Fetch) (filling : Fin 64 → Option (Option Key)) : Prop where
  room : c.requests.length ≤ Config.requestEntries
  counter : c.counter ≠ 0
  keys : (c.requests.map Request.key).Nodup
  ids : ((c.requests.map Request.id).filter (· ≠ 0)).Nodup
  entry : ∀ r ∈ c.requests, filling r.slot = some (some r.key) ∧ setOfSlot r.slot = keySet r.key
  listed : ∀ n k, filling n = some k → ∃ r ∈ c.requests, r.slot = n

theorem State.fillsListed_iff (s : State) : s.fillsListed ↔ s.cfu.Lists s.filling := by
  constructor
  · rintro ⟨hroom, hcounter, hkeys, hids, hentry, hlisted⟩
    refine ⟨hroom, hcounter, hkeys, hids, fun r hr => ?_, fun n k hn => hlisted n (Slot.filling_eq_some.1 hn).1⟩
    obtain ⟨hstate, hkey, hset⟩ := hentry r hr
    exact ⟨Slot.filling_eq_some.2 ⟨hstate, hkey⟩, hset⟩
  · rintro ⟨hroom, hcounter, hkeys, hids, hentry, hlisted⟩
    refine ⟨hroom, hcounter, hkeys, hids, fun r hr => ?_, fun n hn => hlisted n _ (Slot.filling_eq_some.2 ⟨hn, rfl⟩)⟩
    obtain ⟨hfilling, hset⟩ := hentry r hr
    obtain ⟨hstate, hkey⟩ := Slot.filling_eq_some.1 hfilling
    exact ⟨hstate, hkey, hset⟩

namespace Fetch.Lists

variable {c d : Fetch} {f : Fin 64 → Option (Option Key)}

/-- The entry of a key. -/
theorem eq_of_key (L : c.Lists f) {q r : Request} (hq : q ∈ c.requests) (hr : r ∈ c.requests) (h : q.key = r.key) :
    q = r := List.inj_on_of_nodup_map L.keys hq hr h

/-- The entry of a slot. -/
theorem eq_of_slot (L : c.Lists f) {q r : Request} (hq : q ∈ c.requests) (hr : r ∈ c.requests) (h : q.slot = r.slot) :
    q = r := by
  have hqf := (L.entry q hq).1
  rw [h, (L.entry r hr).1] at hqf
  exact L.eq_of_key hq hr (Option.some.inj (Option.some.inj hqf)).symm

/-- A fill that goes on: id, key and slot of every entry stay. -/
theorem of_ident (L : c.Lists f) (hreq : d.requests.map Request.ident = c.requests.map Request.ident)
    (hcounter : d.counter = c.counter) : d.Lists f := by
  have hkeys : d.requests.map Request.key = c.requests.map Request.key := by
    simpa [Function.comp_def, Request.ident] using congrArg (List.map fun i : Byte × Key × Fin 64 => i.2.1) hreq
  have hids : d.requests.map Request.id = c.requests.map Request.id := by
    simpa [Function.comp_def, Request.ident] using congrArg (List.map fun i : Byte × Key × Fin 64 => i.1) hreq
  have hfrom (x y : Fetch) (h : x.requests.map Request.ident = y.requests.map Request.ident) (r) (hr : r ∈ x.requests) :
      ∃ q ∈ y.requests, q.key = r.key ∧ q.slot = r.slot := by
    obtain ⟨q, hq, hident⟩ := List.mem_map.1 (h ▸ List.mem_map_of_mem (f := Request.ident) hr)
    obtain ⟨-, hkey, hslot⟩ : q.id = r.id ∧ q.key = r.key ∧ q.slot = r.slot := by simpa [Request.ident] using hident
    exact ⟨q, hq, hkey, hslot⟩
  refine ⟨?_, hcounter ▸ L.counter, hkeys ▸ L.keys, hids ▸ L.ids, fun r hr => ?_, fun n k hn => ?_⟩
  · have hlen := congrArg List.length hkeys
    rw [List.length_map, List.length_map] at hlen
    exact hlen ▸ L.room
  · obtain ⟨q, hq, hkey, hslot⟩ := hfrom d c hreq r hr
    exact hkey ▸ hslot ▸ L.entry q hq
  · obtain ⟨r, hr, rfl⟩ := L.listed n k hn
    obtain ⟨q, hq, -, hslot⟩ := hfrom c d hreq.symm r hr
    exact ⟨q, hq, hslot⟩

/-- A fill that begins: a new entry, in a slot of its key's set that is not FILLING (R56, R71, R82). -/
theorem add (L : c.Lists f) {r : Request} (hroom : c.requests.length < Config.requestEntries) (hfree : f r.slot = none)
    (hset : setOfSlot r.slot = keySet r.key) (hkey : ∀ q ∈ c.requests, q.key ≠ r.key)
    (hid : r.id ≠ 0 → ∀ q ∈ c.requests, q.id ≠ r.id) (hreq : d.requests = c.requests ++ [r])
    (hcounter : d.counter ≠ 0) :
    d.Lists (Function.update f r.slot (some (some r.key))) := by
  have hother {q : Request} (hq : q ∈ c.requests) : q.slot ≠ r.slot := by
    intro h
    have hentry := (L.entry q hq).1
    rw [h, hfree] at hentry
    cases hentry
  refine ⟨?_, hcounter, ?_, ?_, fun q hq => ?_, fun n k hn => ?_⟩
  · rw [hreq, List.length_append]
    exact hroom
  · rw [hreq, List.map_append, List.nodup_append]
    refine ⟨L.keys, List.nodup_singleton _, fun a ha b hb => ?_⟩
    obtain ⟨q, hq, rfl⟩ := List.mem_map.1 ha
    obtain rfl : b = r.key := by simpa using hb
    exact hkey q hq
  · rw [hreq, List.map_append, List.filter_append, List.nodup_append]
    refine ⟨L.ids, (List.nodup_singleton r.id).filter _, fun a ha b hb => ?_⟩
    obtain ⟨q, hq, rfl⟩ := List.mem_map.1 (List.mem_of_mem_filter ha)
    obtain ⟨rfl, hne⟩ : b = r.id ∧ b ≠ 0 := by simpa using List.mem_filter.1 hb
    exact hid hne q hq
  · rw [hreq, List.mem_append, List.mem_singleton] at hq
    obtain hq | rfl := hq
    · rw [Function.update_of_ne (hother hq)]
      exact L.entry q hq
    · exact ⟨Function.update_self .., hset⟩
  · by_cases h : n = r.slot
    · exact ⟨r, by simp [hreq], h.symm⟩
    · rw [Function.update_of_ne h] at hn
      obtain ⟨q, hq, hslot⟩ := L.listed n k hn
      exact ⟨q, by simp [hreq, hq], hslot⟩

/-- A fill that ends: its entry is gone, and its slot is FILLING no longer (R78, R80). -/
theorem remove (L : c.Lists f) {r : Request} (hr : r ∈ c.requests) :
    Fetch.Lists { c with requests := c.requests.filter fun q => q.key != r.key } (Function.update f r.slot none) := by
  have hmem (q : Request) : q ∈ c.requests.filter (fun q => q.key != r.key) ↔ q ∈ c.requests ∧ q.key ≠ r.key := by
    simp
  refine ⟨?_, L.counter, ?_, ?_, fun q hq => ?_, fun n k hn => ?_⟩
  · exact (List.length_filter_le _ _).trans L.room
  · exact L.keys.sublist (List.filter_sublist.map _)
  · exact L.ids.sublist ((List.filter_sublist.map _).filter _)
  · obtain ⟨hq, hkey⟩ := (hmem q).1 hq
    rw [Function.update_of_ne fun h => hkey (congrArg Request.key (L.eq_of_slot hq hr h))]
    exact L.entry q hq
  · have hne : n ≠ r.slot := by
      rintro rfl
      simp at hn
    rw [Function.update_of_ne hne] at hn
    obtain ⟨q, hq, rfl⟩ := L.listed n k hn
    exact ⟨q, (hmem q).2 ⟨hq, fun h => hne (congrArg Request.slot (L.eq_of_key hq hr h))⟩, rfl⟩

end Fetch.Lists

/-- What leaves the request list and the FILLING slots keeps the invariant. -/
theorem State.fillsListed_of_filling {s t : State} (h : s.fillsListed) (hcfu : t.cfu = s.cfu)
    (hfilling : t.filling = s.filling) : t.fillsListed := by
  rw [State.fillsListed_iff] at h ⊢
  rw [hcfu, hfilling]
  exact h

/-- What leaves the request list, and the slots but for their pins, keeps the invariant. -/
theorem State.fillsListed_of_unpinned {s t : State} (h : s.fillsListed) (hcfu : t.cfu = s.cfu)
    (hslots : t.cca.slots.map Slot.unpinned = s.cca.slots.map Slot.unpinned) : t.fillsListed :=
  State.fillsListed_of_filling h hcfu (State.filling_of_unpinned hslots)

/-- A change of one slot that leaves whether it is FILLING, and to which key. -/
theorem State.fillsListed_of_set {s t : State} {n : Fin 64} {sl : Slot} (h : s.fillsListed) (hcfu : t.cfu = s.cfu)
    (hslots : t.cca.slots = s.cca.slots.set n sl) (hsl : sl.filling = s.cca.slots[n].filling) : t.fillsListed :=
  State.fillsListed_of_filling h hcfu (State.filling_of_set_same hslots hsl)

/-! ## Lookup and victim (R50, R54) -/

/-- A slot is one of the two ways of its set. -/
theorem eq_slotOf_setOfSlot (n : Fin 64) : n = slotOf (setOfSlot n) .zero ∨ n = slotOf (setOfSlot n) .one := by
  have h0 : (slotOf (setOfSlot n) .zero).val = 2 * (n.val / 2) + 0 := rfl
  have h1 : (slotOf (setOfSlot n) .one).val = 2 * (n.val / 2) + 1 := rfl
  simp only [Fin.ext_iff]
  omega

theorem setOfSlot_slotOf (set : Fin 32) (w : Way) : setOfSlot (slotOf set w) = set := by
  apply Fin.ext
  have h0 : (setOfSlot (slotOf set .zero)).val = (2 * set.val + 0) / 2 := rfl
  have h1 : (setOfSlot (slotOf set .one)).val = (2 * set.val + 1) / 2 := rfl
  cases w <;> omega

/-- A slot that is FILLING to a key holds it. -/
theorem slotHolds_of_filling {sl : Slot} {k : Key} (h : sl.filling = some (some k)) : slotHolds sl k = true := by
  obtain ⟨hstate, hkey⟩ := Slot.filling_eq_some.1 h
  simp [slotHolds, hstate, hkey]

/-- A way that is not excluded is not FILLING. -/
theorem Slot.filling_of_not_excluded {sl : Slot} (h : slotExcluded sl = false) : sl.filling = none := by
  refine Slot.filling_eq_none.2 fun hstate => ?_
  simp [slotExcluded, hstate] at h

/-- A key that a slot of its set holds is found. -/
theorem State.lookup_ne_none {s : State} {n : Fin 64} {k : Key} (hset : setOfSlot n = keySet k)
    (hholds : slotHolds s.cca.slots[n] k = true) : s.lookup k ≠ none := by
  unfold State.lookup
  obtain h | h := eq_slotOf_setOfSlot n
  · rw [h, hset] at hholds
    rw [if_pos hholds]
    exact nofun
  · rw [h, hset] at hholds
    rw [if_pos hholds]
    split <;> exact nofun

/-- A key that lookup misses has no entry. -/
theorem State.fillsListed.key_ne_of_lookup {s : State} (h : s.fillsListed) {k : Key} (hmiss : s.lookup k = none) :
    ∀ r ∈ s.cfu.requests, r.key ≠ k := by
  rintro r hr rfl
  obtain ⟨hfilling, hset⟩ := (s.fillsListed_iff.1 h).entry r hr
  exact State.lookup_ne_none hset (slotHolds_of_filling hfilling) hmiss

/-- A victim is a way of the set that is not excluded. -/
theorem State.victim_some {s : State} {set : Fin 32} {n : Fin 64} (h : s.victim set = some n) :
    setOfSlot n = set ∧ slotExcluded s.cca.slots[n] = false := by
  have hway (w : Way) (hw : slotExcluded s.cca.slots[slotOf set w] = false) (hn : slotOf set w = n) :
      setOfSlot n = set ∧ slotExcluded s.cca.slots[n] = false := by
    subst hn
    exact ⟨setOfSlot_slotOf set w, hw⟩
  unfold State.victim at h
  dsimp only at h
  split at h
  · cases h
  · next hone => exact hway .one hone (Option.some.inj h)
  · next hzero _ => exact hway .zero hzero (Option.some.inj h)
  · next hzero hone =>
    have hboth (w : Way) : slotExcluded s.cca.slots[slotOf set w] = false := by
      cases w
      · exact hzero
      · exact hone
    split at h
    · exact hway .zero hzero (Option.some.inj h)
    · split at h
      · exact hway .one hone (Option.some.inj h)
      · exact hway _ (hboth _) (Option.some.inj h)

/-- A victim is not FILLING. -/
theorem State.victim_not_filling {s : State} {set : Fin 32} {n : Fin 64} (h : s.victim set = some n) :
    s.filling n = none := Slot.filling_of_not_excluded (State.victim_some h).2

/-- A victim allocated to a key that lookup misses, with an entry for it: a fill begins (R55, R56, R71, R82). -/
theorem State.fillsListed_of_add {s t : State} (h : s.fillsListed) {r : Request} {pins : Nat}
    (hroom : s.cfu.requests.length < Config.requestEntries) (hmiss : s.lookup r.key = none)
    (hvictim : s.victim (keySet r.key) = some r.slot) (hid : r.id ≠ 0 → ∀ q ∈ s.cfu.requests, q.id ≠ r.id)
    (hreq : t.cfu.requests = s.cfu.requests ++ [r]) (hcounter : t.cfu.counter ≠ 0)
    (hslots : t.cca.slots = (s.allocate r.slot r.key pins).cca.slots) : t.fillsListed := by
  have hmissed := h.key_ne_of_lookup hmiss
  rw [State.fillsListed_iff] at h ⊢
  rw [State.filling_of_set (hslots.trans (s.allocate_cca_slots _ _ _))]
  exact h.add hroom (State.victim_not_filling hvictim) (State.victim_some hvictim).1 hmissed hid hreq hcounter

/-- An entry removed, with its slot no longer FILLING: a fill ends (R78, R80). -/
theorem State.fillsListed_of_remove {s t : State} (h : s.fillsListed) {r : Request} (hr : r ∈ s.cfu.requests)
    (hcfu : t.cfu = { s.cfu with requests := s.cfu.requests.filter fun q => q.key != r.key })
    (hfilling : t.filling = Function.update s.filling r.slot none) : t.fillsListed := by
  rw [State.fillsListed_iff] at h ⊢
  rw [hcfu, hfilling]
  exact h.remove hr

end Sys2Proof.Machine

/-! Every kind of event keeps the request list and the FILLING slots in answer to one another: a planning pass and a preload
begin fills, a segment goes on with one or ends it, an expiry ends one, a reset ends all, and no other event touches a
FILLING slot (R54, R56, R64, R67, R69, R71, R78, R80, R82). -/

namespace Sys2Proof.Machine

namespace State.fillsListed

/-! ## Parts of events -/

/-- After a reset no fill is in progress. -/
theorem of_reset {s : State} (hcfu : s.cfu = Fetch.reset) (hslots : s.cca.slots = Cache.reset.slots) : s.fillsListed := by
  rw [State.fillsListed_iff, hcfu]
  refine ⟨by decide, by decide, List.nodup_nil, List.nodup_nil, nofun, fun n k hn => ?_⟩
  have hnone : s.filling n = none := by
    unfold State.filling
    rw [hslots]
    simp [Cache.reset, Slot.empty, Slot.filling]
  rw [hnone] at hn
  cases hn

theorem headsCheck (s : State) (h : s.fillsListed) : s.headsCheck.fillsListed :=
  State.fillsListed_of_unpinned h (by simp) (by simp)

/-- A job transition in which each head leaves the fills. -/
theorem transition (s : State) (j : JobState) (c : JobCause) (f : Head → State → State)
    (hf : ∀ g t, (f g t).cfu = t.cfu ∧ (f g t).cca.slots.map Slot.unpinned = t.cca.slots.map Slot.unpinned)
    (h : s.fillsListed) : ((s.setJob j c).eachHead f).headsCheck.fillsListed :=
  headsCheck _ (State.eachHead_inv _ _ (fun g t ht => State.fillsListed_of_unpinned ht (hf g t).1 (hf g t).2)
    (State.fillsListed_of_unpinned h (by simp) (by simp)))

theorem routeEffect (s : State) (a : DueAction) (h : s.fillsListed) : (s.routeEffect a).fillsListed := by
  unfold State.routeEffect
  split
  · split
    · exact transition _ _ _ _ (by simp) h
    · exact h
  · split
    · exact transition _ _ _ _ (by simp) h
    · exact h
  · exact h

/-- A part of an event and its actions. -/
theorem within (s : State) (f : State → State) (hf : (f (s.setDue [])).fillsListed) : (s.within f).fillsListed :=
  State.within_inv s f (fun _ _ ht => ht) routeEffect hf

/-- A part of an event that leaves the fills, and its actions. -/
theorem within_same (s : State) (f : State → State)
    (hf : ∀ t, (f t).cfu = t.cfu ∧ (f t).cca.slots.map Slot.unpinned = t.cca.slots.map Slot.unpinned)
    (h : s.fillsListed) : (s.within f).fillsListed :=
  within s f (State.fillsListed_of_unpinned (s := s) h (by simp [hf]) (by simp [hf]))

/-- A head's change that leaves the fills, passed to JCU. -/
theorem withCheck_same (s : State) (g : Head) (f : State → State)
    (hf : ∀ t, (f t).cfu = t.cfu ∧ (f t).cca.slots.map Slot.unpinned = t.cca.slots.map Slot.unpinned)
    (h : s.fillsListed) : (s.withCheck g f).fillsListed :=
  State.withCheck_inv s g f headsCheck (State.fillsListed_of_unpinned h (hf s).1 (hf s).2)

/-! ## The planning pass (R108) -/

/-- A requested fill begins (R55, R71, R72). -/
theorem createRequest (s : State) {k : Key} {n : Fin 64} (pins : Nat) (h : s.fillsListed)
    (hroom : s.cfu.requests.length < Config.requestEntries) (hmiss : s.lookup k = none)
    (hvictim : s.victim (keySet k) = some n) : ((s.allocate n k pins).createRequest k n).fillsListed := by
  have hcounter : s.cfu.counter ≠ 0 := (s.fillsListed_iff.1 h).counter
  have hid := freeId_ne_zero (held := s.cfu.requests.map Request.id) Config.requestEntries hcounter
  have hfree : freeId (s.cfu.requests.map Request.id) Config.requestEntries s.cfu.counter ∉
      s.cfu.requests.map Request.id := freeId_not_mem hcounter (by simpa using hroom.le) (by decide)
  refine State.fillsListed_of_add (pins := pins) h hroom (r :=
    { id := freeId (s.cfu.requests.map Request.id) Config.requestEntries s.cfu.counter, key := k, slot := n
      length := tileLength s.tlm.tiles[k.tile], next := 0, received := 0, lock := false, active := s.now })
    hmiss hvictim (fun _ q hq he => hfree (List.mem_map.2 ⟨q, hq, he⟩)) ?_ ?_ ?_
  · simp [State.createRequest]
  · simpa [State.createRequest] using nextId_ne_zero hid
  · simp [State.createRequest]

theorem resolveRecord (g : Head) (s : State) (j : Nat) (h : s.fillsListed) : (State.resolveRecord g s j).fillsListed := by
  unfold State.resolveRecord
  split
  · split
    · exact State.fillsListed_of_unpinned h (by simp) (s.pin_unpinned _)
    · next hmiss =>
      split
      · next hroom =>
        split
        · next hvictim =>
          exact State.fillsListed_of_unpinned (createRequest s 1 h hroom hmiss hvictim) (by simp) (by simp)
        · exact State.fillsListed_of_unpinned h (by simp) (by simp)
      · exact h
  all_goals exact h

theorem foldl_resolveRecord (g : Head) (js : List Nat) :
    ∀ s : State, s.fillsListed → (js.foldl (State.resolveRecord g) s).fillsListed := by
  induction js with
  | nil => exact fun _ h => h
  | cons j js ih => exact fun s h => ih _ (resolveRecord g s j h)

theorem planningPass (s : State) (h : s.fillsListed) : s.planningPass.fillsListed := by
  refine State.eachHead_inv _ _ (fun g t ht => ?_)
    (State.eachHead_inv _ _ (fun g t ht => State.fillsListed_of_unpinned ht (by simp) (by simp)) h)
  unfold State.resolveHead
  split
  · exact foldl_resolveRecord g _ t ht
  · exact ht

theorem planning (s : State) (h : s.fillsListed) : (s.within State.planningPass).fillsListed :=
  within _ _ (planningPass _ h)

/-! ## Segments and expiries (R77 to R82) -/

/-- CFU's part of a completion: the fill of the entry ends (R78). -/
theorem completeFill (s : State) {q r : Request} (h : s.fillsListed) (hq : q ∈ s.cfu.requests)
    (hkey : r.key = q.key) (hslot : r.slot = q.slot) : (s.completeFill r).fillsListed := by
  have hresident : (s.modSlot r.slot fun sl => { sl with state := .resident }).filling =
      Function.update s.filling r.slot none := State.filling_of_set (s.modSlot_cca_slots _ _)
  refine State.fillsListed_of_remove h hq ?_ ?_
  · unfold State.completeFill
    simp only [← hkey]
    split <;> simp
  · rw [← hslot, ← hresident]
    unfold State.completeFill
    dsimp only
    split
    · unfold State.lockAtCompletion
      split
      · exact State.filling_of_unpinned (by simp)
      · exact State.filling_of_set_same rfl rfl
    · rfl

/-- An accepted segment: the fill goes on, or it ends and a planning pass follows (R77, R78). -/
theorem acceptSegment (s : State) {r : Request} (sg : Segment) (h : s.fillsListed) (hr : r ∈ s.cfu.requests) :
    (s.acceptSegment r sg).fillsListed := by
  have L := s.fillsListed_iff.1 h
  generalize hr' : r.accept sg s.now = r'
  have hident : r'.ident = r.ident := hr' ▸ rfl
  have hstored : ((s.storeSegment r.slot sg).modRequest r.key fun _ => r').fillsListed := by
    have hfilling : ((s.storeSegment r.slot sg).modRequest r.key fun _ => r').filling = s.filling :=
      State.filling_of_set_same (s.storeSegment_cca_slots r.slot sg) rfl
    rw [State.fillsListed_iff, hfilling]
    refine L.of_ident ?_ rfl
    simp only [State.modRequest_cfu, State.storeSegment_keeps, List.map_map]
    refine List.map_congr_left fun q hq => ?_
    by_cases hkey : q.key = r.key
    · obtain rfl := L.eq_of_key hq hr hkey
      simp [hident]
    · simp [hkey]
  have hmem : r' ∈ ((s.storeSegment r.slot sg).modRequest r.key fun _ => r').cfu.requests :=
    List.mem_map.2 ⟨r, hr, if_pos rfl⟩
  unfold State.acceptSegment
  dsimp only
  rw [hr']
  split
  · exact planning _ (within _ _ (completeFill _ hstored hmem rfl rfl))
  · exact hstored

/-- The first segment of a preload: dropped, or a fill of id 0 begins (R56, R82). -/
theorem preloadSegment (s : State) (sg : Segment) (h : s.fillsListed) : (s.preloadSegment sg).fillsListed := by
  unfold State.preloadSegment
  dsimp only
  split
  · exact within_same _ _ (by simp) h
  · next k _ =>
    split
    · exact within_same _ _ (by simp) h
    · split
      · exact within_same _ _ (by simp) h
      · split
        · exact within_same _ _ (by simp) h
        · next hmiss =>
          split
          · exact within_same _ _ (by simp) h
          · next hroom =>
            split
            · exact within_same _ _ (by simp) h
            · next n hvictim =>
              refine acceptSegment _ _ (State.fillsListed_of_add (r := s.preloadEntry k n) (pins := 0) h
                (Nat.lt_of_not_le hroom) (Option.not_isSome_iff_eq_none.1 hmiss) hvictim (fun hid => absurd rfl hid) rfl
                (s.fillsListed_iff.1 h).counter rfl) ?_
              simp

theorem takeSegment (s : State) (sg : Segment) (h : s.fillsListed) : (s.takeSegment sg).fillsListed := by
  unfold State.takeSegment
  split
  · next r hmatch =>
    have hr : r ∈ s.cfu.requests := by
      unfold State.matchEntry at hmatch
      split at hmatch
      · cases hmatch
      · exact List.mem_of_find?_eq_some hmatch
    unfold State.matchedSegment
    split
    · exact within_same _ _ (by simp) h
    · exact acceptSegment _ _ h hr
  · split
    · exact preloadSegment _ _ h
    · exact within_same _ _ (by simp) h

/-- An expiry: the fill of the oldest entry that has expired ends, and a planning pass follows (R80). -/
theorem fillExpiry (s : State) (h : s.fillsListed) : s.fillExpiry.fillsListed := by
  unfold State.fillExpiry
  split
  · exact h
  · next r hfind =>
    refine planning _ (within _ _ ?_)
    have hr : r ∈ (s.setDue []).cfu.requests := List.mem_of_find?_eq_some hfind
    exact State.fillsListed_of_remove (s := s.setDue []) h hr (by simp [State.expireFill])
      (State.filling_of_set (sl := Slot.empty) (by simp [State.expireFill]))

/-! ## Slots emptied (R64, R65, R67) -/

/-- A slot that is not FILLING is emptied. -/
theorem emptySlot (s : State) {n : Fin 64} (h : s.fillsListed) (hn : s.cca.slots[n].state ≠ .filling) :
    (s.emptySlot n).fillsListed :=
  State.fillsListed_of_set h rfl (s.emptySlot_cca_slots n) (Slot.filling_eq_none.2 hn).symm

theorem invalidateSlot (t : State × Nat × Nat) (n : Fin 64) (h : t.1.fillsListed) :
    (State.invalidateSlot t n).1.fillsListed := by
  unfold State.invalidateSlot
  split
  · exact h
  · split
    · next hinvalid =>
      refine emptySlot _ h fun hfilling => ?_
      generalize t.1.cca.slots[n] = sl at hinvalid hfilling
      simp [slotInvalid, hfilling] at hinvalid
    · exact h

theorem foldl_invalidateSlot (ns : List (Fin 64)) :
    ∀ t : State × Nat × Nat, t.1.fillsListed → (ns.foldl State.invalidateSlot t).1.fillsListed := by
  induction ns with
  | nil => exact fun _ h => h
  | cons n ns ih => exact fun t h => ih _ (invalidateSlot t n h)

theorem invalidateKey (s : State) (k : Key) (h : s.fillsListed) : (s.invalidateKey k).1.fillsListed := by
  unfold State.invalidateKey
  split
  · exact h
  · exact invalidateSlot (s, 0, 0) _ h

/-- A write to a tile empties RESIDENT slots alone. -/
theorem emptyTile (s : State) (t : Fin 32) (h : s.fillsListed) : (s.emptyTile t).fillsListed := by
  refine State.fillsListed_of_filling h (by simp) ?_
  funext n
  have htile (sl : Slot) : (tileSlot t sl).filling = sl.filling := by
    unfold tileSlot
    split
    · next hresident =>
      have hstate : sl.state ≠ .filling := by
        intro hfilling
        simp [hfilling] at hresident
      exact (Slot.filling_eq_none.2 hstate).symm
    · rfl
  have hn : (s.emptyTile t).cca.slots[n] = tileSlot t s.cca.slots[n] := by simp [State.emptyTile_eq]
  unfold State.filling
  rw [hn, htile]

/-! ## The events of the link and of the table memory -/

theorem queueReply (s : State) (r : CommandReply) (h : s.fillsListed) : (s.queueReply r).fillsListed :=
  State.fillsListed_of_unpinned h (by simp) (by simp)

theorem offer (s : State) (f : Frame) (h : s.fillsListed) : (s.offer f).fillsListed := by
  unfold State.offer
  split
  · exact State.fillsListed_of_unpinned h (by simp) (by simp)
  · exact within_same _ _ (by simp) h

theorem enterUp (s : State) (h : s.fillsListed) : s.enterUp.fillsListed := by
  have hevent := within_same ({ s with lnk := { s.lnk with state := .up } })
    (fun u => u.raisePlain .linkUp (linkUpDetail u.occupancy)) (by simp) h
  exact State.fillsListed_of_unpinned hevent (by simp [State.enterUp]) (by simp [State.enterUp])

theorem crcError (s : State) (n : Nat) (c : CrcCause) (h : s.fillsListed) : (s.crcError n c).fillsListed :=
  within_same _ _ (by simp) h

theorem writeEffect (s : State) (k : ObjKind) (n start stored : Nat) (h : s.fillsListed) :
    (s.writeEffect k n start stored).fillsListed := by
  cases k
  case tile => exact emptyTile _ _ h
  case route => exact State.fillsListed_of_unpinned h (by simp) (by simp [State.writeEffect])
  all_goals exact h

theorem tableWrite (s : State) (tag kind copy : Byte) (start : Item) (items : Items) (h : s.fillsListed) :
    (s.tableWrite tag kind copy start items).fillsListed := by
  unfold State.tableWrite
  split
  · exact queueReply _ _ h
  · unfold State.storeWrite
    dsimp only
    exact queueReply _ _ (writeEffect _ _ _ _ _ h)

theorem takeCommit (s : State) (tag g c : Byte) (h : s.fillsListed) : (s.takeCommit tag g c).fillsListed := by
  have hans : (s.answer tag 0x20 .accepted).fillsListed := queueReply _ _ h
  unfold State.takeCommit
  dsimp only
  split
  · exact hans
  · exact within_same _ _ (by simp) hans

/-! ## The commands -/

/-- A bare reply. -/
theorem answered (s : State) (tag code : Byte) (r : Result) (h : s.fillsListed) : (s.answer tag code r).fillsListed :=
  queueReply _ _ h

/-- A job command that is accepted: the reply, and a transition in which each head leaves the fills. -/
theorem jobCommand (s : State) (tag code : Byte) (j : JobState) (c : JobCause) (f : Head → State → State)
    (hf : ∀ g t, (f g t).cfu = t.cfu ∧ (f g t).cca.slots.map Slot.unpinned = t.cca.slots.map Slot.unpinned)
    (h : s.fillsListed) :
    ((s.answer tag code .accepted).within fun u => ((u.setJob j c).eachHead f).headsCheck).fillsListed :=
  within _ _ (transition _ _ _ _ hf (answered _ _ _ _ h))

theorem startJob (s : State) (h : s.fillsListed) : s.startJob.fillsListed :=
  headsCheck _ (planningPass _ (State.eachHead_inv _ State.startHead
    (fun _ _ ht => State.fillsListed_of_unpinned ht (by simp) (by simp))
    (State.fillsListed_of_unpinned (s := s) h (by simp) (by simp))))

theorem takeJobArm (s : State) (tag : Byte) (h : s.fillsListed) : (s.takeJobArm tag).fillsListed := by
  unfold State.takeJobArm
  split
  · split
    · exact queueReply _ _ h
    · exact jobCommand { s with jcu := _ } _ _ _ _ _ (by simp) h
  · exact answered _ _ _ _ h

theorem takeJobStart (s : State) (tag : Byte) (h : s.fillsListed) : (s.takeJobStart tag).fillsListed := by
  unfold State.takeJobStart
  split
  · split
    · exact within _ _ (startJob _ (answered _ _ _ _ h))
    · exact answered _ _ _ _ h
  · exact answered _ _ _ _ h

theorem takeJobHalt (s : State) (tag : Byte) (h : s.fillsListed) : (s.takeJobHalt tag).fillsListed := by
  unfold State.takeJobHalt
  split
  · exact jobCommand _ _ _ _ _ _ (by simp) h
  · exact answered _ _ _ _ h

theorem takeJobAbort (s : State) (tag : Byte) (h : s.fillsListed) : (s.takeJobAbort tag).fillsListed := by
  unfold State.takeJobAbort
  split
  · exact jobCommand _ _ _ _ _ _ (by simp) h
  · exact answered _ _ _ _ h

theorem takeJobClear (s : State) (tag : Byte) (h : s.fillsListed) : (s.takeJobClear tag).fillsListed := by
  unfold State.takeJobClear
  split
  · exact jobCommand _ _ _ _ _ _ (by simp) h
  · exact answered _ _ _ _ h

theorem softReset (s : State) (tag : Byte) (h : s.fillsListed) : (s.softReset tag).fillsListed := by
  have htake : (s.takeSoftReset tag).fillsListed := by
    unfold State.takeSoftReset
    split
    · exact answered _ _ _ _ h
    · unfold State.raiseReset
      split
      · exact of_reset rfl rfl
      · exact within_same _ _ (by simp) (of_reset rfl rfl)
  unfold State.softReset
  split
  · exact State.fillsListed_of_unpinned htake (by simp) (by simp)
  · exact htake

/-- A command of one head: RANGE, or what the head it names makes of it. -/
theorem forHead (s : State) (tag code a : Byte) (f : Head → State) (hf : ∀ g, (f g).fillsListed) (h : s.fillsListed) :
    (s.forHead tag code a f).fillsListed := by
  unfold State.forHead
  split
  · exact answered _ _ _ _ h
  · exact hf _

/-- An accepted head command: a change of the head that leaves the fills, passed to JCU. -/
theorem headChange (s : State) (tag code : Byte) (g : Head) (f : State → State)
    (hf : ∀ t, (f t).cfu = t.cfu ∧ (f t).cca.slots.map Slot.unpinned = t.cca.slots.map Slot.unpinned)
    (h : s.fillsListed) : ((s.answer tag code .accepted).within fun u => u.withCheck g f).fillsListed :=
  within _ _ (withCheck_same _ _ _ hf (answered _ _ _ _ h))

theorem takeHeadStop (s : State) (tag a : Byte) (h : s.fillsListed) : (s.takeHeadStop tag a).fillsListed := by
  refine forHead _ _ _ _ _ (fun g => ?_) h
  split
  · exact headChange _ _ _ _ _ (by simp) h
  · exact answered _ _ _ _ h

theorem takeHeadAbort (s : State) (tag a : Byte) (h : s.fillsListed) : (s.takeHeadAbort tag a).fillsListed := by
  refine forHead _ _ _ _ _ (fun g => ?_) h
  split
  · exact headChange _ _ _ _ _ (by simp) h
  · exact answered _ _ _ _ h

theorem takeTripClear (s : State) (tag a : Byte) (h : s.fillsListed) : (s.takeTripClear tag a).fillsListed := by
  refine forHead _ _ _ _ _ (fun g => ?_) h
  split
  · exact headChange _ _ _ _ _ (by simp) h
  · exact answered _ _ _ _ h

theorem takeHeadResume (s : State) (tag a : Byte) (h : s.fillsListed) : (s.takeHeadResume tag a).fillsListed := by
  refine forHead _ _ _ _ _ (fun g => ?_) h
  split
  · have hresume := headChange s tag 0x12 g (State.resumeHead g) (by simp) h
    unfold State.resumeEffect
    dsimp only
    split
    · exact hresume
    · exact planning _ hresume
  · exact answered _ _ _ _ h

/-- A lock set or taken away does not touch what a slot holds. -/
theorem setLock (s : State) (n : Fin 64) (on : Bool) (h : s.fillsListed) : (s.setLock n on).fillsListed :=
  State.fillsListed_of_set h rfl (s.setLock_cca_slots n on) rfl

theorem lockKey (s : State) (k : Key) (h : s.fillsListed) : (s.lockKey k).1.fillsListed := by
  unfold State.lockKey
  repeat' split
  · exact h
  · exact h
  · exact h
  · exact setLock _ _ _ h

theorem unlockKey (s : State) (k : Key) (h : s.fillsListed) : (s.unlockKey k).1.fillsListed := by
  unfold State.unlockKey
  split
  · exact h
  · exact setLock _ _ _ h

/-- The reply of a cache command and the planning pass that follows it (R60). -/
theorem cacheReply (s : State) (r : CommandReply) (h : s.fillsListed) : (s.queueReply r).afterCache.fillsListed :=
  planning _ (queueReply _ _ h)

theorem takeCacheLock (s : State) (tag : Byte) (a b : Item) (h : s.fillsListed) :
    (s.takeCacheLock tag a b).fillsListed := by
  unfold State.takeCacheLock
  split
  · exact cacheReply _ _ h
  · exact cacheReply _ _ (lockKey _ _ h)

theorem takeCacheUnlock (s : State) (tag : Byte) (a b : Item) (h : s.fillsListed) :
    (s.takeCacheUnlock tag a b).fillsListed := by
  unfold State.takeCacheUnlock
  split
  · exact cacheReply _ _ h
  · exact cacheReply _ _ (unlockKey _ _ h)

theorem takeInvalidateKey (s : State) (tag form : Byte) (a b : Item) (h : s.fillsListed) :
    (s.takeInvalidateKey tag form a b).fillsListed := by
  unfold State.takeInvalidateKey
  split
  · split
    · exact cacheReply _ _ h
    · exact cacheReply _ _ (invalidateKey _ _ h)
  · exact cacheReply _ _ h

theorem takeCacheQuery (s : State) (tag slot : Byte) (h : s.fillsListed) : (s.takeCacheQuery tag slot).fillsListed := by
  unfold State.takeCacheQuery
  split <;> exact cacheReply _ _ h

theorem takeCommand (s : State) (tag code a : Byte) (b c : Item) (h : s.fillsListed) :
    (s.takeCommand tag code a b c).fillsListed := by
  unfold State.takeCommand
  split
  · exact takeJobArm _ _ h
  · exact takeJobStart _ _ h
  · exact takeJobHalt _ _ h
  · exact takeJobAbort _ _ h
  · exact takeJobClear _ _ h
  · exact softReset _ _ h
  · exact takeHeadStop _ _ _ h
  · exact takeHeadAbort _ _ _ h
  · exact takeHeadResume _ _ _ h
  · exact takeTripClear _ _ _ h
  · exact takeCommit _ _ _ _ h
  · exact takeCacheLock _ _ _ _ h
  · exact takeCacheUnlock _ _ _ _ h
  · split
    · exact cacheReply _ _ (foldl_invalidateSlot _ _ h)
    · exact takeInvalidateKey _ _ _ _ _ h
  · exact takeCacheQuery _ _ _ h
  · exact h

theorem takeInbound (s : State) (i : Inbound) (h : s.fillsListed) : (s.takeInbound i).fillsListed := by
  cases i with
  | segment sg => exact takeSegment _ _ h
  | tableWrite tag kind copy start items => exact tableWrite _ _ _ _ _ _ h
  | tableRead tag kind copy start count =>
    exact State.fillsListed_of_unpinned (s := s) h (by simp [State.takeInbound]) (by simp [State.takeInbound])
  | command tag code a b c => exact takeCommand _ _ _ _ _ _ h
  | unknown kind tag code =>
    exact State.fillsListed_of_unpinned (s := s) h (by simp [State.takeInbound]) (by simp [State.takeInbound])
  | badSegment size => exact crcError _ _ _ h

/-! ## The events of the spindle and of the head ports -/

theorem endRevolution (s : State) (h : s.fillsListed) : s.endRevolution.fillsListed := by
  unfold State.endRevolution
  split
  · exact h
  · split
    · exact h
    · exact State.eachHead_inv _ _ (fun g _ ht => withCheck_same _ g _ (by simp) ht) (within_same _ _ (by simp) h)

theorem passSpindle (x : SpindleState) (s : State) (h : s.fillsListed) : (State.passSpindle x s).fillsListed := by
  unfold State.passSpindle
  split
  · exact within _ _ (transition _ _ _ _ (by simp) h)
  · exact h

theorem raiseSpindle (x : SpindleState) (p : Nat) (s : State) (h : s.fillsListed) :
    (State.raiseSpindle x p s).fillsListed := by
  unfold State.raiseSpindle
  repeat' split
  · exact h
  · exact within_same _ _ (by simp) h
  · exact within_same _ _ (by simp) h
  · exact h
  · exact h

theorem serveIndex (s : State) (h : s.fillsListed) : s.serveIndex.fillsListed := by
  have hcommit := within_same s (fun u => u.applyPending .index) (by simp) h
  have hheads := State.eachHead_inv _ (fun g t => t.withCheck g (State.indexHead g))
    (fun g _ ht => withCheck_same _ g _ (by simp) ht) hcommit
  exact planningPass _ (State.eachHead_inv _ State.setPhase
    (fun _ _ ht => State.fillsListed_of_unpinned ht (by simp) (by simp)) hheads)

theorem indexArrival (s : State) (h : s.fillsListed) : s.indexArrival.fillsListed := by
  refine within _ _ ?_
  have hend := endRevolution (s.setDue []) h
  exact serveIndex _ (raiseSpindle _ _ _ (passSpindle _ _ hend))

theorem indexTimeout (s : State) (h : s.fillsListed) : s.indexTimeout.fillsListed := by
  unfold State.indexTimeout
  split
  · exact within_same _ _ (by simp) (passSpindle _ _ h)
  · exact h

theorem cellStrobe (s : State) (ph : Phase) (h : s.fillsListed) : (s.cellStrobe ph).fillsListed := by
  unfold State.cellStrobe
  split
  · exact h
  · exact within _ _ (State.eachHead_inv _ _
      (fun _ _ ht => State.fillsListed_of_unpinned ht (by simp) (by simp)) h)

theorem faultActive (s : State) (g : Head) (n : Nat) (h : s.fillsListed) : (s.faultActive g n).fillsListed := by
  unfold State.faultActive
  dsimp only
  split
  · unfold State.faultTaken
    dsimp only
    split
    · exact within _ _ (withCheck_same _ _ _ (by simp) h)
    · exact h
  · exact h

/-- Every kind of event keeps the invariant. -/
theorem closed : State.Closed State.fillsListed where
  queue _ _ h := h
  tick _ _ h := h
  powerOn _ _ _ _ := of_reset rfl rfl
  offer := offer
  pop _ h := State.fillsListed_of_unpinned h (by simp) (by simp)
  inbound := takeInbound
  crc := crcError
  reception _ _ h := h
  symbol _ _ h := h
  linkState _ _ h := h
  enterUp := enterUp
  loseLink s h := within_same { s with lnk := _ } _ (by simp) h
  endSending _ h := State.fillsListed_of_unpinned h (by simp) (by simp)
  read _ _ _ h := State.fillsListed_of_unpinned h (by simp) (by simp)
  expiry := fillExpiry
  levels _ _ _ h := h
  index := indexArrival
  timeout := indexTimeout
  strobe := cellStrobe
  stepDone _ _ _ h := State.fillsListed_of_unpinned h (by simp) (by simp)
  stepDoneRelease _ _ _ h := h
  fault := faultActive
  faultRelease _ _ _ h := h

end State.fillsListed

/-- Settles O58: every kind of event keeps the invariant. -/
theorem stepKeepsFillsListed : Obligations.StepKeepsFillsListed := by
  unfold Obligations.StepKeepsFillsListed
  exact State.fillsListed.closed.step

end Sys2Proof.Machine

/-! Segments that are dropped: the classes of Table 4.2 and the tests of a preload in their order, each with the one event
that it raises (R74, R75, R76, R82, assumption 25). -/

namespace Sys2Proof.Machine

/-! ## Keys and entries (R74) -/

theorem keyOf_of_toNat {k : Key} {tile column : Item} (htile : k.tile.val = tile.toNat)
    (hcolumn : k.column.val = column.toNat) : keyOf tile column = some k := by
  have htl := k.tile.isLt
  have hcl := k.column.isLt
  unfold keyOf
  rw [dif_pos ⟨by omega, by omega⟩]
  exact congrArg some (congrArg₂ Key.mk (Fin.ext htile.symm) (Fin.ext hcolumn.symm))

theorem keyOf_of_out_of_range {tile column : Item} (h : 31 < tile.toNat ∨ 4095 < column.toNat) :
    keyOf tile column = none := dif_neg (by omega)

theorem toNat_of_keyOf {k : Key} {tile column : Item} (h : keyOf tile column = some k) :
    k.tile.val = tile.toNat ∧ k.column.val = column.toNat := by
  unfold keyOf at h
  split at h
  · cases h
    exact ⟨rfl, rfl⟩
  · cases h

/-- The entry that a segment with a key matches. -/
theorem State.matchEntry_of_keyOf (s : State) {sg : Segment} {k : Key} (hk : keyOf sg.tile sg.column = some k) :
    s.matchEntry sg = s.cfu.requests.find? fun r => r.isFor sg.id k := by
  unfold State.matchEntry
  rw [hk]

/-- A segment with no entry of its id, tile and column matches none. -/
theorem State.matchEntry_eq_none {s : State} {sg : Segment}
    (h : ∀ r ∈ s.cfu.requests, r.id = sg.id → r.key.tile.val = sg.tile.toNat → r.key.column.val ≠ sg.column.toNat) :
    s.matchEntry sg = none := by
  cases hk : keyOf sg.tile sg.column with
  | none =>
    unfold State.matchEntry
    rw [hk]
  | some k =>
    obtain ⟨htile, hcolumn⟩ := toNat_of_keyOf hk
    rw [s.matchEntry_of_keyOf hk, List.find?_eq_none]
    intro r hr hfor
    obtain ⟨hid, rfl⟩ : r.id = sg.id ∧ r.key = k := by simpa [Request.isFor] using hfor
    exact h r hr hid htile hcolumn

/-! ## Segments out of order (R76) -/

/-- A matched segment at another offset than the next. -/
theorem State.takeSegment_of_offset {s : State} {sg : Segment} {r : Request} (hmatch : s.matchEntry sg = some r)
    (hoffset : sg.offset.toNat ≠ r.next) : s.takeSegment sg = s.within fun u => u.fillOrder sg .offset := by
  simp [State.takeSegment, hmatch, State.matchedSegment, Request.orderFault, hoffset]

/-- A matched segment at the next offset that is empty or runs past the end. -/
theorem State.takeSegment_of_length {s : State} {sg : Segment} {r : Request} (hmatch : s.matchEntry sg = some r)
    (hoffset : sg.offset.toNat = r.next) (hlength : r.length < sg.offset.toNat + sg.words.length ∨ sg.words = []) :
    s.takeSegment sg = s.within fun u => u.fillOrder sg .length := by
  have hfault : r.orderFault sg = some .length := by
    unfold Request.orderFault
    rw [if_neg (not_not_intro hoffset), if_pos (by simpa using hlength)]
  simp [State.takeSegment, hmatch, State.matchedSegment, hfault]

/-! ## Strays (R75) -/

/-- A segment that matches no entry and does not begin a preload. -/
theorem State.takeSegment_of_stray {s : State} {sg : Segment} (hmatch : s.matchEntry sg = none)
    (hbegin : sg.id ≠ 0 ∨ sg.offset ≠ 0) : s.takeSegment sg = s.within fun u => u.strayData sg := by
  unfold State.takeSegment
  rw [hmatch]
  exact if_neg fun h => hbegin.elim (· h.1) (· h.2)

/-! ## The first segment of a preload (R82) -/

/-- A segment of id 0 and offset 0 that matches no entry begins a preload. -/
theorem State.takeSegment_of_preload {s : State} {sg : Segment} (hmatch : s.matchEntry sg = none) (hid : sg.id = 0)
    (hoffset : sg.offset = 0) : s.takeSegment sg = s.preloadSegment sg := by
  unfold State.takeSegment
  rw [hmatch]
  exact if_pos ⟨hid, hoffset⟩

theorem State.preloadSegment_of_no_key (s : State) {sg : Segment} (hk : keyOf sg.tile sg.column = none) :
    s.preloadSegment sg = s.within fun u => u.strayData sg := by
  unfold State.preloadSegment
  rw [hk]

section
variable {s : State} {sg : Segment} {k : Key} (hk : keyOf sg.tile sg.column = some k)
include hk

/-- Test 1: the tile is not valid, or the column is not in it. -/
theorem State.preloadSegment_of_no_column
    (hcolumn : tileValid s.tlm.tiles[k.tile] = false ∨ tileColumns s.tlm.tiles[k.tile] ≤ k.column.val) :
    s.preloadSegment sg = s.within fun u => u.strayData sg := by
  unfold State.preloadSegment
  rw [hk]
  exact if_pos hcolumn

variable (hvalid : tileValid s.tlm.tiles[k.tile] = true) (hcolumn : k.column.val < tileColumns s.tlm.tiles[k.tile])
include hvalid hcolumn

/-- Test 2: a count of 0 or above L. -/
theorem State.preloadSegment_of_length (hlength : tileLength s.tlm.tiles[k.tile] < sg.words.length ∨ sg.words = []) :
    s.preloadSegment sg = s.within fun u => u.fillOrder sg .length := by
  unfold State.preloadSegment
  rw [hk]
  dsimp only
  rw [if_neg (by simpa using And.intro hvalid hcolumn), if_pos (by simpa using hlength)]

variable (hwords : sg.words ≠ []) (hlength : sg.words.length ≤ tileLength s.tlm.tiles[k.tile])
include hwords hlength

/-- Test 3: the cache holds the key. -/
theorem State.preloadSegment_of_held (hheld : s.lookup k ≠ none) :
    s.preloadSegment sg = s.within fun u => u.strayData sg := by
  unfold State.preloadSegment
  rw [hk]
  dsimp only
  rw [if_neg (by simpa using And.intro hvalid hcolumn), if_neg (by simpa [hwords] using hlength),
    if_pos (Option.isSome_iff_ne_none.2 hheld)]

variable (hmiss : s.lookup k = none)
include hmiss

/-- Test 4: no entry is free. -/
theorem State.preloadSegment_of_no_entry (hfull : 16 ≤ s.cfu.requests.length) :
    s.preloadSegment sg = s.within fun u => u.preloadConflict k := by
  unfold State.preloadSegment
  rw [hk]
  dsimp only
  rw [if_neg (by simpa using And.intro hvalid hcolumn), if_neg (by simpa [hwords] using hlength),
    if_neg (by simp [hmiss])]
  exact if_pos hfull

/-- Test 5: no way of the set can be the victim. -/
theorem State.preloadSegment_of_no_victim (hroom : s.cfu.requests.length < 16) (hvictim : s.victim (keySet k) = none) :
    s.preloadSegment sg = s.within fun u => u.preloadConflict k := by
  unfold State.preloadSegment
  rw [hk]
  dsimp only
  rw [if_neg (by simpa using And.intro hvalid hcolumn), if_neg (by simpa [hwords] using hlength),
    if_neg (by simp [hmiss]), hvictim]
  exact if_neg (Nat.not_le.2 hroom)

end

/-! ## A COLUMN_DATA that is taken at once -/

/-- Lookup and the choice of a victim read the slots and the LRU marks. -/
theorem State.lookup_of_cca {s t : State} (h : t.cca = s.cca) (k : Key) : t.lookup k = s.lookup k := by
  unfold State.lookup
  rw [h]

theorem State.victim_of_cca {s t : State} (h : t.cca = s.cca) (set : Fin 32) : t.victim set = s.victim set := by
  unfold State.victim
  rw [h]

theorem exec_columnData_of_takes {s : State} {sg : Segment} (tick : Nat) (h : s.takes (columnDataFrame sg)) :
    exec (.columnData sg tick) s = .next ((s.taken tick).takeSegment sg) :=
  congrArg Host.Outcome.next (State.present_of_takes s tick _ _ h)

/-- Settles O33: the frame is taken at once, and a segment that is dropped meets one of the tests, each of which raises its
event and does nothing else. -/
theorem droppedSegmentsRaiseOneEvent : Obligations.DroppedSegmentsRaiseOneEvent := by
  unfold Obligations.DroppedSegmentsRaiseOneEvent
  intro s sg tick htakes dropped stray
  obtain ⟨-, htlm, -, hcca, hcfu, -⟩ := s.taken_keeps tick
  have hdropped {k : EventKind} {d : Word32}
      (h : (s.taken tick).takeSegment sg = (s.taken tick).within fun u => u.raisePlain k d) : dropped k d :=
    (exec_columnData_of_takes tick htakes).trans (congrArg Host.Outcome.next h)
  refine ⟨fun k htile hcolumn r hfind => ?_, fun hnone => ?_⟩
  · have hmatch : (s.taken tick).matchEntry sg = some r := by
      rw [State.matchEntry_of_keyOf _ (keyOf_of_toNat htile hcolumn), hcfu]
      exact hfind
    rw [htile, hcolumn]
    exact ⟨fun hoffset => hdropped (State.takeSegment_of_offset hmatch hoffset),
      fun hoffset hlength => hdropped (State.takeSegment_of_length hmatch hoffset hlength)⟩
  · have hmatch : (s.taken tick).matchEntry sg = none := State.matchEntry_eq_none (hcfu ▸ hnone)
    refine ⟨fun hbegin => hdropped (State.takeSegment_of_stray hmatch hbegin), fun hid hoffset => ?_⟩
    have hpreload := State.takeSegment_of_preload hmatch hid hoffset
    refine ⟨fun hrange => hdropped
      (hpreload.trans (State.preloadSegment_of_no_key _ (keyOf_of_out_of_range hrange))), fun k htile hcolumn => ?_⟩
    have hk := keyOf_of_toNat htile hcolumn
    have hdetail : fillOrderDetail 0 k.tile.val k.column.val .length =
        fillOrderDetail sg.id.toNat sg.tile.toNat sg.column.toNat .length := by
      rw [hid, htile, hcolumn]
      rfl
    simp only [hdetail, ← htlm, ← hcfu, ← State.lookup_of_cca hcca, ← State.victim_of_cca hcca]
    exact ⟨fun hno => hdropped (hpreload.trans (State.preloadSegment_of_no_column hk hno)), fun hvalid hin =>
      ⟨fun hlength => hdropped (hpreload.trans (State.preloadSegment_of_length hk hvalid hin hlength)),
        fun hwords hlength =>
          ⟨fun hheld => hdropped (hpreload.trans (State.preloadSegment_of_held hk hvalid hin hwords hlength hheld)),
            fun hmiss =>
              ⟨fun hfull => hdropped
                (hpreload.trans (State.preloadSegment_of_no_entry hk hvalid hin hwords hlength hmiss hfull)),
                fun hroom hvictim => hdropped (hpreload.trans
                  (State.preloadSegment_of_no_victim hk hvalid hin hwords hlength hmiss hroom hvictim))⟩⟩⟩⟩

end Sys2Proof.Machine

/-! Occurrences while the upstream lane is not free and no kind has a routing action: EVR gathers them in the record of their
kind and does nothing else (R135, R177). -/

namespace Sys2Proof.Machine

/-! ## One occurrence -/

/-- The lane is not free while a frame is in transmission, or out of UP. -/
theorem State.laneFree_eq_false {s : State} (h : s.lnk.sending.isSome = true ∨ s.lnk.state ≠ .up) :
    s.laneFree = false := by
  unfold State.laneFree
  obtain h | h := h
  · rw [← Option.not_isSome, h]
    simp
  · simp [h]

/-- The records of EVR after one more occurrence of a kind (R177). -/
def State.gathered (s : State) (k : EventKind) (detail : Word32) (mask : BitVec 8) : Vector (Option Pending) 23 :=
  if s.level k = 0 then s.evr.records else s.evr.records.set k.num (some (gather s.evr.records[k.num] detail mask))

/-- With no action for its kind and the lane not free, an occurrence is gathered and nothing else happens. -/
theorem State.raise_of_lane_busy {s : State} {k : EventKind} (haction : s.routeAction k = .none)
    (hbusy : s.laneFree = false) (d : Word32) (m : BitVec 8) :
    s.raise k d m = { s with evr := { s.evr with records := s.gathered k d m } } := by
  have harbitrate (t : State) (ht : t.lnk = s.lnk) : t.arbitrate = t := by
    have hlane : t.laneFree = s.laneFree := congrArg (fun l : Link => l.state == .up && l.sending.isNone) ht
    unfold State.arbitrate
    rw [if_neg (by simp [hlane, hbusy])]
  unfold State.raise
  rw [if_pos haction]
  unfold State.recordEvent State.gathered
  split
  · rfl
  · dsimp only
    split
    · exact harbitrate _ rfl
    · rfl

/-- Such an occurrence as a part of an event. -/
theorem State.within_raise_of_lane_busy {s : State} (hno : s.noActions) (hbusy : s.laneFree = false) (k : EventKind)
    (d : Word32) (m : BitVec 8) :
    (s.within fun u => u.raise k d m) = { s with evr := { s.evr with records := s.gathered k d m } } := by
  have hraise : (s.setDue []).raise k d m =
      { s.setDue [] with evr := { (s.setDue []).evr with records := s.gathered k d m } } :=
    State.raise_of_lane_busy (s := s.setDue []) (hno k) hbusy d m
  rw [State.within_of_no_due _ _ (State.raise_due (s := s.setDue []) hno k d m), hraise]
  rfl

/-! ## A trip of a WAITING head (R135) -/

/-- Every head is among the eight that a pass takes. -/
theorem mem_headOrder (h : Head) : h ∈ headOrder := by
  revert h
  decide

/-- JCU's check finds an enabled head that is not FINISHED, so a job that is not HALTING stays as it is (R147). -/
theorem State.headsCheck_of_unfinished {s : State} {h : Head} (henabled : s.enabled h = true)
    (hstate : s.heads[h].state ≠ .finished) (hjob : s.jcu.state ≠ .halting) : s.headsCheck = s := by
  have hall : s.allFinished = false := by
    rw [← Bool.not_eq_true]
    intro hfinished
    have hh := List.all_eq_true.1 hfinished h (mem_headOrder h)
    exact hstate (by simpa [henabled] using hh)
  unfold State.headsCheck
  rw [hall, if_neg hjob]
  exact ite_self s

/-- A trip of a head with no track in progress moves the head and its slots alone. -/
theorem State.tripHead_of_no_track {s : State} {h : Head} (hnone : s.heads[h].activeRecord = none) :
    s.tripHead h = (s.setHeadState h .tripped).dropPlanned h := by
  unfold State.tripHead State.endTrack
  rw [hnone]

/-- A fault edge that trips a LATCHED head. -/
theorem State.faultActive_of_trips {s : State} {h : Head} {held : Nat} (hheld : levelTaken held = true)
    (hlevel : s.ports[h].fault = false) (hlatched : s.perCell h = false) (htrips : s.heads[h].state.trips = true) :
    s.faultActive h held = ((s.modPort h fun p => { p with faultPin := true }).modPort h
      fun p => { p with fault := true }).within fun u =>
        u.withCheck h fun v => (v.tripHead h).raiseTrip h s.heads[h] .edge := by
  unfold State.faultActive
  dsimp only
  rw [if_pos (by rw [hheld, hlevel]; rfl)]
  unfold State.faultTaken
  dsimp only
  exact if_pos (Bool.and_eq_true_iff.2 ⟨congrArg (!·) hlatched, htrips⟩)

/-- A trip of a WAITING head with no track in progress, as EVR sees it: one HEAD_TRIP, gathered. -/
theorem State.within_trip_evr {s : State} {h : Head} (hno : s.noActions) (hbusy : s.laneFree = false)
    (henabled : s.enabled h = true) (hjob : s.jcu.state ≠ .halting) (hnone : s.heads[h].activeRecord = none)
    (before : Channel) :
    (s.within fun u => u.withCheck h fun v => (v.tripHead h).raiseTrip h before .edge).evr =
      { s.evr with
        records := s.gathered .headTrip (tripDetail before.tripTrack .edge before.state) (headMark h) } := by
  have htrip := State.tripHead_of_no_track (s := s.setDue []) hnone
  have hevr : ((s.setDue []).tripHead h).evr = (s.setDue []).evr := by simp [htrip]
  have htlm : ((s.setDue []).tripHead h).tlm = s.tlm := by simp
  have hlane : ((s.setDue []).tripHead h).laneFree = false := by
    unfold State.laneFree at hbusy ⊢
    simpa [htrip] using hbusy
  have hno' : ((s.setDue []).tripHead h).noActions := State.noActions_of_route (congrArg Tables.route htlm) hno
  have hraise : ((s.setDue []).tripHead h).raiseTrip h before .edge = _ :=
    State.raise_of_lane_busy (hno' .headTrip) hlane _ _
  have hcheck : ((s.setDue []).withCheck h fun v => (v.tripHead h).raiseTrip h before .edge) =
      ((s.setDue []).tripHead h).raiseTrip h before .edge := by
    unfold State.withCheck
    dsimp only
    split
    · rfl
    · refine State.headsCheck_of_unfinished (h := h) ?_ ?_ (by simpa using hjob)
      · unfold State.enabled at henabled ⊢
        simpa using henabled
      · simp [htrip, State.dropPlanned]
  have hgathered (k d m) : ((s.setDue []).tripHead h).gathered k d m = s.gathered k d m := by
    unfold State.gathered State.level
    rw [hevr, htlm]
    rfl
  rw [State.within_of_no_due _ _ (by rw [hcheck, hraise, hevr]; rfl), hcheck, hraise, hgathered]
  simp [State.setDue]

/-- Settles O51: a stray segment and the trip of a WAITING head are each one occurrence on a lane that is not free. -/
theorem occurrencesGatherInOneRecord : Obligations.OccurrencesGatherInOneRecord := by
  unfold Obligations.OccurrencesGatherInOneRecord
  refine ⟨fun s sg tick htakes hno hbusy hid hne => ?_,
    fun s h tick hno hbusy hlevel hlatched henabled hjob hwaiting hnone => ?_⟩
  · intro gathered
    obtain ⟨-, htlm, -, -, hcfu, -, -, -, hevr, -⟩ := s.taken_keeps tick
    have hgather : gather s.evr.records[EventKind.strayData.num]
        (strayDetail sg.id.toNat sg.tile.toNat sg.column.toNat) 0 = gathered := by
      simp only [gathered]
      generalize s.evr.records[EventKind.strayData.num] = p
      cases p <;> simp [gather]
    have hlane : (s.taken tick).laneFree = false := by
      refine State.laneFree_eq_false ?_
      unfold State.taken
      split <;> exact hbusy
    have hstray : (s.taken tick).takeSegment sg = (s.taken tick).within fun u => u.strayData sg :=
      State.takeSegment_of_stray (State.matchEntry_eq_none fun r hr he => absurd he (hid r (hcfu ▸ hr))) (.inl hne)
    rw [exec_columnData_of_takes tick htakes, hstray]
    refine congrArg Host.Outcome.next ((State.within_raise_of_lane_busy
      (State.noActions_of_route (congrArg Tables.route htlm) hno) hlane _ _ _).trans ?_)
    have hgathered : (s.taken tick).gathered .strayData (strayDetail sg.id.toNat sg.tile.toNat sg.column.toNat) 0 =
        if s.level .strayData = 0 then s.evr.records
        else s.evr.records.set EventKind.strayData.num (some gathered) := by
      unfold State.gathered State.level
      rw [hevr, htlm, hgather]
    rw [hgathered, hevr]
  · intro gathered
    have hgather : gather s.evr.records[EventKind.headTrip.num]
        (tripDetail s.heads[h].tripTrack .edge s.heads[h].state) (headMark h) = gathered := by
      simp only [gathered]
      have htrack : s.heads[h].tripTrack = s.heads[h].nextTrack := by
        unfold Channel.tripTrack
        rw [hnone]
      rw [htrack, hwaiting]
      generalize s.evr.records[EventKind.headTrip.num] = p
      cases p <;> rfl
    have htrips : s.heads[h].state.trips = true := by
      rw [hwaiting]
      rfl
    have htake := State.faultActive_of_trips (s := s.at tick) (held := 4) rfl hlevel hlatched htrips
    refine ⟨_, congrArg Host.Outcome.next htake, ?_⟩
    generalize hu : ((s.at tick).modPort h _).modPort h _ = u
    obtain ⟨hjcu, htlm, hlnk, hheads, hevr⟩ :
        u.jcu = s.jcu ∧ u.tlm = s.tlm ∧ u.lnk = s.lnk ∧ u.heads = s.heads ∧ u.evr = s.evr := by
      subst hu
      simp
    rw [State.within_trip_evr (State.noActions_of_route (congrArg Tables.route htlm) hno)
      (State.laneFree_eq_false (hlnk ▸ hbusy)) (by rwa [State.enabled, htlm]) (hjcu ▸ hjob) (hheads ▸ hnone)]
    unfold State.gathered State.level
    rw [hevr, htlm, show (s.at tick).heads = s.heads from rfl, hgather]

end Sys2Proof.Machine

/-! An index as the STU takes it: the levels of the input, and the measurement that an arrival makes, whatever the heads and
the job do at the same index (R88 to R96). -/

namespace Sys2Proof.Machine

/-! ## The levels of the input (R88) -/

/-- A level is taken from its fourth tick on. -/
theorem levelTaken_eq (held : Nat) : levelTaken held = decide (4 ≤ held) := rfl

/-- No arrival: the active level is not taken, or no inactive level has been taken since the active one. -/
theorem Spindle.rises_eq_false {u : Spindle} {low held : Nat} (h : held < 4 ∨ (u.index = true ∧ low < 4)) :
    u.rises low held = false := by
  rcases h with hheld | ⟨hindex, hlow⟩
  · simp [Spindle.rises, levelTaken_eq, Nat.not_le.2 hheld]
  · simp [Spindle.rises, levelTaken_eq, hindex, Nat.not_le.2 hlow]

/-- An arrival: the active level is taken, and the filtered level was inactive. -/
theorem Spindle.rises_eq_true {u : Spindle} {low held : Nat} (hheld : 4 ≤ held) (hlow : u.index = false ∨ 4 ≤ low) :
    u.rises low held = true := by
  rcases hlow with hindex | hlow
  · simp [Spindle.rises, levelTaken_eq, hheld, hindex]
  · simp [Spindle.rises, levelTaken_eq, hheld, hlow]

/-- With no arrival the filtered level stays active until an inactive one is taken (R88). -/
theorem Spindle.takeLevels_of_not_rises {u : Spindle} {low held : Nat}
    (h : held < 4 ∨ (u.index = true ∧ low < 4)) :
    u.takeLevels low held = { u with
      index := u.index && decide (low < 4), indexPin := decide (0 < held) || (u.indexPin && decide (low = 0)) } := by
  have hlow : (!levelTaken low) = decide (low < 4) := by
    rw [levelTaken_eq, ← decide_not]
    exact decide_eq_decide.2 Nat.not_le
  have hindex : ((u.index && !levelTaken low) || levelTaken held) = (u.index && decide (low < 4)) := by
    rw [hlow]
    rcases h with hheld | ⟨hactive, hshort⟩
    · simp [levelTaken_eq, hheld]
    · simp [hactive, hshort]
  simp only [Spindle.takeLevels, hindex]
  rfl

/-- The state in which an index arrival is taken. -/
def State.atIndex (s : State) (low held tick : Nat) : State :=
  { s.at tick with stu := s.stu.takeLevels low held }

/-- What the row and the levels of the input leave. -/
@[simp] theorem State.atIndex_keeps (s : State) (low held tick : Nat) :
    (s.atIndex low held tick).tlm = s.tlm ∧ (s.atIndex low held tick).lnk = s.lnk ∧
    (s.atIndex low held tick).evr = s.evr ∧ (s.atIndex low held tick).cca = s.cca ∧
    (s.atIndex low held tick).now = max s.now tick ∧
    (s.atIndex low held tick).stu = s.stu.takeLevels low held := by
  and_intros <;> rfl

/-- An INDEX that is an arrival. -/
theorem exec_index_of_rises {s : State} {low held : Nat} (tick : Nat) (hheld : 4 ≤ held)
    (hlow : s.stu.index = false ∨ 4 ≤ low) :
    exec (.index ⟨low, held⟩ tick) s = .next (s.atIndex low held tick).indexArrival :=
  congrArg Host.Outcome.next (if_pos (Spindle.rises_eq_true hheld hlow))

/-- An INDEX that is no arrival sets the levels of the input alone. -/
theorem exec_index_of_not_rises {s : State} {low held : Nat} (tick : Nat)
    (h : held < 4 ∨ (s.stu.index = true ∧ low < 4)) :
    exec (.index ⟨low, held⟩ tick) s = .next (s.atIndex low held tick) :=
  congrArg Host.Outcome.next (if_neg (by simp [Spindle.rises_eq_false h]))

/-! ## The measurement at an arrival (R88 to R96) -/

/-- The revolution that an arrival begins, if it begins one (R95, R96). -/
def SpindleState.revolution (x : SpindleState) (now pAvg cells : Nat) : Option Revolution :=
  if x.strobes then some { tIdx := now, period := pAvg, cells, posA := 0, posB := 0 } else none

/-- The measurement: the spindle of R89 to R92 with the revolution that it begins. -/
theorem State.measureIndex_stu (s : State) :
    s.measureIndex.stu = { s.stu.arrive s.now s.period (s.inTolerance s.period) with
      rev := (s.stu.arrive s.now s.period (s.inTolerance s.period)).state.revolution s.now
        (s.stu.arrive s.now s.period (s.inTolerance s.period)).pAvg s.cells } := rfl

/-- The measurement reads the spindle, the tick and the layout alone. -/
theorem State.measureIndex_stu_of_same {s t : State} (hstu : t.stu = s.stu) (hnow : t.now = s.now)
    (hlayout : t.tlm.layout = s.tlm.layout) : t.measureIndex.stu = s.measureIndex.stu := by
  have hperiod : t.period = s.period := by rw [State.period, hnow, hstu]; rfl
  have htol (p : Nat) : t.inTolerance p = s.inTolerance p := by
    rw [State.inTolerance, State.nominal, State.tolerance, hlayout]; rfl
  have hcells : t.cells = s.cells := by rw [State.cells, hlayout]; rfl
  rw [t.measureIndex_stu, s.measureIndex_stu, hstu, hnow, hperiod, htol, hcells]

/-- The spindle after an arrival is what the measurement makes of it: the cells dropped, the job and the users of the index
leave it. -/
theorem State.indexArrival_stu (s : State) : s.indexArrival.stu = s.measureIndex.stu := by
  have hmeasure : (s.setDue []).endRevolution.measureIndex.stu = s.measureIndex.stu :=
    State.measureIndex_stu_of_same (by simp) (by simp) (by simp)
  simp [State.indexArrival, State.within, hmeasure]

/-! ## The states of Table 5.2 -/

/-- A period out of tolerance in MEASURING clears the ring (R90). -/
theorem Spindle.arrive_measuring_out {u : Spindle} (h : u.state = .measuring) (now p : Nat) :
    u.arrive now p false = { u.clearRing with tPrev := some now } := by
  simp only [Spindle.arrive, h]
  rfl

/-- A period in tolerance in MEASURING is stored, and the count stays short of a full ring (R90). -/
theorem Spindle.arrive_measuring_in {u : Spindle} (h : u.state = .measuring) (hvalid : u.valid < 3) (now p : Nat) :
    u.arrive now p true = { u.store p with valid := u.valid + 1, tPrev := some now } := by
  have hcount : (u.store p).valid = u.valid + 1 := by simp only [Spindle.store]; omega
  have hshort : (u.store p).valid ≠ 4 := by omega
  simp only [Spindle.arrive, h, Spindle.measuring, if_neg hshort, if_true, ← hcount]

/-- The fourth period in tolerance fills the ring and locks the spindle (R90, R93). -/
theorem Spindle.arrive_measuring_full {u : Spindle} (h : u.state = .measuring) (hvalid : u.valid = 3) (now p : Nat) :
    u.arrive now p true = { (u.store p).form with state := .locked, tPrev := some now } := by
  have hfull : (u.store p).valid = 4 := by simp only [Spindle.store, hvalid]; rfl
  simp only [Spindle.arrive, h, Spindle.measuring, if_pos hfull, if_true]

/-- A period in tolerance in LOCKED is stored (R91). -/
theorem Spindle.arrive_locked_in {u : Spindle} (h : u.state = .locked) (now p : Nat) :
    u.arrive now p true = { (u.store p).form with tPrev := some now } := by
  simp only [Spindle.arrive, h]
  rfl

/-- A period out of tolerance in LOCKED is stored too, and takes the spindle to OFF_SPEED (R91). -/
theorem Spindle.arrive_locked_out {u : Spindle} (h : u.state = .locked) (now p : Nat) :
    u.arrive now p false = { (u.store p).form with run := 0, state := .offSpeed, tPrev := some now } := by
  simp only [Spindle.arrive, h]
  rfl

/-- A period in tolerance in OFF_SPEED advances the run, which locks the spindle at 4 (R92). -/
theorem Spindle.arrive_offSpeed_in {u : Spindle} (h : u.state = .offSpeed) (now p : Nat) :
    u.arrive now p true = { (u.store p).form with
      run := min (u.run + 1) 4, state := if min (u.run + 1) 4 = 4 then .locked else .offSpeed, tPrev := some now } := by
  simp only [Spindle.arrive, h]
  rfl

/-- A period out of tolerance in OFF_SPEED starts the run again (R92). -/
theorem Spindle.arrive_offSpeed_out {u : Spindle} (h : u.state = .offSpeed) (now p : Nat) :
    u.arrive now p false = { (u.store p).form with run := 0, tPrev := some now } := by
  simp only [Spindle.arrive, h]
  rfl

/-- In LOCKED and OFF_SPEED the slot of the write pointer takes the period, P_avg is formed anew, and the index begins a
strobed revolution (R91 to R93, R95). -/
theorem Spindle.arrive_stores {u : Spindle} (h : u.state = .locked ∨ u.state = .offSpeed) (now p : Nat) (ok : Bool) :
    let v := u.arrive now p ok
    v.ring = (u.store p).ring ∧ v.writePtr = u.writePtr + 1 ∧ v.pAvg = (u.store p).average ∧ v.state.strobes = true := by
  have hstrobes : (u.store p).form.state.strobes = true := by
    rcases h with h | h <;> simp [Spindle.form, Spindle.store, h, SpindleState.strobes]
  rcases h with h | h
  · cases ok
    · rw [Spindle.arrive_locked_out h]
      exact ⟨rfl, rfl, rfl, rfl⟩
    · rw [Spindle.arrive_locked_in h]
      exact ⟨rfl, rfl, rfl, hstrobes⟩
  · cases ok
    · rw [Spindle.arrive_offSpeed_out h]
      exact ⟨rfl, rfl, rfl, hstrobes⟩
    · rw [Spindle.arrive_offSpeed_in h]
      exact ⟨rfl, rfl, rfl, by dsimp only; split <;> rfl⟩

/-- An arrival never leaves the spindle in NO_SIGNAL, and takes it to OFF_SPEED from LOCKED alone, by a period out of
tolerance (Table 5.2). -/
theorem Spindle.arrive_state {u : Spindle} {ok : Bool} (hok : u.state = .locked → ok = true) (now p : Nat) :
    (u.arrive now p ok).state ≠ .noSignal ∧ ((u.arrive now p ok).state = .offSpeed → u.state = .offSpeed) := by
  cases hst : u.state with
  | noSignal => simp [Spindle.arrive, hst]
  | measuring =>
    have hnext : (u.arrive now p ok).state = .locked ∨ (u.arrive now p ok).state = .measuring := by
      simp only [Spindle.arrive, hst, Spindle.measuring]
      split
      · split
        · exact .inl rfl
        · exact .inr hst
      · exact .inr hst
    rcases hnext with hnext | hnext <;> simp [hnext]
  | locked =>
    have hstays : (u.arrive now p ok).state = .locked := by
      rw [hok hst, Spindle.arrive_locked_in hst]
      exact hst
    simp [hstays]
  | offSpeed =>
    obtain ⟨-, -, -, hstrobes⟩ := Spindle.arrive_stores (.inr hst) now p ok
    refine ⟨fun hnone => ?_, fun _ => rfl⟩
    rw [hnone] at hstrobes
    cases hstrobes

/-- Settles O41: the spindle after the index is that of the measurement, which R90 to R92 give state by state. -/
theorem indexMovesSpindleState : Obligations.IndexMovesSpindleState := by
  unfold Obligations.IndexMovesSpindleState
  intro s low held tick last hheld hlow hlast hstate now p inTol ring average revolution
  refine ⟨_, exec_index_of_rises tick hheld hlow, ?_⟩
  generalize hu : s.stu.takeLevels low held = u
  obtain ⟨hst, hring, hptr, hvalid, -, hrun, -, -⟩ := hu ▸ Spindle.takeLevels_keeps s.stu low held
  have hperiod : (s.atIndex low held tick).period = p := by simp [State.period, hlast, p, now]
  have hstu : (s.atIndex low held tick).indexArrival.stu = { u.arrive now p inTol with
      rev := (u.arrive now p inTol).state.revolution now (u.arrive now p inTol).pAvg s.cells } := by
    rw [State.indexArrival_stu, State.measureIndex_stu, hperiod, ← hu]
    rfl
  have hstored : (u.store p).ring = ring := by simp only [Spindle.store, hring, hptr, ring]
  have haverage : (u.store p).average = average := by rw [Spindle.average, hstored]
  have hform : (u.store p).form.pAvg = average := haverage
  rw [hstu, ← hst, ← hvalid, ← hrun, ← hptr]
  refine ⟨rfl, fun hm hout => ?_, fun hm hin hv => ?_, fun hm hin hv => ?_, fun hlo => ?_, by simp, by simp, by simp⟩
  · rw [hout, Spindle.arrive_measuring_out hm]
    exact ⟨hm, rfl, rfl, rfl, by simp only [Spindle.clearRing, hm]; rfl⟩
  · rw [hin, Spindle.arrive_measuring_in hm hv]
    exact ⟨hm, hstored, rfl, rfl, by simp only [Spindle.store, hm]; rfl⟩
  · rw [hin, Spindle.arrive_measuring_full hm hv, hform]
    exact ⟨rfl, hstored, by simp [Spindle.form, Spindle.store, hv], rfl, rfl⟩
  · obtain ⟨hr, hw, ha, hs⟩ := Spindle.arrive_stores hlo now p inTol
    refine ⟨hr.trans hstored, hw, ha.trans haverage, ?_, fun hl hin => ?_, fun hl hout => ?_, fun ho hout => ?_,
      fun ho hin hlt => ?_, fun ho hin hthree => ?_⟩
    · rw [ha, haverage]
      exact if_pos hs
    · rw [hin, Spindle.arrive_locked_in hl]
      exact hl
    · rw [hout, Spindle.arrive_locked_out hl]
      exact ⟨rfl, rfl⟩
    · rw [hout, Spindle.arrive_offSpeed_out ho]
      exact ⟨ho, rfl⟩
    · have hrun' : min (u.run + 1) 4 = u.run + 1 := by omega
      rw [hin, Spindle.arrive_offSpeed_in ho, hrun', if_neg (by omega)]
      exact ⟨rfl, rfl⟩
    · rw [hin, Spindle.arrive_offSpeed_in ho, hthree]
      rfl

end Sys2Proof.Machine

/-! A cell strobe over all eight heads: before its due time there is none, and at its due time the heads that rest deliver the
rest word and the others keep what they have (R97 to R99, R130, R131, R140). -/

namespace Sys2Proof.Machine

/-! ## Whether a strobe is due (R97 to R99) -/

/-- No strobe is due outside a strobed revolution, after the last cell of the phase or before the due time of its next one. -/
theorem State.dueRevolution_eq_none {s : State} {ph : Phase}
    (h : s.stu.rev = none ∨ ∃ r, s.stu.rev = some r ∧ (r.cells ≤ r.pos ph ∨ s.now < r.due ph (r.pos ph))) :
    s.dueRevolution ph = none := by
  unfold State.dueRevolution
  rcases h with hnone | ⟨r, hsome, hearly⟩
  · rw [hnone]
  · rw [hsome]
    exact if_neg (by omega)

/-- A strobe of a phase with cells left is due from the due time of its next one on. -/
theorem State.dueRevolution_eq_some {s : State} {ph : Phase} {r : Revolution} (hrev : s.stu.rev = some r)
    (hpos : r.pos ph < r.cells) (hdue : r.due ph (r.pos ph) ≤ s.now) : s.dueRevolution ph = some r := by
  unfold State.dueRevolution
  rw [hrev]
  exact if_pos ⟨hpos, hdue⟩

/-! ## The strobe at all heads -/

/-- A part of an event whose outcome has no action due is that outcome. -/
theorem State.within_eq_of_no_due {s t : State} {f : State → State} (ht : f (s.setDue []) = t) (hdue : t.evr.due = []) :
    s.within f = t.setDue s.evr.due := by
  subst ht
  exact s.within_of_no_due f hdue

/-- What a strobe leaves at all heads: the job, the spindle, the cache and the active calibrations. -/
structure State.StrobeKeeps (s t : State) : Prop where
  jcu : t.jcu = s.jcu
  stu : t.stu = s.stu
  cca : t.cca = s.cca
  cals : t.tlm.calsActive = s.tlm.calsActive

/-- The heads' strobes leave that, and with no routing action they leave none due. -/
theorem State.eachHead_strobeHead {s t : State} (hno : s.noActions) (ph : Phase) (c : Nat)
    (ht : s.eachHead (State.strobeHead ph c) = t) : State.StrobeKeeps s t ∧ t.evr.due = s.evr.due := by
  have hkept : State.StrobeKeeps s t ∧ t.evr.due = s.evr.due ∧ t.noActions := by
    rw [← ht]
    refine State.eachHead_inv (P := fun u => State.StrobeKeeps s u ∧ u.evr.due = s.evr.due ∧ u.noActions) _ _
      (fun g u hu => ?_) ⟨⟨rfl, rfl, rfl, rfl⟩, rfl, hno⟩
    obtain ⟨hkeeps, hdue, hu⟩ := hu
    obtain ⟨w, hw⟩ := State.strobeHead_tlm ph c g u
    exact ⟨⟨by simp [hkeeps.jcu], by simp [hkeeps.stu], by simp [hkeeps.cca], by rw [hw]; exact hkeeps.cals⟩,
      (State.strobeHead_due hu ph c g).trans hdue, State.noActions_of_route (by rw [hw]) hu⟩
  exact ⟨hkept.1, hkept.2.1⟩

/-- With no routing action, a strobe that is due advances the position of its phase and otherwise leaves what the heads'
strobes leave. -/
theorem State.cellStrobe_of_due {s : State} {ph : Phase} {r : Revolution} (hdue : s.dueRevolution ph = some r)
    (hno : s.noActions) :
    State.StrobeKeeps { s with stu := { s.stu with rev := some (r.advance ph) } } (s.cellStrobe ph) := by
  unfold State.cellStrobe
  rw [hdue]
  dsimp only
  generalize hu : ({ s with stu := { s.stu with rev := some (r.advance ph) } } : State) = u
  have hroute : u.tlm.route = s.tlm.route := by
    subst hu
    rfl
  generalize ht : (u.setDue []).eachHead (State.strobeHead ph (r.pos ph)) = t
  obtain ⟨hkeeps, hnone⟩ := State.eachHead_strobeHead (s := u.setDue []) (State.noActions_of_route hroute hno) ph _ ht
  rw [State.within_eq_of_no_due (f := fun v => v.eachHead (State.strobeHead ph (r.pos ph))) ht hnone]
  exact ⟨hkeeps.jcu, hkeeps.stu, hkeeps.cca, hkeeps.cals⟩

/-! ## The strobe at a head that does not engrave -/

/-- A head of the other phase and an IDLE head take no strobe (R130). -/
theorem State.strobeHead_passes {s : State} {ph : Phase} {h : Head}
    (hpass : s.ports[h].phase ≠ ph ∨ s.heads[h].state = .idle) (c : Nat) : State.strobeHead ph c h s = s :=
  if_pos hpass

/-- A strobe of its phase at a head that is neither IDLE nor engaged: one pulse with the rest word (R131). -/
theorem State.strobeHead_rests {s : State} {ph : Phase} {h : Head} (hph : s.ports[h].phase = ph)
    (hidle : s.heads[h].state ≠ .idle) (hst : s.heads[h].state.engaged = false) (c : Nat) :
    State.strobeHead ph c h s = s.deliver h (s.restWord h ph c) := by
  have hnot : ¬(s.ports[h].phase ≠ ph ∨ s.heads[h].state = .idle) := not_or.2 ⟨not_not.2 hph, hidle⟩
  rw [State.strobeHead, if_neg hnot, if_neg (Bool.eq_false_iff.1 hst)]

/-- Settles O46: an early strobe finds no cell due; one that is due reaches each head as in the state of the command. -/
theorem strobeAtDueTime : Obligations.StrobeAtDueTime := by
  unfold Obligations.StrobeAtDueTime
  intro s ph tick now due pos
  have hexec : exec (.cellStrobe ph tick) s = .next ((s.at tick).cellStrobe ph) := rfl
  have hpos (r : Revolution) : pos r = r.pos ph := by cases ph <;> rfl
  have hdueAt (r : Revolution) : due r = r.due ph (r.pos ph) := by cases ph <;> rfl
  simp only [hpos, hdueAt]
  refine ⟨fun hearly => ?_, fun r hrev hleft hdue hno => ?_⟩
  · rw [hexec, State.cellStrobe, State.dueRevolution_eq_none (s := s.at tick) hearly]
  · obtain ⟨hjcu, hstu, hcca, hcals⟩ := State.cellStrobe_of_due (State.dueRevolution_eq_some (s := s.at tick) hrev hleft hdue)
      (State.noActions_of_route rfl hno)
    have hreach (h : Head) : ∃ u, State.SameFor h (s.at tick) u ∧
        State.SameFor h (State.strobeHead ph (r.pos ph) h u) ((s.at tick).cellStrobe ph) := by
      obtain ⟨u, t, ht, hu, hut⟩ := cellStrobe_reaches h hrev hleft hdue hno
      rw [hexec] at ht
      exact ⟨u, hu, Host.Outcome.next.inj ht ▸ hut⟩
    refine ⟨_, hexec, hstu.trans (by cases ph <;> rfl), fun h hpass => ?_, fun h hph hidle hengr hstop => ?_, hjcu, ?_⟩
    · obtain ⟨u, hu, ht⟩ := hreach h
      rw [State.strobeHead_passes (by rw [hu.port, hu.head]; exact hpass)] at ht
      have hst := hu.trans ht
      exact ⟨hst.port, hst.head, hst.pipe, hst.wear⟩
    · obtain ⟨u, hu, ht⟩ := hreach h
      have hrests : u.heads[h].state.engaged = false := by
        rw [hu.head]
        simpa [HeadState.engaged] using And.intro hengr hstop
      rw [State.strobeHead_rests (by rw [hu.port]; exact hph) (by rw [hu.head]; exact hidle) hrests] at ht
      have hword : u.restWord h ph (r.pos ph) =
          cellWord (calRest s.tlm.calsActive[h]) false ph (r.pos ph == 0 && s.heads[h].activeRecord.isSome) := by
        rw [State.restWord, State.firstMark, hu.fields.1, hu.head]
        rfl
      refine ⟨?_, ht.head.trans hu.head, ht.pipe.trans hu.pipe, ht.wear.trans hu.wear⟩
      rw [ht.port, hword]
      simp [hu.port, hu.now, now]
    · exact ⟨hcca, by simp, hcals⟩

end Sys2Proof.Machine

/-! The index timeout and the spindle fault of the job: a job fault leaves the job out of motion, so that no action moves it
after, and stops every head that was in motion (R94, R112, R149, R162). -/

namespace Sys2Proof.Machine

/-! ## One head among the eight, by its state -/

/-- The channels of two states differ at one head alone, which has a given state in the second. -/
def State.MovesTo (h : Head) (x : HeadState) (s t : State) : Prop := ∃ c, c.state = x ∧ t.heads = s.heads.set h c

namespace State.MovesTo

variable {h : Head} {x y : HeadState} {s t u : State}

/-- No channel differs. -/
theorem of_same (ht : t.heads = s.heads) : MovesTo h s.heads[h].state s t :=
  ⟨s.heads[h], rfl, by simp [ht]⟩

/-- One channel is changed, and not its state. -/
theorem modHead {f : Channel → Channel} (hf : (f s.heads[h]).state = s.heads[h].state) :
    MovesTo h s.heads[h].state s (s.modHead h f) :=
  ⟨_, hf, rfl⟩

theorem trans (hst : MovesTo h x s t) (htu : MovesTo h y t u) : MovesTo h y s u := by
  obtain ⟨c, -, hc⟩ := hst
  obtain ⟨d, hd, hu⟩ := htu
  exact ⟨d, hd, by rw [hu, hc, Vector.set_set]⟩

/-- The head has the state. -/
theorem self (hst : MovesTo h x s t) : t.heads[h].state = x := by
  obtain ⟨c, hc, ht⟩ := hst
  simp [ht, hc]

/-- A later change of the channel that keeps its state. -/
theorem keep (hst : MovesTo h x s t) (htu : MovesTo h t.heads[h].state t u) : MovesTo h x s u :=
  hst.trans (hst.self ▸ htu)

/-- The other heads keep theirs. -/
theorem other {g : Head} (hst : MovesTo g x s t) (hne : g ≠ h) : t.heads[h].state = s.heads[h].state := by
  obtain ⟨c, -, ht⟩ := hst
  have hval : g.val ≠ h.val := fun he => hne (Fin.ext he)
  simp [ht, hval]

end State.MovesTo

/-- The count of a track end changes the channel of its head alone, and not its state (R117, R125). -/
theorem State.countEnd_movesTo (s : State) (h : Head) (track : Nat) (o : Option DefectCause) :
    State.MovesTo h s.heads[h].state s (s.countEnd h track o) := by
  have hraise (t : State) (k d) : State.MovesTo h t.heads[h].state t (t.raiseHead h k d) := .of_same (by simp)
  have hdefect (t : State) (c : DefectCause) : State.MovesTo h t.heads[h].state t (t.addDefect h track c) := by
    unfold State.addDefect
    split
    · exact .modHead rfl
    · exact .keep (.modHead rfl) (hraise _ _ _)
  cases o with
  | none =>
    unfold State.countEnd State.countDone
    dsimp only
    split
    · exact .keep (.modHead rfl) (hraise _ _ _)
    · exact .modHead rfl
  | some c => exact .keep (.keep (.modHead rfl) (hdefect _ c)) (hraise _ _ _)

/-- So do the range complete flag and the step owed. -/
theorem State.closeTrack_movesTo (s : State) (h : Head) (track : Nat) (owed : Bool) :
    State.MovesTo h s.heads[h].state s (s.closeTrack h track owed) := by
  have hcomplete : State.MovesTo h s.heads[h].state s
      (if track = s.lastTrack h then s.modHead h fun c => { c with complete := true } else s) := by
    split
    · exact .modHead rfl
    · exact .of_same rfl
  unfold State.closeTrack
  dsimp only
  split
  · exact hcomplete.keep (.modHead rfl)
  · exact hcomplete

/-- So does a track end as a whole (R117). -/
theorem State.endTrack_movesTo (s : State) (h : Head) (o : Option DefectCause) :
    State.MovesTo h s.heads[h].state s (s.endTrack h o) := by
  have hremove (r : TrackRecord) : State.MovesTo h s.heads[h].state s (s.removeActive h r) :=
    ⟨{ s.heads[h] with queue := s.heads[h].queue.tail }, rfl, by simp [State.removeActive]⟩
  unfold State.endTrack
  split
  · exact .of_same rfl
  · exact ((hremove _).keep (State.countEnd_movesTo _ h _ _)).keep (State.closeTrack_movesTo _ h _ _)

/-- A head that stops changes its own channel alone. -/
theorem State.stopNow_movesTo (s : State) (h : Head) : State.MovesTo h .stopped s (s.stopNow h) := by
  refine ⟨{ s.heads[h] with state := .stopped, queue := s.heads[h].queue.filter fun r => r.active }, rfl, ?_⟩
  simp [State.stopNow, State.dropPlanned]

/-- A halted head is STOPPED where it was in motion, and keeps its state otherwise (R112, R120, R123). -/
theorem State.haltHead_movesTo (c : DefectCause) (h : Head) (s : State) :
    State.MovesTo h (if s.heads[h].state.trips then .stopped else s.heads[h].state) s (State.haltHead c h s) := by
  have hkept : State.MovesTo h s.heads[h].state s s := .of_same rfl
  unfold State.haltHead
  cases hst : s.heads[h].state
  case engraving | stopping => exact (s.endTrack_movesTo h _).trans (State.stopNow_movesTo _ h)
  case waiting | stalled => exact s.stopNow_movesTo h
  all_goals rw [hst] at hkept; exact hkept

/-- All heads halted, each as the first state has it. -/
theorem State.eachHead_haltHead (c : DefectCause) (s : State) (h : Head) :
    (s.eachHead (State.haltHead c)).heads[h].state =
      if s.heads[h].state.trips then .stopped else s.heads[h].state := by
  obtain ⟨u, hu, ht⟩ := State.eachHead_at (R := fun t u => u.heads[h].state = t.heads[h].state) (fun _ => rfl)
    (fun _ _ _ htu huv => huv.trans htu) (State.haltHead c) h
    (fun g hg t => (State.haltHead_movesTo c g t).other hg) s
  rw [ht, (State.haltHead_movesTo c h u).self, hu]

/-! ## A job fault (R149) -/

/-- A change of the job state changes nothing else of the job. -/
theorem State.setJob_jcu (s : State) (new : JobState) (c : JobCause) :
    (s.setJob new c).jcu = { s.jcu with state := new } := by
  unfold State.setJob
  split <;> simp

/-- The fault of a job in motion: the job is FAULTED, the pending commits are copied, and the heads in motion are STOPPED. -/
theorem State.faultJob_of_inMotion {s : State} (h : s.jcu.state.inMotion = true) :
    s.faultJob.jcu = { s.jcu with state := .faulted } ∧
    s.faultJob.tlm = s.tlm.copyShadows s.tlm.gradPending s.tlm.calPending ∧
    ∀ g : Head, s.faultJob.heads[g].state = if s.heads[g].state.trips then .stopped else s.heads[g].state := by
  have hjcu : ((s.setJob .faulted .spindle).eachHead (State.haltHead .jobFault)).jcu =
      { s.jcu with state := .faulted } := by simp [State.eachHead_eq, State.setJob_jcu]
  have htlm : ((s.setJob .faulted .spindle).eachHead (State.haltHead .jobFault)).tlm =
      s.tlm.copyShadows s.tlm.gradPending s.tlm.calPending := by
    have hset := (s.setJob_jcu_tlm .faulted .spindle).2.trans (if_pos (by rw [h]; rfl))
    simpa [State.eachHead_eq] using hset
  have hheads (g : Head) := State.eachHead_haltHead .jobFault (s.setJob .faulted .spindle) g
  rw [State.faultJob, State.headsCheck_of_not_inMotion (by rw [hjcu]; rfl)]
  exact ⟨hjcu, htlm, fun g => by simpa using hheads g⟩

/-- The same as a part of an event: FAULTED is not in motion, so no action moves it. -/
theorem State.within_faultJob {s : State} (h : s.jcu.state.inMotion = true) :
    s.within State.faultJob = (s.setDue []).faultJob.setDue s.evr.due := by
  refine s.within_of_not_inMotion _ ?_
  rw [(State.faultJob_of_inMotion (s := s.setDue []) h).1]
  rfl

/-! ## The index timeout (R94) -/

/-- The timeout has occurred once more than 2 × P_nom has passed since T_prev. -/
theorem State.timedOut_eq_true {s : State} {last : Nat} (hstate : s.stu.state ≠ .noSignal) (hlast : s.stu.tPrev = some last)
    (hlate : last + 2 * s.nominal < s.now) : s.timedOut = true := by
  have helapsed : 2 * s.nominal < s.now - last := by omega
  simp [State.timedOut, hlast, hstate, helapsed]

/-- The timeout has not occurred in NO_SIGNAL, with no T_prev, or up to 2 × P_nom after it. -/
theorem State.timedOut_eq_false {s : State}
    (h : s.stu.state = .noSignal ∨ s.stu.tPrev = none ∨ ∃ last, s.stu.tPrev = some last ∧ s.now ≤ last + 2 * s.nominal) :
    s.timedOut = false := by
  rcases h with hstate | hnone | ⟨last, hlast, hearly⟩
  · cases hprev : s.stu.tPrev <;> simp [State.timedOut, hprev, hstate]
  · simp [State.timedOut, hnone]
  · have helapsed : s.now - last ≤ 2 * s.nominal := by omega
    simp [State.timedOut, hlast, helapsed]

/-- A job that is not in motion is left by the spindle. -/
theorem State.passSpindle_of_not_inMotion {s : State} (before : SpindleState) (h : s.jcu.state.inMotion = false) :
    State.passSpindle before s = s :=
  if_neg (by simp [h])

/-- A job in motion is faulted by the fall to NO_SIGNAL. -/
theorem State.passSpindle_noSignal {s : State} {before : SpindleState} (hbefore : before ≠ .noSignal)
    (hstate : s.stu.state = .noSignal) (h : s.jcu.state.inMotion = true) :
    State.passSpindle before s = s.within State.faultJob :=
  if_pos ⟨hstate ▸ hbefore.symm, .inr hstate, h⟩

/-- Settles O45: after the timeout the job is not in motion, faulted or not, and SPIN_NO_SIGNAL is all that follows. -/
theorem indexTimeoutSilencesSpindle : Obligations.IndexTimeoutSilencesSpindle := by
  unfold Obligations.IndexTimeoutSilencesSpindle
  intro s tick now silent dropped
  have hexec : exec (.indexTimeout tick) s = .next (s.at tick).indexTimeout := rfl
  refine ⟨fun hearly => ?_, fun last hstate hlast hlate => ?_⟩
  · rw [hexec, State.indexTimeout, State.timedOut_eq_false (s := s.at tick) hearly]
    rfl
  have htimed := State.timedOut_eq_true (s := s.at tick) hstate hlast hlate
  have hdropped : (s.at tick).undueCells = dropped := rfl
  have hsilent : ({ s.at tick with stu := (s.at tick).stu.silence } : State) = { s.at tick with stu := silent } := rfl
  rw [hexec, State.indexTimeout, if_pos htimed, hdropped, hsilent]
  generalize hu : ({ s.at tick with stu := silent } : State) = u
  obtain ⟨hjcu, hstu, htlm, hheads, hports, hcfu, hcca⟩ :
      u.jcu = s.jcu ∧ u.stu = silent ∧ u.tlm = s.tlm ∧ u.heads = s.heads ∧ u.ports = s.ports ∧ u.cfu = s.cfu ∧
        u.cca = s.cca := by
    subst hu
    and_intros <;> rfl
  refine ⟨fun hrun hhalt => ?_, fun hmotion _ => ?_⟩
  · have hrest : u.jcu.state.inMotion = false := by
      rw [hjcu]
      simpa [JobState.inMotion] using And.intro hrun hhalt
    rw [State.passSpindle_of_not_inMotion _ hrest]
  · have hmoves : u.jcu.state.inMotion = true := by
      rw [hjcu]
      simpa [JobState.inMotion] using hmotion
    obtain ⟨hjob, htables, hstops⟩ := State.faultJob_of_inMotion (s := u.setDue []) hmoves
    refine ⟨_, rfl, ?_⟩
    rw [State.passSpindle_noSignal (before := (s.at tick).stu.state) hstate (by rw [hstu]) hmoves, State.within_faultJob hmoves,
      State.within_of_not_inMotion _ _ (by simp [hjob, JobState.inMotion])]
    simpa [hjob, htables, hjcu, hstu, htlm, hheads, hports, hcfu, hcca] using hstops

end Sys2Proof.Machine

/-! What stays of one event record while the upstream lane is not free: the heads, the planning pass and the job raise other
kinds, and the tables move only as an application of the pending commits moves them (R161, R162, R177). -/

namespace Sys2Proof.Machine

/-! ## One occurrence while the lane is not free -/

/-- Each kind has a number of its own (Table 11.1). -/
theorem EventKind.num_injective : Function.Injective EventKind.num := by
  intro j k
  cases j <;> cases k <;> decide

/-- With the lane not free the arbiter does nothing. -/
theorem State.arbitrate_of_lane_busy {s : State} (hbusy : s.laneFree = false) : s.arbitrate = s := by
  unfold State.arbitrate
  rw [hbusy]
  rfl

/-- With the lane not free an occurrence is gathered, and the link stays as it is. -/
theorem State.raise_gathers {s : State} (hbusy : s.laneFree = false) (k : EventKind) (d : Word32) (m : BitVec 8) :
    (s.raise k d m).lnk = s.lnk ∧ (s.raise k d m).evr.records = s.gathered k d m := by
  have hrecord : s.recordEvent k d m = { s with evr := { s.evr with records := s.gathered k d m } } := by
    unfold State.recordEvent State.gathered
    split
    · rfl
    · dsimp only
      split
      · exact State.arbitrate_of_lane_busy hbusy
      · rfl
  unfold State.raise
  rw [hrecord]
  dsimp only
  split <;> exact ⟨rfl, rfl⟩

/-- An occurrence leaves the records of the other kinds. -/
theorem State.gathered_other (s : State) {j k : EventKind} (hne : j ≠ k) (d : Word32) (m : BitVec 8) :
    (s.gathered j d m)[k.num] = s.evr.records[k.num] := by
  have hval : j.num.val ≠ k.num.val := fun he => hne (EventKind.num_injective (Fin.ext he))
  unfold State.gathered
  split
  · rfl
  · simp [hval]

/-- The record of a kind after one more occurrence of it. -/
theorem State.gathered_self (s : State) (k : EventKind) (d : Word32) (m : BitVec 8) :
    (s.gathered k d m)[k.num] =
      if s.level k = 0 then s.evr.records[k.num] else some (gather s.evr.records[k.num] d m) := by
  unfold State.gathered
  split <;> simp

/-! ## The pending commits -/

/-- The tables with every pending commit applied (R159). -/
def Tables.commitPending (t : Tables) : Tables := t.copyShadows t.gradPending t.calPending

/-- No mark stays once the pending commits are applied. -/
theorem Tables.commitPending_marks (t : Tables) : t.commitPending.gradPending = 0 ∧ t.commitPending.calPending = 0 := by
  simp [Tables.commitPending, Tables.copyShadows]

/-- With no mark set there is nothing to apply. -/
theorem Tables.commitPending_of_no_marks {t : Tables} (hgrad : t.gradPending = 0) (hcal : t.calPending = 0) :
    t.commitPending = t := by
  rw [Tables.commitPending, hgrad, hcal, t.copyShadows_zero]

/-- The pending commits are applied once. -/
theorem Tables.commitPending_commitPending (t : Tables) : t.commitPending.commitPending = t.commitPending :=
  Tables.commitPending_of_no_marks t.commitPending_marks.1 t.commitPending_marks.2

/-- Applying what is pending applies it to the tables. -/
theorem State.applyPending_tlm (s : State) (o : Occasion) : (s.applyPending o).tlm = s.tlm.commitPending :=
  s.applyCommit_tlm _ _ o

/-- With no mark set no commit is applied, and none is reported. -/
theorem State.applyPending_of_no_marks {s : State} (hgrad : s.tlm.gradPending = 0) (hcal : s.tlm.calPending = 0)
    (o : Occasion) : s.applyPending o = s :=
  if_pos ⟨hgrad, hcal⟩

/-! ## What stays -/

/-- The kinds that the heads, the planning pass and the changes of the job state raise. -/
def headAndJobKinds : List EventKind :=
  [.cacheConflict, .trackDone, .trackDefect, .defectListFull, .idleRev, .headStalled, .headParked, .jobState]

/-- The lane is not free, the record of a kind is `x`, and the tables are `T` once what is pending is applied; for
COMMIT_APPLIED itself nothing is pending. -/
structure State.Stands (k : EventKind) (x : Option Pending) (T : Tables) (s : State) : Prop where
  busy : s.laneFree = false
  record : s.evr.records[k.num] = x
  tables : s.tlm.commitPending = T
  marks : k = .commitApplied → s.tlm.gradPending = 0 ∧ s.tlm.calPending = 0

/-- COMMIT_APPLIED after an application of what is pending, with the lane not free: raised once where a mark was set. -/
theorem State.applyPending_record {s : State} (hbusy : s.laneFree = false) (o : Occasion) :
    (s.applyPending o).evr.records[EventKind.commitApplied.num] =
      if (s.tlm.gradPending = 0 ∧ s.tlm.calPending = 0) ∨ s.level .commitApplied = 0 then
        s.evr.records[EventKind.commitApplied.num]
      else some (gather s.evr.records[EventKind.commitApplied.num]
        (commitDetail s.tlm.gradPending s.tlm.calPending o) s.tlm.calPending) := by
  by_cases hnone : s.tlm.gradPending = 0 ∧ s.tlm.calPending = 0
  · rw [if_pos (.inl hnone), State.applyPending_of_no_marks hnone.1 hnone.2]
  · generalize hu : ({ s with tlm := s.tlm.commitPending } : State) = u
    have hraise : s.applyPending o =
        u.raise .commitApplied (commitDetail s.tlm.gradPending s.tlm.calPending o) s.tlm.calPending := by
      subst hu
      exact if_neg hnone
    have hbusy' : u.laneFree = false := by subst hu; exact hbusy
    have hlevel : u.level .commitApplied = s.level .commitApplied := by subst hu; rfl
    have hrecords : u.evr = s.evr := by subst hu; rfl
    simp only [hraise, (State.raise_gathers hbusy' _ _ _).2, State.gathered_self, hlevel, hrecords, hnone, false_or]

namespace State.Stands

variable {k : EventKind} {x : Option Pending} {T : Tables} {s t : State}

/-- What leaves the link, the records and the tables keeps it. -/
theorem of_same (h : Stands k x T s) (hlnk : t.lnk = s.lnk) (hrecords : t.evr.records = s.evr.records)
    (htlm : t.tlm = s.tlm) : Stands k x T t := by
  refine ⟨?_, by rw [hrecords]; exact h.record, by rw [htlm]; exact h.tables, by rw [htlm]; exact h.marks⟩
  unfold State.laneFree
  rw [hlnk]
  exact h.busy

theorem setDue (h : Stands k x T s) (d : List DueAction) : Stands k x T (s.setDue d) := h.of_same rfl rfl rfl

/-- An occurrence of another kind. -/
theorem raise (h : Stands k x T s) {j : EventKind} (hne : j ≠ k) (d : Word32) (m : BitVec 8) :
    Stands k x T (s.raise j d m) := by
  obtain ⟨hlnk, hrecords⟩ := State.raise_gathers h.busy j d m
  have hone : Stands k x T { s with evr := { s.evr with records := s.gathered j d m } } :=
    ⟨h.busy, (s.gathered_other hne d m).trans h.record, h.tables, h.marks⟩
  exact hone.of_same hlnk hrecords (by simp)

/-- What is pending is applied; the record of COMMIT_APPLIED stands because nothing is. -/
theorem applyPending (h : Stands k x T s) (o : Occasion) : Stands k x T (s.applyPending o) := by
  have hcopied : Stands k x T { s with tlm := s.tlm.commitPending } :=
    ⟨h.busy, h.record, s.tlm.commitPending_commitPending.trans h.tables, fun _ => s.tlm.commitPending_marks⟩
  unfold State.applyPending State.applyCommit
  split
  · exact h
  · next hsome => exact hcopied.raise (fun he => hsome (h.marks he.symm)) _ _

/-- After what is pending is applied, COMMIT_APPLIED stands, whatever stood before. -/
theorem applied (h : Stands k x T s) (o : Occasion) :
    Stands .commitApplied (s.applyPending o).evr.records[EventKind.commitApplied.num] T (s.applyPending o) := by
  have hafter := h.applyPending o
  exact ⟨hafter.busy, rfl, hafter.tables, fun _ => s.applyPending_tlm o ▸ s.tlm.commitPending_marks⟩

theorem modHead (h : Stands k x T s) (g : Head) (f : Channel → Channel) : Stands k x T (s.modHead g f) :=
  h.of_same rfl rfl rfl

theorem stopNow (h : Stands k x T s) (g : Head) : Stands k x T (s.stopNow g) :=
  h.of_same (by simp) (by simp) (by simp)

/-- A request is queued, and the lane is not free to send it (R72). -/
theorem createRequest (h : Stands k x T s) (key : Key) (n : Fin 64) : Stands k x T (s.createRequest key n) := by
  unfold State.createRequest State.queueRequest
  dsimp only
  rw [State.arbitrate_of_lane_busy (by exact h.busy)]
  exact ⟨h.busy, h.record, h.tables, h.marks⟩

section
variable (hk : k ∉ headAndJobKinds)
include hk

/-- An occurrence of the heads, the planning pass or the job. -/
theorem raiseListed (h : Stands k x T s) {j : EventKind} (hj : j ∈ headAndJobKinds) (d : Word32) (m : BitVec 8) :
    Stands k x T (s.raise j d m) :=
  h.raise (fun he => hk (he ▸ hj)) d m

theorem raiseHead (h : Stands k x T s) {j : EventKind} (hj : j ∈ headAndJobKinds) (g : Head) (d : Word32) :
    Stands k x T (s.raiseHead g j d) :=
  h.raiseListed hk hj d _

/-! ### Track ends -/

theorem countEnd (h : Stands k x T s) (g : Head) (track : Nat) (o : Option DefectCause) :
    Stands k x T (s.countEnd g track o) := by
  have hdefect {t : State} (ht : Stands k x T t) (c : DefectCause) : Stands k x T (t.addDefect g track c) := by
    unfold State.addDefect
    split
    · exact ht.modHead g _
    · exact (ht.modHead g _).raiseHead hk (by decide) g _
  cases o with
  | none =>
    unfold State.countEnd State.countDone
    dsimp only
    split
    · exact (h.modHead g _).raiseHead hk (by decide) g _
    · exact h.modHead g _
  | some c => exact (hdefect (h.modHead g _) c).raiseHead hk (by decide) g _

theorem endTrack (h : Stands k x T s) (g : Head) (o : Option DefectCause) : Stands k x T (s.endTrack g o) := by
  unfold State.endTrack
  split
  · exact h
  · next r _ =>
    have hremoved : Stands k x T (s.removeActive g r) := h.of_same (by simp) (by simp) (by simp)
    exact (hremoved.countEnd hk g r.track o).of_same (by simp) (by simp) (by simp)

theorem afterEnd (h : Stands k x T s) (g : Head) (track : Nat) (stopping owed : Bool) :
    Stands k x T (s.afterEnd g track stopping owed) := by
  have hparked : Stands k x T ((s.setHeadState g .finished).dropPlanned g) := h.of_same (by simp) (by simp) (by simp)
  unfold State.afterEnd
  split
  · exact hparked.raiseHead hk (by decide) g _
  · split
    · exact h.stopNow g
    · exact h.of_same (by simp) (by simp) (by simp)

/-! ### What an index, a short revolution and a job change make of a head -/

theorem testStart (h : Stands k x T s) (g : Head) : Stands k x T (s.testStart g) := by
  unfold State.testStart
  split
  · exact h.of_same (by simp) (by simp) (by simp)
  · next r _ =>
    have hidle := (h.modHead g fun c => { c with wait := c.wait + 1, idleRevs := satInc c.idleRevs }).raiseHead hk
      (j := .idleRev) (by decide) g (idleDetail s.heads[g].nextTrack r)
    have hstalled {u : State} (hu : Stands k x T u) : Stands k x T ((u.setHeadState g .stalled).dropPlanned g) :=
      hu.of_same (by simp) (by simp) (by simp)
    unfold State.idleRevolution
    dsimp only
    split
    · exact (hstalled hidle).raiseHead hk (by decide) g _
    · exact hidle

theorem indexHead (h : Stands k x T s) (g : Head) : Stands k x T (State.indexHead g s) := by
  unfold State.indexHead
  split
  · split
    · exact h
    · next r _ =>
      have hended := (h.endTrack hk g r.indexOutcome).afterEnd hk g r.track (s.heads[g].state == .stopping) (s.owesStep g)
      dsimp only
      split
      · exact hended.testStart hk g
      · exact hended
  · split
    · exact h.testStart hk g
    · exact h

theorem shortRevHead (h : Stands k x T s) (a b : Bool) (g : Head) : Stands k x T (State.shortRevHead a b g s) := by
  unfold State.shortRevHead
  cases s.ports[g].phase
  all_goals
    dsimp only
    split
    · split
      · exact h
      · exact (h.endTrack hk g _).afterEnd hk g _ _ _
    · exact h

theorem haltHead (h : Stands k x T s) (c : DefectCause) (g : Head) : Stands k x T (State.haltHead c g s) := by
  unfold State.haltHead
  cases s.heads[g].state
  case engraving | stopping => exact (h.endTrack hk g _).stopNow g
  case waiting | stalled => exact h.stopNow g
  all_goals exact h

/-! ### The planning pass -/

theorem resolveRecord (h : Stands k x T s) (g : Head) (j : Nat) : Stands k x T (State.resolveRecord g s j) := by
  unfold State.resolveRecord
  split
  · next key _ =>
    split
    · exact h.of_same (by simp) (by simp) (by simp)
    · split
      · split
        · next n _ =>
          have hallocated : Stands k x T (s.allocate n key 1) := h.of_same (by simp) (by simp) (by simp)
          exact (hallocated.createRequest key n).of_same (by simp) (by simp) (by simp)
        · exact h.raiseHead hk (by decide) g _
      · exact h
  all_goals exact h

theorem planningPass (h : Stands k x T s) : Stands k x T s.planningPass := by
  have hresolve (g : Head) (js : List Nat) : ∀ t, Stands k x T t → Stands k x T (js.foldl (State.resolveRecord g) t) := by
    induction js with
    | nil => exact fun _ ht => ht
    | cons j js ih => exact fun t ht => ih _ (ht.resolveRecord hk g j)
  refine State.eachHead_inv _ _ (fun g t ht => ?_)
    (State.eachHead_inv _ _ (fun g t ht => ht.of_same (by simp) (by simp) (by simp)) h)
  unfold State.resolveHead
  split
  · exact hresolve g _ t ht
  · exact ht

/-! ### Job changes and actions -/

theorem setJob (h : Stands k x T s) (new : JobState) (c : JobCause) : Stands k x T (s.setJob new c) := by
  have hraised := (h.of_same (t := { s with jcu := { s.jcu with state := new } }) rfl rfl rfl).raiseListed hk
    (j := .jobState) (by decide) (jobStateDetail s.jcu.state new c) 0
  unfold State.setJob
  dsimp only
  split
  · exact hraised.applyPending _
  · exact hraised

theorem headsCheck (h : Stands k x T s) : Stands k x T s.headsCheck := by
  unfold State.headsCheck
  split
  · split
    · exact h.setJob hk _ _
    · exact h
  · split
    · split
      · exact h.setJob hk _ _
      · exact h
    · exact h

theorem withCheck (g : Head) (f : State → State) (h : Stands k x T (f s)) : Stands k x T (s.withCheck g f) :=
  State.withCheck_inv s g f (fun _ ht => ht.headsCheck hk) h

theorem routeEffect (h : Stands k x T s) (a : DueAction) : Stands k x T (s.routeEffect a) := by
  have hhalt (c) : Stands k x T (s.haltJob c) :=
    (State.eachHead_inv _ _ (fun _ _ ht => ht.of_same (by simp) (by simp) (by simp)) (h.setJob hk _ _)).headsCheck hk
  have habort (c) : Stands k x T (s.abortJob c) :=
    (State.eachHead_inv _ _ (fun g _ ht => ht.haltHead hk _ g) (h.setJob hk _ _)).headsCheck hk
  unfold State.routeEffect
  split
  · split
    · exact hhalt _
    · exact h
  · split
    · exact habort _
    · exact h
  · exact h

/-- A part of an event, with its actions taken. -/
theorem within (f : State → State) (h : Stands k x T (f (s.setDue []))) : Stands k x T (s.within f) :=
  State.within_inv s f (fun _ d ht => ht.setDue d) (fun _ a ht => ht.routeEffect hk a) h

/-! ### An index -/

/-- The notice of a short revolution. -/
theorem shortNotice (h : Stands k x T s) (r : Revolution) : Stands k x T (s.shortNotice r) :=
  State.eachHead_inv _ _ (fun g _ ht => withCheck hk g _ (ht.shortRevHead hk _ _ g)) h

/-- What follows the application of the pending commits at an index. -/
theorem serveIndex (h : Stands k x T ((s.setDue []).applyPending .index)) : Stands k x T s.serveIndex := by
  have hcommit : Stands k x T (s.within fun u => u.applyPending .index) := within hk _ h
  have hheads := State.eachHead_inv _ (fun g t => t.withCheck g (State.indexHead g))
    (fun g _ ht => withCheck hk g _ (ht.indexHead hk g)) hcommit
  exact (State.eachHead_inv _ State.setPhase (fun _ _ ht => ht.of_same (by simp) (by simp) (by simp)) hheads).planningPass hk

/-- A change of the spindle state passed to JCU. -/
theorem passSpindle (h : Stands k x T s) (before : SpindleState) : Stands k x T (State.passSpindle before s) := by
  unfold State.passSpindle
  split
  · exact within hk _ ((State.eachHead_inv _ _ (fun g _ ht => ht.haltHead hk _ g)
      ((h.setDue []).setJob hk _ _)).headsCheck hk)
  · exact h

end

end State.Stands

end Sys2Proof.Machine

/-! The events of an index while the upstream lane is not free: a first index raises no spindle event, SHORT_REV is raised
before the period is measured and COMMIT_APPLIED where the index is served, and neither again (R89, R100, R161, R177). -/

namespace Sys2Proof.Machine

/-! ## The parts of an index arrival -/

/-- An index arrival up to its users: the period measured, and JCU and EVR told of a change of the spindle state (R95). -/
def State.measured (s : State) : State :=
  (s.measureIndex.passSpindle s.stu.state).raiseSpindle s.stu.state s.period

theorem State.indexArrival_eq (s : State) :
    s.indexArrival = s.within fun u => u.endRevolution.measured.serveIndex := rfl

/-- What stands once the index is served stands at the end of the arrival. -/
theorem State.Stands.indexArrival {k : EventKind} {x : Option Pending} {T : Tables} {s : State}
    (hk : k ∉ headAndJobKinds) (h : State.Stands k x T (s.setDue []).endRevolution.measured.serveIndex) :
    State.Stands k x T s.indexArrival :=
  s.indexArrival_eq ▸ State.Stands.within hk _ h

/-- An arrival in NO_SIGNAL raises no spindle event and passes nothing to JCU (R89). -/
theorem State.measured_of_noSignal {s : State} (h : s.stu.state = .noSignal) : s.measured = s.measureIndex := by
  have hstate : s.measureIndex.stu.state = .measuring := by
    rw [State.measureIndex_stu]
    simp only [Spindle.arrive, h]
  unfold State.measured State.passSpindle
  rw [if_neg (by simp [hstate])]
  unfold State.raiseSpindle
  rw [hstate, if_neg (by simp [h])]

/-- Settles O40: the levels alone, or a measurement that begins with no spindle event, whatever the users of the index do. -/
theorem firstIndexBeginsMeasurement : Obligations.FirstIndexBeginsMeasurement := by
  unfold Obligations.FirstIndexBeginsMeasurement
  intro s low held tick
  refine ⟨fun hnone => ?_, fun hheld hlow hstate hrev => ?_⟩
  · rw [exec_index_of_not_rises tick hnone, State.atIndex, Spindle.takeLevels_of_not_rises hnone]
  · refine ⟨_, exec_index_of_rises tick hheld hlow, ?_, fun hbusy k hk => ?_, by simp, by simp, by simp⟩
    · have htaken : levelTaken held = true := decide_eq_true hheld
      have hactive : 0 < held := by omega
      rw [State.indexArrival_stu, State.measureIndex_stu]
      simp [Spindle.arrive, hstate, Spindle.clearRing, SpindleState.revolution, SpindleState.strobes, Spindle.takeLevels,
        htaken, hactive]
    · have hkept : k ∉ headAndJobKinds := by
        revert hk
        cases k <;> decide
      refine (State.Stands.indexArrival (T := s.tlm.commitPending) hkept ?_).record
      generalize hu : (s.atIndex low held tick).setDue [] = u
      obtain ⟨hlnk, hrecords, htlm, hstu, hnorev⟩ :
          u.lnk = s.lnk ∧ u.evr.records = s.evr.records ∧ u.tlm = s.tlm ∧ u.stu.state = .noSignal ∧ u.stu.rev = none := by
        subst hu
        exact ⟨rfl, rfl, rfl, hstate, hrev⟩
      have hstart : State.Stands k s.evr.records[k.num] s.tlm.commitPending s :=
        ⟨hbusy, rfl, rfl, fun he => absurd (he ▸ hk) (by decide)⟩
      have hend : u.endRevolution = u := by
        unfold State.endRevolution
        rw [hnorev]
      rw [hend, State.measured_of_noSignal hstu]
      have hmeasured : State.Stands k s.evr.records[k.num] s.tlm.commitPending u.measureIndex :=
        hstart.of_same (by simp [hlnk]) (by simp [hrecords]) (by simp [htlm])
      exact .serveIndex hkept ((hmeasured.setDue []).applyPending .index)

/-! ## The end of a revolution and the events of an arrival -/

/-- A revolution that ends with no cell left drops none. -/
theorem State.endRevolution_of_whole {s : State} (hwhole : s.undueCells = 0) : s.endRevolution = s := by
  unfold State.undueCells at hwhole
  unfold State.endRevolution
  cases hrev : s.stu.rev with
  | none => rfl
  | some r => exact if_pos (by simpa [hrev] using hwhole)

/-- The end of a revolution with the lane not free: SHORT_REV with the cells dropped, or nothing where none was (R100). -/
theorem State.endRevolution_stands {s : State} (hbusy : s.laneFree = false) :
    State.Stands .shortRev
      (if s.undueCells = 0 ∨ s.level .shortRev = 0 then s.evr.records[EventKind.shortRev.num]
        else some (gather s.evr.records[EventKind.shortRev.num] (plainDetail s.undueCells) 0))
      s.tlm.commitPending s.endRevolution := by
  have hkept : EventKind.shortRev ∉ headAndJobKinds := by decide
  have hwhole : State.Stands .shortRev s.evr.records[EventKind.shortRev.num] s.tlm.commitPending s :=
    ⟨hbusy, rfl, rfl, nofun⟩
  unfold State.endRevolution State.undueCells
  cases s.stu.rev with
  | none => exact hwhole
  | some r =>
    dsimp only
    by_cases hundue : r.undue = 0
    · rw [if_pos hundue, if_pos (.inl hundue)]
      exact hwhole
    · rw [if_neg hundue]
      obtain ⟨hlnk, hrecords⟩ :=
        State.raise_gathers (s := s.setDue []) hbusy .shortRev (plainDetail r.undue) 0
      refine State.Stands.shortNotice hkept (State.Stands.within hkept _ ?_) r
      refine ⟨?_, ?_, by simp, nofun⟩
      · unfold State.laneFree
        rw [State.raisePlain, hlnk]
        exact hbusy
      · simp only [State.raisePlain, hrecords, State.gathered_self, hundue, false_or]
        rfl

/-- The spindle events leave what stands of another kind. -/
theorem State.Stands.raiseSpindle {k : EventKind} {x : Option Pending} {T : Tables} {s : State}
    (hk : k ∉ headAndJobKinds) (hlocked : EventKind.spinLocked ≠ k) (hoff : EventKind.spinOffSpeed ≠ k)
    (h : State.Stands k x T s) (before : SpindleState) (p : Nat) :
    State.Stands k x T (State.raiseSpindle before p s) := by
  unfold State.raiseSpindle
  split
  · exact h
  · split
    · exact .within hk _ ((h.setDue []).raise hlocked _ _)
    · exact .within hk _ ((h.setDue []).raise hoff _ _)
    · exact h
    · exact h

/-- So does an arrival up to its users, whatever it passes to JCU. -/
theorem State.Stands.measured {k : EventKind} {x : Option Pending} {T : Tables} {s : State}
    (hk : k ∉ headAndJobKinds) (hlocked : EventKind.spinLocked ≠ k) (hoff : EventKind.spinOffSpeed ≠ k)
    (h : State.Stands k x T s) : State.Stands k x T s.measured := by
  have hmeasure : State.Stands k x T s.measureIndex := h.of_same rfl rfl rfl
  exact (hmeasure.passSpindle hk _).raiseSpindle hk hlocked hoff _ _

/-- With no routing action a spindle event leaves the lane, the tables and the records of the other kinds. -/
theorem State.raiseSpindle_of_lane_busy {s : State} (hno : s.noActions) (hbusy : s.laneFree = false) {k : EventKind}
    (hlocked : EventKind.spinLocked ≠ k) (hoff : EventKind.spinOffSpeed ≠ k) (before : SpindleState) (p : Nat) :
    (State.raiseSpindle before p s).lnk = s.lnk ∧ (State.raiseSpindle before p s).tlm = s.tlm ∧
    (State.raiseSpindle before p s).evr.records[k.num] = s.evr.records[k.num] := by
  have hraise {j : EventKind} (hne : j ≠ k) (f : State → State) (d : Word32)
      (hf : f (s.setDue []) = (s.setDue []).raise j d 0) :
      (s.within f).lnk = s.lnk ∧ (s.within f).tlm = s.tlm ∧
      (s.within f).evr.records[k.num] = s.evr.records[k.num] := by
    have hnone : (f (s.setDue [])).evr.due = [] := by
      rw [hf]
      exact State.raise_due (s := s.setDue []) hno j d 0
    obtain ⟨hlnk, hrecords⟩ := State.raise_gathers (s := s.setDue []) hbusy j d 0
    have hrecord : ((s.setDue []).raise j d 0).evr.records[k.num] = s.evr.records[k.num] := by
      simp only [hrecords]
      exact (s.setDue []).gathered_other hne d 0
    rw [s.within_of_no_due f hnone, hf]
    exact ⟨hlnk, by simp, hrecord⟩
  unfold State.raiseSpindle
  split
  · exact ⟨rfl, rfl, rfl⟩
  · split
    · exact hraise hlocked _ _ rfl
    · exact hraise hoff _ _ rfl
    · exact ⟨rfl, rfl, rfl⟩
    · exact ⟨rfl, rfl, rfl⟩

/-- An index that does not take the spindle out of LOCKED passes no fault to JCU (R149). -/
theorem State.passSpindle_measureIndex {s : State} (htol : s.stu.state = .locked → s.inTolerance s.period = true) :
    State.passSpindle s.stu.state s.measureIndex = s.measureIndex := by
  obtain ⟨hsignal, hoffSpeed⟩ := Spindle.arrive_state htol s.now s.period
  have hstate : s.measureIndex.stu.state = (s.stu.arrive s.now s.period (s.inTolerance s.period)).state := rfl
  refine if_neg ?_
  rintro ⟨hne, hoff | hnone, -⟩
  · exact hne (hoff.trans (hoffSpeed (hstate ▸ hoff)).symm)
  · exact hsignal (hstate ▸ hnone)

/-- Where no routing action arises and the spindle does not fall out of LOCKED, the commits that an index applies are those
that were pending before it, reported once (R161). -/
theorem State.measured_applyPending_record {s : State} (hno : s.noActions) (hbusy : s.laneFree = false)
    (htol : s.stu.state = .locked → s.inTolerance s.period = true) :
    ((s.measured.setDue []).applyPending .index).evr.records[EventKind.commitApplied.num] =
      if (s.tlm.gradPending = 0 ∧ s.tlm.calPending = 0) ∨ s.level .commitApplied = 0 then
        s.evr.records[EventKind.commitApplied.num]
      else some (gather s.evr.records[EventKind.commitApplied.num]
        (commitDetail s.tlm.gradPending s.tlm.calPending .index) s.tlm.calPending) := by
  obtain ⟨hlnk, htlm, hrecord⟩ := State.raiseSpindle_of_lane_busy (s := s.measureIndex) (k := .commitApplied) hno hbusy
    (by decide) (by decide) s.stu.state s.period
  have hmeasured : s.measured = State.raiseSpindle s.stu.state s.period s.measureIndex := by
    rw [State.measured, State.passSpindle_measureIndex htol]
  rw [← hmeasured] at hlnk htlm hrecord
  generalize hu : s.measured.setDue [] = u
  have hulnk : u.lnk = s.lnk := by subst hu; exact hlnk
  have hutlm : u.tlm = s.tlm := by subst hu; exact htlm
  have hurecord : u.evr.records[EventKind.commitApplied.num] = s.evr.records[EventKind.commitApplied.num] := by
    subst hu
    exact hrecord
  have hubusy : u.laneFree = false := by rw [← hbusy, State.laneFree, hulnk]; rfl
  have hulevel : u.level .commitApplied = s.level .commitApplied := by rw [State.level, hutlm]; rfl
  rw [State.applyPending_record hubusy, hutlm, hulevel, hurecord]

/-- Settles O44: SHORT_REV stands from the end of the revolution on, the tables come to what the pending commits make of
them, and COMMIT_APPLIED stands from where the index is served on. -/
theorem indexRaisesShortRevAndAppliesCommits : Obligations.IndexRaisesShortRevAndAppliesCommits := by
  unfold Obligations.IndexRaisesShortRevAndAppliesCommits
  intro s low held tick hheld hlow hlocked hno hbusy undue gathered grad cal
  have hshort : EventKind.shortRev ∉ headAndJobKinds := by decide
  have hcommit : EventKind.commitApplied ∉ headAndJobKinds := by decide
  have hgather (k : EventKind) (mask : BitVec 8) (detail : Word32) :
      some (gather s.evr.records[k.num] detail mask) = gathered k mask detail := by
    simp only [gathered]
    generalize s.evr.records[k.num] = p
    cases p <;> rfl
  generalize hu : (s.atIndex low held tick).setDue [] = u
  obtain ⟨hubusy, hrecords, htlm, hundue⟩ :
      u.laneFree = false ∧ u.evr.records = s.evr.records ∧ u.tlm = s.tlm ∧ u.undueCells = undue := by
    subst hu
    exact ⟨hbusy, rfl, rfl, rfl⟩
  have hlevel (k : EventKind) : u.level k = s.level k := by rw [State.level, htlm]; rfl
  have hmeasured := (State.endRevolution_stands hubusy).measured hshort (by decide) (by decide)
  have hshortEnd := State.Stands.indexArrival (s := s.atIndex low held tick) hshort
    (by rw [hu]; exact .serveIndex hshort ((hmeasured.setDue []).applyPending .index))
  have hcommitEnd := State.Stands.indexArrival (s := s.atIndex low held tick) hcommit
    (by rw [hu]; exact .serveIndex hcommit ((hmeasured.setDue []).applied .index))
  obtain ⟨hgrad, hcal⟩ := hcommitEnd.marks rfl
  refine ⟨_, exec_index_of_rises tick hheld hlow, ?_, ?_, hgrad, hcal, fun hwhole => ?_⟩
  · simp only [hshortEnd.record, hundue, hlevel, hrecords, hgather]
    rfl
  · rw [← Tables.commitPending_of_no_marks hgrad hcal, hcommitEnd.tables, htlm]
    rfl
  · have htol : u.stu.state = .locked → u.inTolerance u.period = true := by
      intro hstate
      subst hu
      obtain ⟨last, hlast, hin⟩ := hlocked hstate
      have hperiod : ((s.atIndex low held tick).setDue []).period = max s.now tick - last := by
        simp [State.period, hlast]
      rw [hperiod]
      exact hin
    have happlied := State.measured_applyPending_record
      (State.noActions_of_route (congrArg Tables.route htlm) hno) hubusy htol
    rw [State.endRevolution_of_whole (hundue.trans hwhole)] at hcommitEnd
    rw [hcommitEnd.record, happlied]
    simp only [htlm, hlevel, hrecords, hgather]
    rfl

end Sys2Proof.Machine

/-! What a planning pass makes of a channel, and how the events of the heads move the state of one head (R105 to R108,
R111, R112, R118 to R124). -/

namespace Sys2Proof.Machine

/-! ## One channel, one port -/

/-- A change of one channel that leaves something of it leaves that of every channel. -/
theorem State.modHead_leaves {α : Type} (p : Channel → α) (s : State) (h : Head) {f : Channel → Channel}
    (hf : p (f s.heads[h]) = p s.heads[h]) (g : Head) : p (s.modHead h f).heads[g] = p s.heads[g] := by
  by_cases hg : h = g
  · subst hg
    simpa using hf
  · have hval : h.val ≠ g.val := fun he => hg (Fin.ext he)
    simp [hval]

/-- A change of one port that leaves something of it leaves that of every port. -/
theorem State.modPort_leaves {α : Type} (p : Port → α) (s : State) (h : Head) {f : Port → Port}
    (hf : p (f s.ports[h]) = p s.ports[h]) (g : Head) : p (s.modPort h f).ports[g] = p s.ports[g] := by
  by_cases hg : h = g
  · subst hg
    simpa using hf
  · have hval : h.val ≠ g.val := fun he => hg (Fin.ext he)
    simp [hval]

/-! ## The planning pass (R106 to R108) -/

/-- What a planning pass leaves of a record: all but the slot that it names. -/
def TrackRecord.plan (r : TrackRecord) : Nat × Bool × Bool := (r.track, r.active, r.suppressed)

/-- A change of one record that leaves its plan leaves that of the queue. -/
theorem TrackRecord.plan_modify {f : TrackRecord → TrackRecord} (hf : ∀ r, (f r).plan = r.plan) (q : List TrackRecord)
    (j : Nat) : (q.modify j f).map TrackRecord.plan = q.map TrackRecord.plan := by
  refine List.ext_getElem? fun i => ?_
  rw [List.getElem?_map, List.getElem?_map, List.getElem?_modify]
  cases q[i]? with
  | none => rfl
  | some r => by_cases hi : j = i <;> simp [hi, hf]

/-- A channel after a planning pass: its queue alone is longer, by records at the tail, and names more slots. -/
structure Channel.Extends (c d : Channel) : Prop where
  fields : d = { c with queue := d.queue }
  records : c.queue.map TrackRecord.plan <+: d.queue.map TrackRecord.plan

namespace Channel.Extends

variable {c d e : Channel}

theorem refl (c : Channel) : c.Extends c := ⟨rfl, List.prefix_rfl⟩

theorem trans (hcd : c.Extends d) (hde : d.Extends e) : c.Extends e := by
  refine ⟨?_, hcd.records.trans hde.records⟩
  rw [hde.fields, hcd.fields]

/-- The first record keeps its track and its status. -/
theorem head (h : c.Extends d) {r : TrackRecord} {rest : List TrackRecord} (hc : c.queue = r :: rest) :
    d.queue.head?.map TrackRecord.track = some r.track ∧ d.queue.head?.map TrackRecord.active = some r.active := by
  have hprefix := h.records
  rw [hc] at hprefix
  cases hd : d.queue with
  | nil =>
    rw [hd] at hprefix
    simp at hprefix
  | cons q more =>
    rw [hd, List.map_cons, List.map_cons, List.cons_prefix_cons] at hprefix
    obtain ⟨htrack, hactive, -⟩ : r.track = q.track ∧ r.active = q.active ∧ r.suppressed = q.suppressed := by
      simpa [TrackRecord.plan] using hprefix.1
    simp [htrack, hactive]

end Channel.Extends

/-- The channels after a part of a planning pass: those that move are extended, the others as they were. -/
structure State.Plans (s t : State) : Prop where
  grows : ∀ g : Head, s.heads[g].Extends t.heads[g]
  rests : ∀ g : Head, s.heads[g].state.moving = false → t.heads[g] = s.heads[g]

namespace State.Plans

variable {s t u : State}

theorem of_same (h : t.heads = s.heads) : Plans s t := by
  constructor
  · intro g
    rw [h]
    exact .refl _
  · intro g _
    rw [h]

theorem trans (hst : Plans s t) (htu : Plans t u) : Plans s u := by
  refine ⟨fun g => (hst.grows g).trans (htu.grows g), fun g hg => ?_⟩
  rw [htu.rests g (by rw [hst.rests g hg]; exact hg), hst.rests g hg]

/-- A head keeps its state. -/
theorem state (h : Plans s t) (g : Head) : t.heads[g].state = s.heads[g].state := by
  rw [(h.grows g).fields]

/-- The channel of a moving head is extended. -/
theorem modHead {h : Head} {f : Channel → Channel} (hm : s.heads[h].state.moving = true)
    (hf : s.heads[h].Extends (f s.heads[h])) : Plans s (s.modHead h f) := by
  have hother {g : Head} (hg : h ≠ g) : (s.modHead h f).heads[g] = s.heads[g] := by
    have hval : h.val ≠ g.val := fun he => hg (Fin.ext he)
    simp [hval]
  refine ⟨fun g => ?_, fun g hg => hother fun he => by rw [← he, hm] at hg; cases hg⟩
  by_cases hg : h = g
  · subst hg
    simpa using hf
  · rw [hother hg]
    exact .refl _

end State.Plans

/-- First stage of a pass (R107). -/
theorem State.extendHead_plans (h : Head) (s : State) : State.Plans s (State.extendHead h s) := by
  have happend (t : State) : t.heads[h].Extends
      { t.heads[h] with queue := t.heads[h].queue ++ [t.newRecord t.heads[h].planTrack] } :=
    ⟨rfl, by rw [List.map_append]; exact List.prefix_append _ _⟩
  have hqueue (n : Nat) : ∀ t, t.heads[h].state.moving = true → State.Plans t (State.extendQueue h n t) := by
    induction n with
    | zero => exact fun t _ => .of_same rfl
    | succ n ih =>
      intro t ht
      unfold State.extendQueue
      split
      · have hone : State.Plans t (t.appendRecord h) := .modHead ht (happend t)
        exact hone.trans (ih _ (by rw [hone.state]; exact ht))
      · exact .of_same rfl
  unfold State.extendHead
  split
  · next hm => exact hqueue _ s hm
  · exact .of_same rfl

/-- One record of a moving head resolved (R108). -/
theorem State.resolveRecord_plans (h : Head) (s : State) (j : Nat) (hm : s.heads[h].state.moving = true) :
    State.Plans s (State.resolveRecord h s j) := by
  have hslot (t : State) (ht : t.heads = s.heads) (k : Key) (n : Fin 64) : State.Plans s (t.setRecordSlot h j k n) := by
    have hsame : State.Plans s t := .of_same ht
    refine hsame.trans (.modHead (by rw [ht]; exact hm) ⟨rfl, ?_⟩)
    exact (TrackRecord.plan_modify (f := fun r => { r with body := .image k (some n) }) (fun _ => rfl) _ j) ▸
      List.prefix_rfl
  unfold State.resolveRecord
  split
  · split
    · exact hslot _ (by simp) _ _
    · split
      · split
        · exact hslot _ (by simp) _ _
        · exact .of_same (by simp)
      · exact .of_same rfl
  all_goals exact .of_same rfl

/-- A planning pass (R106). -/
theorem State.planningPass_plans (s : State) : State.Plans s s.planningPass := by
  have hrecords (h : Head) (js : List Nat) :
      ∀ t, t.heads[h].state.moving = true → State.Plans t (js.foldl (State.resolveRecord h) t) := by
    induction js with
    | nil => exact fun t _ => .of_same rfl
    | cons j js ih =>
      intro t ht
      have hone := State.resolveRecord_plans h t j ht
      exact hone.trans (ih _ (by rw [hone.state]; exact ht))
  have hfirst : State.Plans s (s.eachHead State.extendHead) :=
    State.eachHead_inv (P := State.Plans s) s _ (fun h t ht => ht.trans (State.extendHead_plans h t)) (.of_same rfl)
  refine State.eachHead_inv (P := State.Plans s) _ _ (fun h t ht => ht.trans ?_) hfirst
  unfold State.resolveHead
  split
  · next hm => exact hrecords h _ t hm
  · exact .of_same rfl

/-! ## One head moved from one state to another -/

/-- Of what `headsAgree` reads, one head's state alone moves, to a given state. -/
structure State.Moves (h : Head) (x : HeadState) (s t : State) : Prop where
  job : t.jcu.state = s.jcu.state
  setups : t.tlm.setups = s.tlm.setups
  fault : ∀ g : Head, t.ports[g].fault = s.ports[g].fault
  heads : State.MovesTo h x s t

namespace State.Moves

variable {h : Head} {x y : HeadState} {s t u : State}

theorem of_same (hjob : t.jcu.state = s.jcu.state) (hsetups : t.tlm.setups = s.tlm.setups) (hports : t.ports = s.ports)
    (hheads : t.heads = s.heads) : Moves h s.heads[h].state s t :=
  ⟨hjob, hsetups, fun g => by rw [hports], .of_same hheads⟩

theorem refl (s : State) : Moves h s.heads[h].state s s := .of_same rfl rfl rfl rfl

/-- One head's channel is changed. -/
theorem modHead {f : Channel → Channel} (hf : (f s.heads[h]).state = x) : Moves h x s (s.modHead h f) :=
  ⟨rfl, rfl, fun _ => rfl, _, hf, rfl⟩

theorem trans (hst : Moves h x s t) (htu : Moves h y t u) : Moves h y s u :=
  ⟨htu.job.trans hst.job, htu.setups.trans hst.setups, fun g => (htu.fault g).trans (hst.fault g),
    hst.heads.trans htu.heads⟩

/-- A later change that keeps the head's state. -/
theorem keep (hst : Moves h x s t) (htu : Moves h t.heads[h].state t u) : Moves h x s u :=
  hst.trans (hst.heads.self ▸ htu)

end State.Moves

/-! ## What each operation makes of the head's state -/

theorem State.raiseHead_moves (s : State) (h : Head) (k : EventKind) (d : Word32) :
    State.Moves h s.heads[h].state s (s.raiseHead h k d) :=
  .of_same (by simp) (by simp) (by simp) (by simp)

theorem State.endTrack_moves (s : State) (h : Head) (o : Option DefectCause) :
    State.Moves h s.heads[h].state s (s.endTrack h o) :=
  ⟨by simp, by simp, by simp, s.endTrack_movesTo h o⟩

theorem State.stopNow_moves (s : State) (h : Head) : State.Moves h .stopped s (s.stopNow h) :=
  ⟨by simp, by simp, by simp, s.stopNow_movesTo h⟩

/-- A head that is set to a state and then drops its PLANNED records. -/
theorem State.dropPlanned_moves (s : State) (h : Head) (x : HeadState) :
    State.Moves h x s ((s.setHeadState h x).dropPlanned h) :=
  ⟨by simp, by simp, by simp, { s.heads[h] with state := x, queue := s.heads[h].queue.filter fun r => r.active }, rfl,
    by simp [State.dropPlanned]⟩

theorem State.park_moves (s : State) (h : Head) (track : Nat) : State.Moves h .finished s (s.park h track) :=
  (s.dropPlanned_moves h .finished).keep (State.raiseHead_moves _ h _ _)

theorem State.tripHead_moves (s : State) (h : Head) : State.Moves h .tripped s (s.tripHead h) :=
  (s.endTrack_moves h _).trans (State.dropPlanned_moves _ h .tripped)

/-- The STEP line is nothing that agreement reads. -/
theorem State.raiseStep_moves (s : State) (h : Head) : State.Moves h s.heads[h].state s (s.raiseStep h) :=
  ⟨rfl, rfl, State.modPort_leaves Port.fault s h rfl, .of_same rfl⟩

theorem State.waitAfterEnd_moves (s : State) (h : Head) (owed : Bool) :
    State.Moves h .waiting s (s.waitAfterEnd h owed) := by
  have hwait : State.Moves h .waiting s (s.modHead h fun c => { c with state := .waiting, wait := 0 }) := .modHead rfl
  unfold State.waitAfterEnd
  dsimp only
  split
  · exact hwait.keep (State.raiseStep_moves _ h)
  · exact hwait

/-- The state of a head whose track has ended, at an index or by a short revolution (R118, R119). -/
def HeadState.afterEnd (last stopping : Bool) : HeadState :=
  if last then .finished else if stopping then .stopped else .waiting

theorem State.afterEnd_moves (s : State) (h : Head) (track : Nat) (stopping owed : Bool) :
    State.Moves h (HeadState.afterEnd (decide (track = s.lastTrack h)) stopping) s
      (s.afterEnd h track stopping owed) := by
  unfold State.afterEnd HeadState.afterEnd
  by_cases hlast : track = s.lastTrack h
  · rw [if_pos hlast, if_pos (decide_eq_true hlast)]
    exact s.park_moves h track
  · rw [if_neg hlast, decide_eq_false hlast]
    cases stopping
    · exact s.waitAfterEnd_moves h owed
    · exact s.stopNow_moves h

/-- The state that the test of the start conditions gives a head (R113, R114). -/
def State.startState (s : State) (h : Head) : HeadState :=
  match s.startFailure h with
  | none => .engraving
  | some _ => if s.waitLimit < s.heads[h].wait + 1 then .stalled else s.heads[h].state

theorem State.testStart_moves (s : State) (h : Head) : State.Moves h (s.startState h) s (s.testStart h) := by
  have hidle (r : IdleReason) (d : Word32) : State.Moves h s.heads[h].state s
      ((s.modHead h fun c => { c with wait := c.wait + 1, idleRevs := satInc c.idleRevs }).raiseHead h .idleRev d) :=
    (State.Moves.modHead (f := fun c => { c with wait := c.wait + 1, idleRevs := satInc c.idleRevs }) rfl).keep
      (State.raiseHead_moves _ h _ _)
  unfold State.testStart State.startState
  cases s.startFailure h with
  | none =>
    exact ⟨by simp, by simp, by simp,
      { s.heads[h] with state := .engraving, wait := 0, queue := activateFirst s.heads[h].queue }, rfl, rfl⟩
  | some r =>
    unfold State.idleRevolution
    dsimp only
    split
    · exact ((hidle r _).trans (State.dropPlanned_moves _ h .stalled)).keep (State.raiseHead_moves _ h _ _)
    · exact hidle r _

theorem State.haltHead_moves (c : DefectCause) (h : Head) (s : State) :
    State.Moves h (if s.heads[h].state.trips then .stopped else s.heads[h].state) s (State.haltHead c h s) :=
  ⟨by simp, by simp, by simp, State.haltHead_movesTo c h s⟩

/-- The state that HEAD_STOP or a halt of the job gives a head (R122, R146). -/
def HeadState.stopNext : HeadState → HeadState
  | .engraving => .stopping
  | .waiting => .stopped
  | .stalled => .stopped
  | .idle => .idle | .ready => .ready | .stopping => .stopping | .stopped => .stopped | .tripped => .tripped
  | .finished => .finished

theorem State.stopHead_moves (h : Head) (s : State) :
    State.Moves h s.heads[h].state.stopNext s (State.stopHead h s) := by
  have hkept : State.Moves h s.heads[h].state s s := .refl s
  unfold State.stopHead
  cases hst : s.heads[h].state
  case engraving => exact .modHead rfl
  case waiting | stalled => exact s.stopNow_moves h
  all_goals rw [hst] at hkept; exact hkept

/-- The state that JOB_START or HEAD_RESUME gives a head that it starts: by its range complete flag, and by whether it is a
LATCHED head under an active FAULT (R111, R124, R136). -/
def HeadState.resumed (complete trips : Bool) : HeadState :=
  if complete then .finished else if trips then .tripped else .waiting

/-- The state that JOB_START gives a head (R111). -/
def HeadState.started (x : HeadState) (complete trips : Bool) : HeadState :=
  if x = .ready ∨ x = .stopped then HeadState.resumed complete trips else x

/-- A WAITING head would trip at once (R136). -/
def State.tripsAtOnce (s : State) (h : Head) : Bool := !s.perCell h && s.ports[h].fault

/-- The head set to WAITING, with a step owed raised. -/
def State.waitAgain (s : State) (h : Head) : State :=
  let t := s.modHead h fun c => { c with state := .waiting, wait := 0 }
  if !s.heads[h].positioned && !s.ports[h].step then t.raiseStep h else t

theorem State.waitAgain_moves (s : State) (h : Head) : State.Moves h .waiting s (s.waitAgain h) := by
  have hwait : State.Moves h .waiting s (s.modHead h fun c => { c with state := .waiting, wait := 0 }) := .modHead rfl
  unfold State.waitAgain
  dsimp only
  split
  · exact hwait.keep (State.raiseStep_moves _ h)
  · exact hwait

theorem State.setWaiting_eq (h : Head) (s : State) :
    State.setWaiting h s =
      if s.tripsAtOnce h
      then ((s.waitAgain h).tripHead h).raiseTrip h (s.waitAgain h).heads[h] .level else s.waitAgain h := by
  have hcond : (s.waitAgain h).tripsAtOnce h = s.tripsAtOnce h := by
    rw [State.tripsAtOnce, (s.waitAgain_moves h).fault, State.perCell, (s.waitAgain_moves h).setups]
    rfl
  have hpos : (s.modHead h fun c => { c with state := .waiting, wait := 0 }).heads[h].positioned =
      s.heads[h].positioned := by simp
  have hsame : State.setWaiting h s =
      if (s.waitAgain h).tripsAtOnce h
      then ((s.waitAgain h).tripHead h).raiseTrip h (s.waitAgain h).heads[h] .level else s.waitAgain h := by
    unfold State.setWaiting State.waitAgain
    dsimp only
    rw [hpos]
    rfl
  rw [hsame, hcond]

theorem State.resumeHead_moves (h : Head) (s : State) :
    State.Moves h (HeadState.resumed s.heads[h].complete (s.tripsAtOnce h)) s (State.resumeHead h s) := by
  unfold State.resumeHead HeadState.resumed
  split
  · exact s.park_moves h _
  · rw [State.setWaiting_eq]
    split
    · exact ((s.waitAgain_moves h).trans (State.tripHead_moves _ h)).keep (State.raiseHead_moves _ h _ _)
    · exact s.waitAgain_moves h

theorem State.startHead_moves (h : Head) (s : State) :
    State.Moves h (s.heads[h].state.started s.heads[h].complete (s.tripsAtOnce h)) s (State.startHead h s) := by
  have hkept : State.Moves h s.heads[h].state s s := .refl s
  have hresumed := State.resumeHead_moves h s
  unfold State.startHead HeadState.started
  cases hst : s.heads[h].state
  case ready | stopped => exact hresumed
  all_goals rw [hst] at hkept; exact hkept

theorem State.armHead_moves (h : Head) (s : State) :
    State.Moves h (if s.enabled h then .ready else .idle) s (State.armHead h s) := by
  refine ⟨by simp, by simp, by simp, s.heads[h].armed (s.enabled h) s.ports[h].step (s.firstTrack h), ?_, ?_⟩
  · unfold Channel.armed
    split <;> rfl
  · simp [State.armHead, Channel.armed]

theorem State.clearHead_moves (h : Head) (s : State) : State.Moves h .idle s (State.clearHead h s) :=
  ⟨by simp, by simp, by simp, { s.heads[h] with state := .idle, queue := [] }, rfl,
    by simp [State.clearHead, State.clearQueue]⟩

end Sys2Proof.Machine

/-! The heads agree with the job, the enables and the FAULT levels: a head's change keeps that, a job transition gives every
head a state that agrees with the new job state, and no other event touches what agreement reads (R106, R136, R144, R146). -/

namespace Sys2Proof.Machine

/-! ## Agreement of one head -/

/-- What `headsAgree` asks of one head. -/
structure HeadState.Agrees (x : HeadState) (job : JobState) (enabled perCell fault : Bool) : Prop where
  idle : job = .idle → x = .idle
  motion : job.inMotion = false → x.trips = false
  halting : job = .halting → x.trips = true → x = .stopping
  disabled : enabled = false → x = .idle
  latched : perCell = false → x.trips = true → fault = false

/-- Head `h` agrees with the job, its enable and its FAULT level. -/
def State.agreesAt (s : State) (h : Head) : Prop :=
  s.heads[h].state.Agrees s.jcu.state (s.enabled h) (s.perCell h) s.ports[h].fault

theorem State.headsAgree_iff (s : State) : s.headsAgree ↔ ∀ h : Head, s.agreesAt h := by
  refine forall_congr' fun h => ⟨?_, fun hx => ⟨hx.idle, hx.motion, hx.halting, hx.disabled, hx.latched⟩⟩
  rintro ⟨hidle, hmotion, hhalting, hdisabled, hlatched⟩
  exact ⟨hidle, hmotion, hhalting, hdisabled, hlatched⟩

namespace HeadState

variable {x y : HeadState} {job : JobState} {enabled perCell fault : Bool}

/-- An IDLE head agrees with every job. -/
theorem Agrees.of_idle : HeadState.idle.Agrees job enabled perCell fault :=
  ⟨fun _ => rfl, fun _ => rfl, nofun, fun _ => rfl, nofun⟩

/-- An enabled head that is in no state of motion agrees with every job that is not IDLE. -/
theorem Agrees.of_rest (hx : x.trips = false) (hjob : job ≠ .idle) (henabled : enabled = true) :
    x.Agrees job enabled perCell fault := by
  refine ⟨fun he => absurd he hjob, fun _ => hx, fun _ ht => ?_, fun he => ?_, fun _ ht => ?_⟩
  · rw [hx] at ht; cases ht
  · rw [henabled] at he; cases he
  · rw [hx] at ht; cases ht

/-- A head that is not IDLE is enabled, in a job that is not IDLE. -/
theorem Agrees.armed (h : x.Agrees job enabled perCell fault) (hx : x ≠ .idle) : job ≠ .idle ∧ enabled = true :=
  ⟨fun he => hx (h.idle he), Bool.eq_true_of_not_eq_false fun he => hx (h.disabled he)⟩

/-- The states that the events of a job in motion give a head: its own; from any but IDLE a state of rest; and from one of
motion but STOPPING any state (R118, R119, R122, R123). -/
def MayBecome (y x : HeadState) : Prop :=
  x = y ∨ (y ≠ .idle ∧ x.trips = false) ∨ (y.trips = true ∧ y ≠ .stopping)

/-- Such a change keeps the agreement. -/
theorem Agrees.mayBecome (h : y.Agrees job enabled perCell fault) (hx : y.MayBecome x) :
    x.Agrees job enabled perCell fault := by
  obtain rfl | ⟨hy, hx⟩ | ⟨hy, hne⟩ := hx
  · exact h
  · exact .of_rest hx (h.armed hy).1 (h.armed hy).2
  · have hidle : y ≠ .idle := fun he => by rw [he] at hy; cases hy
    obtain ⟨hjob, henabled⟩ := h.armed hidle
    refine ⟨fun he => absurd he hjob, fun hm => ?_, fun hh => absurd (h.halting hh hy) hne, fun he => ?_,
      fun hp _ => h.latched hp hy⟩
    · rw [h.motion hm] at hy; cases hy
    · rw [henabled] at he; cases he

/-- A halt of the job (R146). -/
theorem Agrees.stopNext (h : x.Agrees .running enabled perCell fault) :
    x.stopNext.Agrees .halting enabled perCell fault := by
  cases hx : x with
  | idle => exact .of_idle
  | engraving | stopping =>
    have henabled := (h.armed (by rw [hx]; nofun)).2
    refine ⟨nofun, nofun, fun _ _ => rfl, fun he => ?_, fun hp _ => h.latched hp (by rw [hx]; rfl)⟩
    rw [henabled] at he
    cases he
  | ready | waiting | stopped | stalled | tripped | finished =>
    exact .of_rest rfl nofun (h.armed (by rw [hx]; nofun)).2

/-- An abort or a fault of the job (R148, R149). -/
theorem Agrees.halted {new : JobState} (h : x.Agrees job enabled perCell fault) (hnew : new ≠ .idle) :
    (if x.trips then HeadState.stopped else x).Agrees new enabled perCell fault := by
  by_cases hidle : x = .idle
  · rw [hidle]
    exact .of_idle
  · have henabled := (h.armed hidle).2
    split
    · exact .of_rest rfl hnew henabled
    · next hx => exact .of_rest (Bool.eq_false_iff.2 hx) hnew henabled

/-- A job that ends: every head is FINISHED, IDLE or out of motion (R147). -/
theorem Agrees.ended {new : JobState} (h : x.Agrees job enabled perCell fault) (hnew : new ≠ .idle)
    (hrest : x.trips = false) : x.Agrees new enabled perCell fault := by
  by_cases hidle : x = .idle
  · rw [hidle]
    exact .of_idle
  · exact .of_rest hrest hnew (h.armed hidle).2

/-- The start of a head: only a head that is not to trip becomes WAITING (R111, R124, R136). -/
theorem Agrees.resumed (h : x.Agrees job enabled perCell fault) (hx : x ≠ .idle) (complete : Bool) :
    (HeadState.resumed complete (!perCell && fault)).Agrees .running enabled perCell fault := by
  have henabled := (h.armed hx).2
  unfold HeadState.resumed
  split
  · exact .of_rest rfl nofun henabled
  · split
    · exact .of_rest rfl nofun henabled
    · next hlatched =>
      refine ⟨nofun, nofun, nofun, fun he => ?_, fun hp _ => ?_⟩
      · rw [henabled] at he
        cases he
      · simpa [hp] using hlatched

/-- JOB_START (R144). -/
theorem Agrees.started (h : x.Agrees job enabled perCell fault) (complete : Bool) :
    (x.started complete (!perCell && fault)).Agrees .running enabled perCell fault := by
  unfold HeadState.started
  split
  · next hstart => exact h.resumed (by rcases hstart with rfl | rfl <;> nofun) complete
  · exact ⟨nofun, nofun, nofun, h.disabled, h.latched⟩

end HeadState

/-! ## What the events of the heads make of a state -/

namespace HeadState

/-- From a state that may become WAITING, the start conditions give any. -/
theorem MayBecome.of_waiting {x y : HeadState} (h : y.MayBecome .waiting) : y.MayBecome x := by
  obtain rfl | ⟨-, ht⟩ | hmoves := h
  · exact .inr (.inr ⟨rfl, nofun⟩)
  · cases ht
  · exact .inr (.inr hmoves)

/-- What a track end leads to (R118, R119). -/
theorem mayBecome_afterEnd {y : HeadState} (h : y.engaged = true) (last : Bool) :
    y.MayBecome (HeadState.afterEnd last (y == .stopping)) := by
  cases y
  case engraving => exact .inr (.inr ⟨rfl, nofun⟩)
  case stopping => exact .inr (.inl ⟨nofun, by cases last <;> rfl⟩)
  all_goals cases h

end HeadState

/-- A head at an index or a short revolution, or at its abort: the change that it makes of the head's state. -/
def State.Changes (h : Head) (s t : State) : Prop := ∃ x, s.heads[h].state.MayBecome x ∧ State.Moves h x s t

theorem State.Changes.refl (h : Head) (s : State) : State.Changes h s s := ⟨_, .inl rfl, .refl s⟩

/-- A track end and the next state of its head (R117 to R119). -/
theorem State.endTrack_afterEnd_changes {s : State} {h : Head} (hengaged : s.heads[h].state.engaged = true)
    (o : Option DefectCause) (track : Nat) (owed : Bool) :
    State.Changes h s ((s.endTrack h o).afterEnd h track (s.heads[h].state == .stopping) owed) :=
  ⟨_, HeadState.mayBecome_afterEnd hengaged _, (s.endTrack_moves h o).trans (State.afterEnd_moves _ h _ _ _)⟩

theorem State.indexHead_changes (h : Head) (s : State) : State.Changes h s (State.indexHead h s) := by
  unfold State.indexHead
  split
  · next hengaged =>
    cases hr : s.heads[h].activeRecord with
    | none => exact .refl h s
    | some r =>
      dsimp only
      obtain ⟨x, hmay, hafter⟩ := State.endTrack_afterEnd_changes hengaged r.indexOutcome r.track (s.owesStep h)
      split
      · next hwaiting =>
        rw [hafter.heads.self] at hwaiting
        exact ⟨_, (hwaiting ▸ hmay).of_waiting, hafter.trans (State.testStart_moves _ h)⟩
      · exact ⟨x, hmay, hafter⟩
  · split
    · next hwaiting => exact ⟨_, .inr (.inr (by rw [hwaiting]; exact ⟨rfl, nofun⟩)), s.testStart_moves h⟩
    · exact .refl h s

theorem State.shortRevHead_changes (a b : Bool) (h : Head) (s : State) :
    State.Changes h s (State.shortRevHead a b h s) := by
  unfold State.shortRevHead
  dsimp only
  split
  all_goals
    split
    · next hhit =>
      cases hr : s.heads[h].activeRecord with
      | none => exact .refl h s
      | some r => exact State.endTrack_afterEnd_changes (Bool.and_eq_true_iff.1 hhit).1 _ _ _
    · exact .refl h s

theorem State.stopHead_changes (h : Head) (s : State) : State.Changes h s (State.stopHead h s) := by
  refine ⟨_, ?_, State.stopHead_moves h s⟩
  cases s.heads[h].state
  case engraving | waiting | stalled => exact .inr (.inr ⟨rfl, nofun⟩)
  all_goals exact .inl rfl

theorem State.haltHead_changes (c : DefectCause) (h : Head) (s : State) :
    State.Changes h s (State.haltHead c h s) := by
  refine ⟨_, ?_, State.haltHead_moves c h s⟩
  split
  · next ht => exact .inr (.inl ⟨fun he => (by rw [he] at ht; cases ht), rfl⟩)
  · exact .inl rfl

/-- A strobe leaves the states of the heads and the FAULT levels (R98). -/
theorem State.strobeHead_moves (ph : Phase) (c : Nat) (h : Head) (s : State) :
    State.Moves h s.heads[h].state s (State.strobeHead ph c h s) := by
  have hdeliver (t : State) (w : BitVec 16) : State.Moves h t.heads[h].state t (t.deliver h w) :=
    ⟨rfl, rfl, State.modPort_leaves Port.fault t h rfl, .of_same rfl⟩
  have hpipe (t : State) (f : Pipe → Pipe) : State.Moves h t.heads[h].state t (t.modPipe h f) :=
    .of_same rfl rfl rfl rfl
  have hcell (r : TrackRecord) : State.Moves h s.heads[h].state s (s.strobeCell h ph r c) := by
    unfold State.strobeCell
    split
    · exact hdeliver s _
    · have hmark : State.Moves h s.heads[h].state s (((s.modPipe h fun p => { p with suppressed := satInc p.suppressed }).modHead
          h fun x => { x with queue := markSuppressed x.queue })) := (hpipe s _).keep (.modHead rfl)
      exact (hmark.keep (hdeliver _ _)).keep (State.raiseHead_moves _ h _ _)
    · have hengrave (code : Nat) : State.Moves h s.heads[h].state s (s.engraveCell h ph c code) := by
        have hwear : State.Moves h s.heads[h].state s
            { s with tlm := { s.tlm with wear := s.tlm.wear.set h (satInc s.tlm.wear[h]) } } := .of_same rfl rfl rfl rfl
        exact (hwear.keep (hpipe _ _)).keep (hdeliver _ _)
      dsimp only
      split
      · exact hengrave _
      · exact ((hengrave _).keep (hpipe _ _)).keep (State.raiseHead_moves _ h _ _)
  unfold State.strobeHead
  split
  · exact .refl s
  · split
    · unfold State.strobeEngaged
      split
      · exact hdeliver s _
      · split
        · exact hcell _
        · dsimp only
          split
          · unfold State.windowStart
            split
            · exact ((hdeliver s _).keep (State.raiseStep_moves _ h)).keep (.modHead rfl)
            · exact hdeliver s _
          · exact hdeliver s _
    · exact hdeliver s _

namespace State.headsAgree

/-! ## Parts of events -/

/-- What leaves the job state, the head setups, the head states and the FAULT levels keeps the agreement. -/
theorem of_same {s t : State} (hs : s.headsAgree) (hjob : t.jcu.state = s.jcu.state)
    (hsetups : t.tlm.setups = s.tlm.setups) (hfault : ∀ g : Head, t.ports[g].fault = s.ports[g].fault)
    (hstate : ∀ g : Head, t.heads[g].state = s.heads[g].state) : t.headsAgree := by
  rw [State.headsAgree_iff] at hs ⊢
  intro g
  have hg := hs g
  unfold State.agreesAt State.enabled State.perCell at hg ⊢
  rwa [hjob, hsetups, hfault, hstate]

/-- The same, where no channel and no port changes. -/
theorem frame {s t : State} (hs : s.headsAgree) (hjob : t.jcu = s.jcu) (hsetups : t.tlm.setups = s.tlm.setups)
    (hports : t.ports = s.ports) (hheads : t.heads = s.heads) : t.headsAgree :=
  hs.of_same (by rw [hjob]) hsetups (fun g => by rw [hports]) (fun g => by rw [hheads])

/-- The same, where channels change and not their states. -/
theorem of_states {s t : State} (hs : s.headsAgree) (hjob : t.jcu = s.jcu) (hsetups : t.tlm.setups = s.tlm.setups)
    (hports : t.ports = s.ports) (hstate : ∀ g : Head, t.heads[g].state = s.heads[g].state) : t.headsAgree :=
  hs.of_same (by rw [hjob]) hsetups (fun g => by rw [hports]) hstate

/-- One head moves to a state that agrees; the others agreed before. -/
theorem of_moves {s t : State} {h : Head} {x : HeadState} (hs : ∀ g ≠ h, s.agreesAt g) (hm : State.Moves h x s t)
    (hx : x.Agrees s.jcu.state (s.enabled h) (s.perCell h) s.ports[h].fault) : t.headsAgree := by
  rw [State.headsAgree_iff]
  intro g
  unfold State.agreesAt
  rw [State.enabled, State.perCell, hm.setups, hm.fault, hm.job]
  by_cases hg : g = h
  · subst hg
    rw [hm.heads.self]
    exact hx
  · rw [hm.heads.other (Ne.symm hg)]
    exact hs g hg

/-- A change of one head. -/
theorem changes {s t : State} {h : Head} (hs : s.headsAgree) (hc : State.Changes h s t) : t.headsAgree := by
  obtain ⟨x, hmay, hm⟩ := hc
  have hall := s.headsAgree_iff.1 hs
  exact of_moves (fun g _ => hall g) hm (HeadState.Agrees.mayBecome (hall h) hmay)

/-- What agreement reads of one head: the job state, the setups, the FAULT levels and the head's own state. -/
structure SameAt (h : Head) (s t : State) : Prop where
  job : t.jcu.state = s.jcu.state
  setups : t.tlm.setups = s.tlm.setups
  fault : ∀ k : Head, t.ports[k].fault = s.ports[k].fault
  state : t.heads[h].state = s.heads[h].state

theorem SameAt.refl {h : Head} (s : State) : SameAt h s s := ⟨rfl, rfl, fun _ => rfl, rfl⟩

theorem SameAt.trans {h : Head} {s t u : State} (hst : SameAt h s t) (htu : SameAt h t u) : SameAt h s u :=
  ⟨htu.job.trans hst.job, htu.setups.trans hst.setups, fun k => (htu.fault k).trans (hst.fault k),
    htu.state.trans hst.state⟩

/-- The eight heads taken in order, each moved to a state that agrees. -/
theorem of_eachHead {s : State} {f : Head → State → State} {next : Head → State → HeadState}
    (hf : ∀ g t, State.Moves g (next g t) t (f g t))
    (hnext : ∀ (g : Head) (t : State), SameAt g s t →
      (next g t).Agrees s.jcu.state (s.enabled g) (s.perCell g) s.ports[g].fault) : (s.eachHead f).headsAgree := by
  rw [State.headsAgree_iff]
  intro h
  obtain ⟨u, hbefore, hafter⟩ := State.eachHead_at (R := SameAt h) SameAt.refl (fun _ _ _ => SameAt.trans) f h
    (fun g hg t => ⟨(hf g t).job, (hf g t).setups, (hf g t).fault, (hf g t).heads.other hg⟩) s
  have hmoves := hf h u
  unfold State.agreesAt
  rw [State.enabled, State.perCell, hafter.job, hafter.setups, hafter.fault, hafter.state, hmoves.job, hmoves.setups,
    hmoves.fault, hmoves.heads.self, hbefore.job, hbefore.setups, hbefore.fault]
  exact hnext h u hbefore

/-- JCU's check of the head states (R147). -/
theorem headsCheck (s : State) (hs : s.headsAgree) : s.headsCheck.headsAgree := by
  have hset {new : JobState} (c : JobCause) (hnew : new ≠ .idle) (hrest : ∀ g : Head, s.heads[g].state.trips = false) :
      (s.setJob new c).headsAgree := by
    rw [State.headsAgree_iff] at hs ⊢
    intro g
    have hended := HeadState.Agrees.ended (hs g) hnew (hrest g)
    unfold State.agreesAt State.enabled State.perCell at hended ⊢
    simpa [State.setJob_jcu] using hended
  have hall := s.headsAgree_iff.1 hs
  unfold State.headsCheck
  split
  · split
    · next hfinished =>
      refine hset _ nofun fun g => ?_
      have hg := List.all_eq_true.1 hfinished g (mem_headOrder g)
      cases henabled : s.enabled g with
      | false => rw [(hall g).disabled henabled]; rfl
      | true =>
        have hstate : s.heads[g].state = .finished := by simpa [henabled] using hg
        rw [hstate]
        rfl
    · exact hs
  · split
    · next hhalting =>
      split
      · next hnone =>
        refine hset _ (by split <;> nofun) fun g => ?_
        have hg := List.all_eq_true.1 hnone g (mem_headOrder g)
        refine Bool.eq_false_iff.2 fun ht => ?_
        rw [(hall g).halting hhalting ht] at hg
        cases hg
      · exact hs
    · exact hs

/-- A job transition: the job state is set, each head follows to a state that agrees with it, and JCU checks the heads. -/
theorem transition {s : State} {new : JobState} (c : JobCause) {f : Head → State → State}
    {next : Head → State → HeadState} (hf : ∀ g t, State.Moves g (next g t) t (f g t))
    (hnext : ∀ (g : Head) (t : State), t.tlm.setups = s.tlm.setups → (∀ k : Head, t.ports[k].fault = s.ports[k].fault) →
      t.heads[g].state = s.heads[g].state →
      (next g t).Agrees new (s.enabled g) (s.perCell g) s.ports[g].fault) :
    ((s.setJob new c).eachHead f).headsAgree := by
  have hset : (s.setJob new c).tlm.setups = s.tlm.setups ∧ (s.setJob new c).ports = s.ports ∧
      (s.setJob new c).heads = s.heads := by simp
  obtain ⟨hsetups, hports, hheads⟩ := hset
  refine of_eachHead hf fun g t ht => ?_
  have hg := hnext g t (ht.setups.trans hsetups) (fun k => (ht.fault k).trans (by rw [hports]))
    (ht.state.trans (by rw [hheads]))
  rw [State.setJob_jcu, State.enabled, State.perCell, hsetups, hports]
  exact hg

theorem haltJob (s : State) (c : JobCause) (hrun : s.jcu.state = .running) (hs : s.headsAgree) :
    (s.haltJob c).headsAgree := by
  have hall := s.headsAgree_iff.1 hs
  refine headsCheck _ (transition c State.stopHead_moves fun g t _ _ hx => ?_)
  rw [hx]
  exact HeadState.Agrees.stopNext (hrun ▸ hall g)

/-- An abort or a fault of the job. -/
theorem haltedJob {s : State} {new : JobState} (hnew : new ≠ .idle) (c : JobCause) (d : DefectCause) (hs : s.headsAgree) :
    (((s.setJob new c).eachHead (State.haltHead d)).headsCheck).headsAgree := by
  have hall := s.headsAgree_iff.1 hs
  refine headsCheck _ (transition c (State.haltHead_moves d) fun g t _ _ hx => ?_)
  rw [hx]
  exact HeadState.Agrees.halted (hall g) hnew

theorem planningPass (s : State) (hs : s.headsAgree) : s.planningPass.headsAgree :=
  hs.of_states (by simp) (by simp) (by simp) s.planningPass_plans.state

theorem startJob (s : State) (hs : s.headsAgree) : s.startJob.headsAgree := by
  have hall := s.headsAgree_iff.1 hs
  refine headsCheck _ (planningPass _ (transition .start State.startHead_moves fun g t hsetups hp hx => ?_))
  have htrips : t.tripsAtOnce g = (!s.perCell g && s.ports[g].fault) := by
    rw [State.tripsAtOnce, State.perCell, hsetups, hp]
    rfl
  rw [hx, htrips]
  exact HeadState.Agrees.started (hall g) _

theorem armJob (s : State) : s.armJob.headsAgree := by
  refine headsCheck _ (transition .arm (next := fun g t => if t.enabled g then .ready else .idle) State.armHead_moves
    fun g t hsetups _ _ => ?_)
  have henabled : t.enabled g = s.enabled g := by rw [State.enabled, hsetups]; rfl
  rw [henabled]
  split
  · next hon => exact .of_rest rfl nofun hon
  · exact .of_idle

theorem clearJob (s : State) : s.clearJob.headsAgree :=
  headsCheck _ (transition .clear (next := fun _ _ => .idle) State.clearHead_moves fun _ _ _ _ _ => .of_idle)

theorem abortJob (s : State) (c : JobCause) (hs : s.headsAgree) : (s.abortJob c).headsAgree :=
  haltedJob (new := .halted) nofun c .aborted hs

theorem faultJob (s : State) (hs : s.headsAgree) : s.faultJob.headsAgree :=
  haltedJob (new := .faulted) nofun .spindle .jobFault hs

theorem routeEffect (s : State) (a : DueAction) (hs : s.headsAgree) : (s.routeEffect a).headsAgree := by
  unfold State.routeEffect
  split
  · split
    · next hrun => exact haltJob s _ hrun hs
    · exact hs
  · split
    · exact abortJob _ _ hs
    · exact hs
  · exact hs

/-- A part of an event and its actions. -/
theorem within (s : State) (f : State → State) (hf : (f (s.setDue [])).headsAgree) : (s.within f).headsAgree :=
  State.within_inv s f (fun _ _ ht => ht) routeEffect hf

/-- A part of an event that leaves what agreement reads, and its actions. -/
theorem within_same (s : State) (f : State → State)
    (hf : ∀ t, (f t).jcu = t.jcu ∧ (f t).tlm.setups = t.tlm.setups ∧ (f t).ports = t.ports ∧ (f t).heads = t.heads)
    (hs : s.headsAgree) : (s.within f).headsAgree := by
  obtain ⟨hjob, hsetups, hports, hheads⟩ := hf (s.setDue [])
  exact within s f (frame (s := s.setDue []) hs hjob hsetups hports hheads)

/-- A head's change, passed to JCU. -/
theorem withCheck (s : State) (h : Head) (f : State → State) (hf : State.Changes h s (f s)) (hs : s.headsAgree) :
    (s.withCheck h f).headsAgree :=
  State.withCheck_inv s h f headsCheck (hs.changes hf)

theorem planning (s : State) (hs : s.headsAgree) : (s.within State.planningPass).headsAgree :=
  within _ _ (planningPass _ hs)

/-! ## Segments, expiries and the link -/

theorem completeFill (s : State) (r : Request) (hs : s.headsAgree) : (s.within fun u => u.completeFill r).headsAgree :=
  within_same s _ (by simp) hs

theorem acceptSegment (s : State) (r : Request) (sg : Segment) (hs : s.headsAgree) :
    (s.acceptSegment r sg).headsAgree := by
  have hstored (f) : ((s.storeSegment r.slot sg).modRequest r.key f).headsAgree := hs
  unfold State.acceptSegment
  dsimp only
  split
  · exact planning _ (completeFill _ _ (hstored _))
  · exact hstored _

theorem preloadSegment (s : State) (sg : Segment) (hs : s.headsAgree) : (s.preloadSegment sg).headsAgree := by
  unfold State.preloadSegment
  dsimp only
  repeat' split
  rotate_right
  · exact acceptSegment _ _ _ hs
  all_goals exact within_same _ _ (by simp) hs

theorem takeSegment (s : State) (sg : Segment) (hs : s.headsAgree) : (s.takeSegment sg).headsAgree := by
  unfold State.takeSegment
  split
  · unfold State.matchedSegment
    split
    · exact within_same _ _ (by simp) hs
    · exact acceptSegment _ _ _ hs
  · split
    · exact preloadSegment _ _ hs
    · exact within_same _ _ (by simp) hs

/-- Records that revert leave the states of their heads (R59). -/
theorem revertRecords (s : State) (n : Fin 64) (hs : s.headsAgree) : (s.revertRecords n).headsAgree :=
  State.eachHead_inv _ _ (fun g t ht => ht.of_same rfl rfl (fun _ => rfl) (State.modHead_leaves Channel.state t g rfl)) hs

theorem fillExpiry (s : State) (hs : s.headsAgree) : s.fillExpiry.headsAgree := by
  unfold State.fillExpiry
  split
  · exact hs
  · next r _ =>
    have hreverted := revertRecords (((s.setDue []).removeRequest r).emptySlot r.slot) r.slot hs
    exact planning _ (within _ _ (hreverted.frame (t := (s.setDue []).expireFill r) (by simp [State.expireFill])
      (by simp [State.expireFill]) (by simp [State.expireFill]) (by simp [State.expireFill])))

theorem offer (s : State) (f : Frame) (hs : s.headsAgree) : (s.offer f).headsAgree := by
  unfold State.offer
  split
  · exact hs.frame (by simp) (by simp) (by simp) (by simp)
  · exact within_same _ _ (by simp) hs

theorem enterUp (s : State) (hs : s.headsAgree) : s.enterUp.headsAgree := by
  have hevent := within_same { s with lnk := { s.lnk with state := .up } }
    (fun u => u.raisePlain .linkUp (linkUpDetail u.occupancy)) (by simp) hs
  exact hevent.frame (by simp [State.enterUp]) (by simp [State.enterUp]) (by simp [State.enterUp])
    (by simp [State.enterUp])

theorem crcError (s : State) (n : Nat) (c : CrcCause) (hs : s.headsAgree) : (s.crcError n c).headsAgree :=
  within_same _ _ (by simp) hs

/-! ## The table memory -/

theorem queueReply (s : State) (r : CommandReply) (hs : s.headsAgree) : (s.queueReply r).headsAgree :=
  hs.frame (by simp) (by simp) (by simp) (by simp)

/-- While the job is IDLE every head is, and then agrees with any setup. -/
theorem of_idle {s t : State} (hs : s.headsAgree) (hidle : s.jcu.state = .idle) (hheads : t.heads = s.heads) :
    t.headsAgree := by
  rw [State.headsAgree_iff] at hs ⊢
  intro g
  unfold State.agreesAt
  rw [hheads, (hs g).idle hidle]
  exact .of_idle

/-- A taken write touches the head setups in IDLE alone (R155 test 3, Table 9.1). -/
theorem tableWrite (s : State) (tag kind copy : Byte) (start : Item) (items : Items) (hs : s.headsAgree) :
    (s.tableWrite tag kind copy start items).headsAgree := by
  unfold State.tableWrite
  split
  · exact queueReply _ _ hs
  · next k hk =>
    by_cases hsetup : k = .headSetup
    · have hidle : s.jcu.state = .idle := by
        by_contra hne
        obtain ⟨-, -, -, -, -, hnone⟩ := State.writeTests_eq_ok hk
        rw [(s.writeRefusal_cases k _ _ _).2.1 (by rw [hsetup]; rfl) hne] at hnone
        cases hnone
      exact hs.of_idle hidle (by simp)
    · have hsetups (o : Items) : (s.tlm.store k copy.toNat o).setups = s.tlm.setups := by
        cases k
        case headSetup => exact absurd rfl hsetup
        all_goals rfl
      exact hs.frame (by simp) (by simp [State.storeWrite, hsetups]) (by simp) (by simp)

theorem takeCommit (s : State) (tag g c : Byte) (hs : s.headsAgree) : (s.takeCommit tag g c).headsAgree := by
  have hans : (s.answer tag 0x20 .accepted).headsAgree := queueReply _ _ hs
  unfold State.takeCommit
  dsimp only
  split
  · exact hans
  · exact within_same _ _ (by simp) hans

/-! ## The commands -/

theorem answered (s : State) (tag code : Byte) (r : Result) (hs : s.headsAgree) : (s.answer tag code r).headsAgree :=
  queueReply _ _ hs

theorem takeJobArm (s : State) (tag : Byte) (hs : s.headsAgree) : (s.takeJobArm tag).headsAgree := by
  unfold State.takeJobArm
  split
  · split
    · exact queueReply _ _ hs
    · exact within _ _ (armJob _)
  · exact answered _ _ _ _ hs

theorem takeJobStart (s : State) (tag : Byte) (hs : s.headsAgree) : (s.takeJobStart tag).headsAgree := by
  unfold State.takeJobStart
  repeat' split
  · exact within _ _ (startJob _ (answered _ _ _ _ hs))
  all_goals exact answered _ _ _ _ hs

theorem takeJobHalt (s : State) (tag : Byte) (hs : s.headsAgree) : (s.takeJobHalt tag).headsAgree := by
  unfold State.takeJobHalt
  split
  · next hrun => exact within _ _ (haltJob _ _ (by simp [hrun]) (answered _ _ _ _ hs))
  · exact answered _ _ _ _ hs

theorem takeJobAbort (s : State) (tag : Byte) (hs : s.headsAgree) : (s.takeJobAbort tag).headsAgree := by
  unfold State.takeJobAbort
  split
  · exact within _ _ (abortJob _ _ (answered _ _ _ _ hs))
  · exact answered _ _ _ _ hs

theorem takeJobClear (s : State) (tag : Byte) (hs : s.headsAgree) : (s.takeJobClear tag).headsAgree := by
  unfold State.takeJobClear
  split
  · exact within _ _ (clearJob _)
  · exact answered _ _ _ _ hs

/-- After a reset every head is IDLE. -/
theorem of_reset {s : State} (hheads : s.heads = Vector.replicate 8 Channel.reset) : s.headsAgree := by
  rw [State.headsAgree_iff]
  intro g
  have hidle : s.heads[g].state = .idle := by simp [hheads, Channel.reset]
  unfold State.agreesAt
  rw [hidle]
  exact .of_idle

theorem softReset (s : State) (tag : Byte) (hs : s.headsAgree) : (s.softReset tag).headsAgree := by
  have hreset : (s.takeSoftReset tag).headsAgree := by
    unfold State.takeSoftReset State.raiseReset
    split
    · exact answered _ _ _ _ hs
    · split
      · exact of_reset rfl
      · exact within_same _ _ (by simp) (of_reset rfl)
  unfold State.softReset
  split
  · unfold State.dispatchRead
    split
    · split
      · exact hreset
      · exact hreset.frame (by simp) (by simp) (by simp) (by simp)
    · exact hreset
  · exact hreset

theorem forHead (s : State) (tag code a : Byte) (f : Head → State) (hf : ∀ g, (f g).headsAgree) (hs : s.headsAgree) :
    (s.forHead tag code a f).headsAgree := by
  unfold State.forHead
  split
  · exact answered _ _ _ _ hs
  · exact hf _

/-- An accepted head command: a change of the head passed to JCU. -/
theorem headChange (s : State) (tag code : Byte) (g : Head) (f : State → State)
    (hf : ∀ t, t.heads = s.heads → State.Changes g t (f t)) (hs : s.headsAgree) :
    ((s.answer tag code .accepted).within fun u => u.withCheck g f).headsAgree :=
  within _ _ (withCheck _ g f (hf _ (by simp)) (answered s tag code .accepted hs))

theorem takeHeadStop (s : State) (tag a : Byte) (hs : s.headsAgree) : (s.takeHeadStop tag a).headsAgree := by
  refine forHead _ _ _ _ _ (fun g => ?_) hs
  split
  · exact headChange _ _ _ _ _ (fun t _ => State.stopHead_changes g t) hs
  · exact answered _ _ _ _ hs

theorem takeHeadAbort (s : State) (tag a : Byte) (hs : s.headsAgree) : (s.takeHeadAbort tag a).headsAgree := by
  refine forHead _ _ _ _ _ (fun g => ?_) hs
  split
  · exact headChange _ _ _ _ _ (fun t _ => State.haltHead_changes _ g t) hs
  · exact answered _ _ _ _ hs

theorem takeTripClear (s : State) (tag a : Byte) (hs : s.headsAgree) : (s.takeTripClear tag a).headsAgree := by
  refine forHead _ _ _ _ _ (fun g => ?_) hs
  split
  · next htripped =>
    refine headChange _ _ _ _ _ (fun t ht => ⟨.stopped, .inr (.inl ⟨?_, rfl⟩), .modHead rfl⟩) hs
    rw [ht, htripped.1]
    nofun
  · exact answered _ _ _ _ hs

theorem takeHeadResume (s : State) (tag a : Byte) (hs : s.headsAgree) : (s.takeHeadResume tag a).headsAgree := by
  refine forHead _ _ _ _ _ (fun g => ?_) hs
  split
  · next hresumable =>
    have hans := answered s tag 0x12 .accepted hs
    obtain ⟨hrun, hstate⟩ : s.jcu.state = .running ∧ s.heads[g].state ≠ .idle := by
      unfold State.resumable at hresumable
      obtain ⟨hrun, hstate⟩ := Bool.and_eq_true_iff.1 hresumable
      exact ⟨by simpa using hrun, fun he => by rw [he] at hstate; cases hstate⟩
    generalize hu : s.answer tag 0x12 .accepted = u
    have hresumed : (u.within fun v => v.withCheck g (State.resumeHead g)).headsAgree := by
      have hujob : u.jcu.state = .running := by rw [← hu]; simpa using hrun
      have hustate : u.heads[g].state ≠ .idle := by rw [← hu]; simpa using hstate
      have hall := u.headsAgree_iff.1 (hu ▸ hans)
      exact within _ _ (State.withCheck_inv _ _ _ headsCheck
        (of_moves (s := u.setDue []) (fun k _ => hall k) (State.resumeHead_moves g _)
          (hujob ▸ HeadState.Agrees.resumed (hall g) hustate _)))
    unfold State.resumeEffect
    dsimp only
    split
    · exact hresumed
    · exact planning _ hresumed
  · exact answered _ _ _ _ hs

/-- A cache command: its reply on a state with the same heads and job, and the planning pass. -/
theorem cacheCommand (s : State) (u : State) (hs : s.headsAgree) (hjob : u.jcu = s.jcu)
    (hsetups : u.tlm.setups = s.tlm.setups) (hports : u.ports = s.ports) (hheads : u.heads = s.heads) :
    u.afterCache.headsAgree := planning _ (hs.frame hjob hsetups hports hheads)

theorem takeCommand (s : State) (tag code a : Byte) (b c : Item) (hs : s.headsAgree) :
    (s.takeCommand tag code a b c).headsAgree := by
  unfold State.takeCommand
  split
  · exact takeJobArm _ _ hs
  · exact takeJobStart _ _ hs
  · exact takeJobHalt _ _ hs
  · exact takeJobAbort _ _ hs
  · exact takeJobClear _ _ hs
  · exact softReset _ _ hs
  · exact takeHeadStop _ _ _ hs
  · exact takeHeadAbort _ _ _ hs
  · exact takeHeadResume _ _ _ hs
  · exact takeTripClear _ _ _ hs
  · exact takeCommit _ _ _ _ hs
  · unfold State.takeCacheLock
    split <;> exact cacheCommand s _ hs (by simp) (by simp) (by simp) (by simp)
  · unfold State.takeCacheUnlock
    split <;> exact cacheCommand s _ hs (by simp) (by simp) (by simp) (by simp)
  · split
    · exact cacheCommand s _ hs (by simp) (by simp) (by simp) (by simp)
    · unfold State.takeInvalidateKey
      (repeat' split) <;> exact cacheCommand s _ hs (by simp) (by simp) (by simp) (by simp)
  · unfold State.takeCacheQuery
    split <;> exact cacheCommand s _ hs (by simp) (by simp) (by simp) (by simp)
  · exact hs

theorem takeInbound (s : State) (i : Inbound) (hs : s.headsAgree) : (s.takeInbound i).headsAgree := by
  cases i with
  | segment sg => exact takeSegment _ _ hs
  | tableWrite tag kind copy start items => exact tableWrite _ _ _ _ _ _ hs
  | tableRead tag kind copy start count =>
    exact hs.frame (by simp [State.takeInbound]) (by simp [State.takeInbound]) (by simp [State.takeInbound])
      (by simp [State.takeInbound])
  | command tag code a b c => exact takeCommand _ _ _ _ _ _ hs
  | unknown kind tag code =>
    exact hs.frame (by simp [State.takeInbound]) (by simp [State.takeInbound]) (by simp [State.takeInbound])
      (by simp [State.takeInbound])
  | badSegment size => exact crcError _ _ _ hs

/-! ## The spindle and the head ports -/

theorem endRevolution (s : State) (hs : s.headsAgree) : s.endRevolution.headsAgree := by
  unfold State.endRevolution
  split
  · exact hs
  · split
    · exact hs
    · exact State.eachHead_inv _ _ (fun g t ht => withCheck t g _ (State.shortRevHead_changes _ _ g t) ht)
        (within_same _ _ (by simp) hs)

theorem passSpindle (x : SpindleState) (s : State) (hs : s.headsAgree) : (State.passSpindle x s).headsAgree := by
  unfold State.passSpindle
  split
  · exact within _ _ (faultJob _ hs)
  · exact hs

theorem raiseSpindle (x : SpindleState) (p : Nat) (s : State) (hs : s.headsAgree) :
    (State.raiseSpindle x p s).headsAgree := by
  unfold State.raiseSpindle
  repeat' split
  · exact hs
  · exact within_same _ _ (by simp) hs
  · exact within_same _ _ (by simp) hs
  · exact hs
  · exact hs

theorem serveIndex (s : State) (hs : s.headsAgree) : s.serveIndex.headsAgree := by
  have hcommit := within_same s (fun u => u.applyPending .index) (by simp) hs
  have hheads := State.eachHead_inv _ (fun g t => t.withCheck g (State.indexHead g))
    (fun g t ht => withCheck t g _ (State.indexHead_changes g t) ht) hcommit
  exact planningPass _ (State.eachHead_inv _ State.setPhase
    (fun g t ht => ht.of_same rfl rfl (State.modPort_leaves Port.fault t g rfl) fun _ => rfl) hheads)

theorem indexArrival (s : State) (hs : s.headsAgree) : s.indexArrival.headsAgree := by
  refine within _ _ ?_
  have hend := endRevolution (s.setDue []) hs
  exact serveIndex _ (raiseSpindle _ _ _ (passSpindle _ _ hend))

theorem indexTimeout (s : State) (hs : s.headsAgree) : s.indexTimeout.headsAgree := by
  unfold State.indexTimeout
  split
  · exact within_same _ _ (by simp) (passSpindle _ _ hs)
  · exact hs

theorem cellStrobe (s : State) (ph : Phase) (hs : s.headsAgree) : (s.cellStrobe ph).headsAgree := by
  unfold State.cellStrobe
  split
  · exact hs
  · exact within _ _ (State.eachHead_inv _ _
      (fun g t ht => ht.changes ⟨_, .inl rfl, State.strobeHead_moves ph _ g t⟩) hs)

/-- A change of one port that keeps its FAULT level, or lowers it. -/
theorem modPort (s : State) (h : Head) (f : Port → Port) (hf : (f s.ports[h]).fault = true → s.ports[h].fault = true)
    (hs : s.headsAgree) : (s.modPort h f).headsAgree := by
  rw [State.headsAgree_iff] at hs ⊢
  intro g
  obtain ⟨hidle, hmotion, hhalting, hdisabled, hlatched⟩ := hs g
  refine ⟨hidle, hmotion, hhalting, hdisabled, fun hp ht => ?_⟩
  have hlow := hlatched hp ht
  by_cases hg : h = g
  · subst hg
    have hlower : (f s.ports[h]).fault = false := Bool.eq_false_iff.2 fun he => by rw [hf he] at hlow; cases hlow
    simpa using hlower
  · have hval : h.val ≠ g.val := fun he => hg (Fin.ext he)
    simpa [hval] using hlow

theorem stepDoneActive (s : State) (h : Head) (n : Nat) (hs : s.headsAgree) : (s.stepDoneActive h n).headsAgree := by
  have hpin := modPort s h (fun p => { p with stepDonePin := true }) id hs
  unfold State.stepDoneActive
  dsimp only
  split
  · have hlevel := modPort _ h (fun p => { p with stepDone := true }) id hpin
    split
    · have hlow := modPort _ h (fun p => { p with step := false }) id hlevel
      exact hlow.of_same rfl rfl (fun _ => rfl) (State.modHead_leaves Channel.state _ h rfl)
    · exact hlevel
  · exact hpin

theorem faultActive (s : State) (h : Head) (n : Nat) (hs : s.headsAgree) : (s.faultActive h n).headsAgree := by
  have hpin := modPort s h (fun p => { p with faultPin := true }) id hs
  unfold State.faultActive
  dsimp only
  split
  · generalize s.modPort h (fun p => { p with faultPin := true }) = u at hpin
    have hall := u.headsAgree_iff.1 hpin
    have hothers : ∀ g ≠ h, (u.modPort h fun p => { p with fault := true }).agreesAt g := by
      intro g hg
      have hval : h.val ≠ g.val := fun he => hg (Fin.ext he.symm)
      have := hall g
      unfold State.agreesAt State.enabled State.perCell at this ⊢
      simpa [hval] using this
    unfold State.faultTaken
    dsimp only
    split
    · next htrips =>
      have hstate : u.heads[h].state ≠ .idle := fun he => by rw [he] at htrips; simp [HeadState.trips] at htrips
      obtain ⟨hjob, henabled⟩ := (hall h).armed hstate
      generalize hv : (u.modPort h fun p => { p with fault := true }) = v at hothers
      have htripped : State.Moves h .tripped (v.setDue []) (((v.setDue []).tripHead h).raiseTrip h u.heads[h] .edge) :=
        (State.tripHead_moves _ h).keep (State.raiseHead_moves _ h _ _)
      refine within _ _ (State.withCheck_inv _ _ _ headsCheck (of_moves (s := v.setDue []) hothers htripped ?_))
      exact .of_rest rfl (by rw [← hv]; exact hjob) (by rw [← hv]; exact henabled)
    · next hrest =>
      rw [State.headsAgree_iff]
      intro g
      by_cases hg : g = h
      · subst hg
        obtain ⟨hidle, hmotion, hhalting, hdisabled, -⟩ := hall g
        refine ⟨hidle, hmotion, hhalting, hdisabled, fun hp ht => absurd ?_ hrest⟩
        exact Bool.and_eq_true_iff.2 ⟨congrArg (!·) hp, ht⟩
      · exact hothers g hg
  · exact hpin

/-- Every kind of event keeps the agreement. -/
theorem closed : State.Closed State.headsAgree where
  queue _ _ h := h
  tick _ _ h := h
  powerOn _ _ _ _ := of_reset rfl
  offer := offer
  pop _ h := h.frame (by simp) (by simp) (by simp) (by simp)
  inbound := takeInbound
  crc := crcError
  reception _ _ h := h
  symbol _ _ h := h
  linkState _ _ h := h
  enterUp := enterUp
  loseLink s h := within_same { s with lnk := _ } _ (by simp) h
  endSending _ h := h.frame (by simp) (by simp) (by simp) (by simp)
  read _ _ _ h := h.frame (by simp) (by simp) (by simp) (by simp)
  expiry := fillExpiry
  levels _ _ _ h := h
  index := indexArrival
  timeout := indexTimeout
  strobe := cellStrobe
  stepDone := stepDoneActive
  stepDoneRelease s g _ h := modPort s g _ id h
  fault := faultActive
  faultRelease s g _ h := modPort s g _ (fun hf => (Bool.and_eq_true_iff.1 hf).1) h

end State.headsAgree

/-- Settles O57: every kind of event keeps the invariant. -/
theorem stepKeepsHeadsInAgreement : Obligations.StepKeepsHeadsInAgreement := by
  unfold Obligations.StepKeepsHeadsInAgreement
  exact State.headsAgree.closed.step

end Sys2Proof.Machine

/-! Commands that the job state, the spindle, the head number, the head's state or the FAULT level rules out: each is
answered and changes nothing else (R121 to R124, R138, R143 to R152). -/

namespace Sys2Proof.Machine

/-! ## The number of a head -/

theorem headOfByte_of_toNat {head : Byte} {h : Head} (hh : head.toNat = h.val) : headOfByte head = some h := by
  have hlt := h.isLt
  unfold headOfByte
  rw [dif_pos (by omega)]
  exact congrArg some (Fin.ext hh)

theorem headOfByte_of_gt {head : Byte} (hh : 7 < head.toNat) : headOfByte head = none := dif_neg (by omega)

/-- A head command that names a head goes to that head. -/
theorem State.forHead_of_toNat (s : State) (tag code : Byte) {head : Byte} {h : Head} (hh : head.toNat = h.val)
    (f : Head → State) : s.forHead tag code head f = f h := by
  unfold State.forHead
  rw [headOfByte_of_toNat hh]

/-- One that names no head is answered RANGE (R121, R138). -/
theorem State.forHead_of_gt (s : State) (tag code : Byte) {head : Byte} (hh : 7 < head.toNat) (f : Head → State) :
    s.forHead tag code head f = s.answer tag code .range := by
  unfold State.forHead
  rw [headOfByte_of_gt hh]

/-! ## Commands taken at once -/

section
variable {s : State} {tag : Byte} (tick : Nat)

theorem exec_jobArm_of_takes (h : s.takes (commandFrame tag 0x01 0 0 0)) :
    exec (.jobArm tag tick) s = .next ((s.taken tick).takeJobArm tag) :=
  congrArg Host.Outcome.next (State.present_of_takes s tick _ _ h)

theorem exec_jobStart_of_takes (h : s.takes (commandFrame tag 0x02 0 0 0)) :
    exec (.jobStart tag tick) s = .next ((s.taken tick).takeJobStart tag) :=
  congrArg Host.Outcome.next (State.present_of_takes s tick _ _ h)

theorem exec_jobHalt_of_takes (h : s.takes (commandFrame tag 0x03 0 0 0)) :
    exec (.jobHalt tag tick) s = .next ((s.taken tick).takeJobHalt tag) :=
  congrArg Host.Outcome.next (State.present_of_takes s tick _ _ h)

theorem exec_jobAbort_of_takes (h : s.takes (commandFrame tag 0x04 0 0 0)) :
    exec (.jobAbort tag tick) s = .next ((s.taken tick).takeJobAbort tag) :=
  congrArg Host.Outcome.next (State.present_of_takes s tick _ _ h)

theorem exec_jobClear_of_takes (h : s.takes (commandFrame tag 0x05 0 0 0)) :
    exec (.jobClear tag tick) s = .next ((s.taken tick).takeJobClear tag) :=
  congrArg Host.Outcome.next (State.present_of_takes s tick _ _ h)

theorem exec_softReset_of_takes (h : s.takes (commandFrame tag 0x06 0 0 0)) :
    exec (.softReset tag tick) s = .next ((s.taken tick).softReset tag) :=
  congrArg Host.Outcome.next (State.present_of_takes s tick _ _ h)

variable {head : Byte}

theorem exec_headStop_of_takes (h : s.takes (commandFrame tag 0x10 head 0 0)) :
    exec (.headStop tag head tick) s = .next ((s.taken tick).takeHeadStop tag head) :=
  congrArg Host.Outcome.next (State.present_of_takes s tick _ _ h)

theorem exec_headAbort_of_takes (h : s.takes (commandFrame tag 0x11 head 0 0)) :
    exec (.headAbort tag head tick) s = .next ((s.taken tick).takeHeadAbort tag head) :=
  congrArg Host.Outcome.next (State.present_of_takes s tick _ _ h)

theorem exec_headResume_of_takes (h : s.takes (commandFrame tag 0x12 head 0 0)) :
    exec (.headResume tag head tick) s = .next ((s.taken tick).takeHeadResume tag head) :=
  congrArg Host.Outcome.next (State.present_of_takes s tick _ _ h)

theorem exec_tripClear_of_takes (h : s.takes (commandFrame tag 0x13 head 0 0)) :
    exec (.tripClear tag head tick) s = .next ((s.taken tick).takeTripClear tag head) :=
  congrArg Host.Outcome.next (State.present_of_takes s tick _ _ h)

end

/-! ## SOFT_RESET in a job in motion -/

/-- A COMMAND_REPLY goes before the TABLE_DATA that waits (R174). -/
theorem State.queueReply_dataQueue (s : State) (r : CommandReply) :
    (s.queueReply r).lnk.dataQueue = s.lnk.dataQueue := by
  unfold State.queueReply State.arbitrate
  dsimp only
  split
  · cases s.lnk.flowQueue with
    | some f => rfl
    | none =>
      cases s.lnk.requestQueue with
      | cons q qs => rfl
      | nil => cases s.lnk.replyQueue <;> rfl
  · rfl

/-- A SOFT_RESET that is refused leaves the TABLE_DATA queue, so a TABLE_READ that waits for it still does (R152, R170). -/
theorem State.softReset_of_inMotion {s : State} (tag : Byte) (h : s.jcu.state.inMotion = true) :
    s.softReset tag = s.answer tag 0x06 .state := by
  have hrefused : s.takeSoftReset tag = s.answer tag 0x06 .state := if_pos h
  have hinbound : (s.answer tag 0x06 .state).lnk.inbound = s.lnk.inbound := by simp
  have hdata : (s.answer tag 0x06 .state).lnk.dataQueue = s.lnk.dataQueue := s.queueReply_dataQueue _
  unfold State.softReset
  rw [hrefused]
  split
  · next hwaits =>
    unfold State.readWaits at hwaits
    unfold State.dispatchRead
    rw [hinbound]
    split
    · next tag' kind copy start count hhead =>
      simp only [hhead, State.answerFull] at hwaits
      have hblocked : (s.answer tag 0x06 .state).blocked (.tableRead tag' kind copy start count) = true := by
        rw [State.blocked, State.answerFull, hdata, hwaits, Bool.or_true]
      exact if_pos hblocked
    · rfl
  · rfl

theorem State.resumable_iff (s : State) (h : Head) :
    s.resumable h = true ↔
      s.jcu.state = .running ∧ (s.heads[h].state = .stopped ∨ s.heads[h].state = .stalled) := by
  simp [State.resumable]

/-- Settles O6: each row goes to its owner in the state `State.taken`, and its owner's first test fails. -/
theorem commandsRefusedInWrongState : Obligations.CommandsRefusedInWrongState := by
  unfold Obligations.CommandsRefusedInWrongState
  refine ⟨fun s tag tick => ⟨fun ht hj => ?_, fun ht hj => ?_, fun ht hj hl => ?_, fun ht hj => ?_, fun ht hr hh => ?_,
    fun ht hj => ?_, fun ht hj => ?_⟩, fun s tag head tick hgt => ⟨fun ht => ?_, fun ht => ?_, fun ht => ?_, fun ht => ?_⟩,
    fun s tag head h tick hh => ⟨fun ht he hw hs => ?_, fun ht he hs hw hst => ?_, fun ht hr => ?_, fun ht hr => ?_⟩⟩
  · rw [exec_jobArm_of_takes tick ht, State.takeJobArm, if_neg (by simpa using hj)]
  · rw [exec_jobStart_of_takes tick ht, State.takeJobStart, if_neg]
    rcases hj with hj | hj | hj | hj <;> simp [hj, JobState.startable]
  · rw [exec_jobStart_of_takes tick ht, State.takeJobStart, if_pos, if_neg (by simpa using hl)]
    rcases hj with hj | hj | hj <;> simp [hj, JobState.startable]
  · rw [exec_jobHalt_of_takes tick ht, State.takeJobHalt, if_neg (by simpa using hj)]
  · rw [exec_jobAbort_of_takes tick ht, State.takeJobAbort, if_neg (by simp [JobState.inMotion, hr, hh])]
  · rw [exec_jobClear_of_takes tick ht, State.takeJobClear, if_neg]
    rcases hj with hj | hj | hj <;> simp [hj, JobState.clearable]
  · rw [exec_softReset_of_takes tick ht, State.softReset_of_inMotion]
    rcases hj with hj | hj <;> simp [hj, JobState.inMotion]
  · rw [exec_headStop_of_takes tick ht, State.takeHeadStop, State.forHead_of_gt _ _ _ hgt]
  · rw [exec_headAbort_of_takes tick ht, State.takeHeadAbort, State.forHead_of_gt _ _ _ hgt]
  · rw [exec_headResume_of_takes tick ht, State.takeHeadResume, State.forHead_of_gt _ _ _ hgt]
  · rw [exec_tripClear_of_takes tick ht, State.takeTripClear, State.forHead_of_gt _ _ _ hgt]
  · rw [exec_headStop_of_takes tick ht, State.takeHeadStop, State.forHead_of_toNat _ _ _ hh, if_neg]
    simpa [HeadState.stoppable] using ⟨⟨he, hw⟩, hs⟩
  · rw [exec_headAbort_of_takes tick ht, State.takeHeadAbort, State.forHead_of_toNat _ _ _ hh, if_neg]
    simpa [HeadState.abortable] using ⟨⟨⟨he, hs⟩, hw⟩, hst⟩
  · rw [exec_headResume_of_takes tick ht, State.takeHeadResume, State.forHead_of_toNat _ _ _ hh, if_neg]
    rw [State.resumable_iff]
    simp only [State.taken_keeps]
    tauto
  · rw [exec_tripClear_of_takes tick ht, State.takeTripClear, State.forHead_of_toNat _ _ _ hh, if_neg]
    simp only [State.taken_keeps, ← Bool.not_eq_true]
    tauto

end Sys2Proof.Machine

/-! The inputs of a head port: a level that is not taken moves the pin alone, and a taken one moves the filtered level and
what follows from it (R116, R133 to R135). -/

namespace Sys2Proof.Machine

/-- Two changes of one port are one. -/
theorem State.modPort_modPort (s : State) (h : Head) (f g : Port → Port) :
    (s.modPort h f).modPort h g = s.modPort h fun p => g (f p) := by
  simp [State.modPort]

/-- A fault edge in PER_CELL mode, or at a head that it does not trip, sets the FAULT level alone (R135). -/
theorem State.faultTaken_of_not_trips {s : State} {h : Head}
    (hrest : s.perCell h = true ∨ s.heads[h].state.trips = false) :
    s.faultTaken h = s.modPort h fun p => { p with fault := true } := by
  unfold State.faultTaken
  dsimp only
  refine if_neg fun htrips => ?_
  obtain ⟨hlatched, hstate⟩ := Bool.and_eq_true_iff.1 htrips
  rcases hrest with hp | hs
  · rw [hp] at hlatched
    cases hlatched
  · rw [hs] at hstate
    cases hstate

/-- A level is taken where it has held for 4 ticks and the filter has the other. -/
theorem levelTaken_and_not (held : Nat) (level : Bool) :
    (levelTaken held && !level) = true ↔ 4 ≤ held ∧ level = false := by
  simp [levelTaken_eq]

theorem not_levelTaken (held : Nat) : (!levelTaken held) = decide (held < 4) := by
  rw [levelTaken_eq, Bool.eq_iff_iff]
  simp

/-- Settles O49: the filter takes a level from its fourth tick on, and only where it differs from the level it has. -/
theorem portInputsSetTheirLevels : Obligations.PortInputsSetTheirLevels := by
  unfold Obligations.PortInputsSetTheirLevels
  have hnot {held : Nat} {level : Bool} (hkept : held < 4 ∨ level = true) : ¬(levelTaken held && !level) = true := by
    rw [levelTaken_and_not]
    rintro ⟨hheld, hlow⟩
    rcases hkept with hshort | hlevel
    · omega
    · rw [hlow] at hlevel
      cases hlevel
  refine ⟨fun s h held tick => ?_, fun s h held tick => ?_⟩
  · intro u
    have hstep : exec (.stepDone h held tick) s = .next (u.stepDoneActive h held) := rfl
    have hrelease : exec (.stepDoneRelease h held tick) s = .next (u.stepDoneInactive h held) := rfl
    rw [hstep, hrelease, State.stepDoneActive]
    dsimp only
    rw [show u.ports = s.ports from rfl]
    refine ⟨fun hkept => ?_, fun hheld hlow hraised => ?_, fun hheld hlow hidle => ?_, ?_⟩
    · rw [if_neg (hnot hkept)]
      rfl
    · rw [if_pos ((levelTaken_and_not _ _).2 ⟨hheld, hlow⟩), if_pos hraised, State.modPort_modPort,
        State.modPort_modPort]
      rfl
    · rw [if_pos ((levelTaken_and_not _ _).2 ⟨hheld, hlow⟩), if_neg (Bool.eq_false_iff.1 hidle), State.modPort_modPort]
      rfl
    · rw [State.stepDoneInactive, not_levelTaken]
      rfl
  · have hedge : exec (.faultEdge h held tick) s = .next ((s.at tick).faultActive h held) := rfl
    have hrelease : exec (.faultRelease h held tick) s = .next ((s.at tick).faultInactive h held) := rfl
    rw [hedge, hrelease, State.faultActive]
    dsimp only
    rw [show (s.at tick).ports = s.ports from rfl]
    refine ⟨fun hkept => ?_, fun hheld hlow hrest => ?_, ?_⟩
    · rw [if_neg (hnot hkept)]
      rfl
    · rw [if_pos ((levelTaken_and_not _ _).2 ⟨hheld, hlow⟩), State.faultTaken_of_not_trips (by exact hrest),
        State.modPort_modPort]
      rfl
    · rw [State.faultInactive, not_levelTaken]
      rfl

end Sys2Proof.Machine

/-! Events that call for no action: where no kind but HEAD_TRIP has a routing action, the heads, the planning pass and the
changes of the job leave no action due that was not due before, so a part of an event made of them is that part alone
(R150, R176). -/

namespace Sys2Proof.Machine

/-- No kind but HEAD_TRIP has a routing action, and the actions due are those of a list. -/
structure State.Silent (d : List DueAction) (s : State) : Prop where
  kinds : ∀ k ≠ EventKind.headTrip, s.routeAction k = .none
  due : s.evr.due = d

/-- With no routing action at all. -/
theorem State.noActions.silent {s : State} (h : s.noActions) : State.Silent s.evr.due s := ⟨fun k _ => h k, rfl⟩

namespace State.Silent

variable {d : List DueAction} {s t : State}

theorem of_same (h : Silent d s) (hroute : t.tlm.route = s.tlm.route) (hdue : t.evr.due = s.evr.due) : Silent d t := by
  refine ⟨fun k hk => ?_, hdue.trans h.due⟩
  have := h.kinds k hk
  unfold State.routeAction at this ⊢
  rwa [hroute]

/-- The actions of an earlier part of the event are put aside. -/
theorem setDue (h : Silent d s) (e : List DueAction) : Silent e (s.setDue e) := ⟨h.kinds, rfl⟩

theorem raise (h : Silent d s) {k : EventKind} (hk : k ≠ .headTrip) (w : Word32) (m : BitVec 8) :
    Silent d (s.raise k w m) := by
  have hdue : (s.raise k w m).evr.due = s.evr.due := by
    unfold State.raise
    rw [if_pos (h.kinds k hk)]
    simp
  exact h.of_same (by simp) hdue

theorem raiseHead (h : Silent d s) (g : Head) {k : EventKind} (hk : k ≠ .headTrip) (w : Word32) :
    Silent d (s.raiseHead g k w) := h.raise hk w _

theorem modHead (h : Silent d s) (g : Head) (f : Channel → Channel) : Silent d (s.modHead g f) := h.of_same rfl rfl

theorem dropPlanned (h : Silent d s) (g : Head) : Silent d (s.dropPlanned g) := h.of_same (by simp) (by simp)

/-! ### Track ends -/

theorem countEnd (h : Silent d s) (g : Head) (track : Nat) (o : Option DefectCause) : Silent d (s.countEnd g track o) := by
  have hdefect {t : State} (ht : Silent d t) (c : DefectCause) : Silent d (t.addDefect g track c) := by
    unfold State.addDefect
    split
    · exact ht.modHead g _
    · exact (ht.modHead g _).raiseHead g (k := .defectListFull) nofun _
  cases o with
  | none =>
    unfold State.countEnd State.countDone
    dsimp only
    split
    · exact (h.modHead g _).raiseHead g (k := .trackDone) nofun _
    · exact h.modHead g _
  | some c => exact (hdefect (h.modHead g _) c).raiseHead g (k := .trackDefect) nofun _

theorem endTrack (h : Silent d s) (g : Head) (o : Option DefectCause) : Silent d (s.endTrack g o) := by
  unfold State.endTrack
  split
  · exact h
  · next r _ =>
    have hremoved : Silent d (s.removeActive g r) := h.of_same (by simp) (by simp)
    exact (hremoved.countEnd g r.track o).of_same (by simp) (by simp)

theorem park (h : Silent d s) (g : Head) (track : Nat) : Silent d (s.park g track) :=
  ((h.modHead g _).dropPlanned g).raiseHead g (k := .headParked) nofun _

theorem stopNow (h : Silent d s) (g : Head) : Silent d (s.stopNow g) := (h.modHead g _).dropPlanned g

theorem waitAgain (h : Silent d s) (g : Head) : Silent d (s.waitAgain g) := by
  unfold State.waitAgain
  dsimp only
  split <;> exact h.of_same rfl rfl

theorem afterEnd (h : Silent d s) (g : Head) (track : Nat) (stopping owed : Bool) :
    Silent d (s.afterEnd g track stopping owed) := by
  unfold State.afterEnd
  split
  · exact h.park g track
  · split
    · exact h.stopNow g
    · exact h.of_same (by simp) (by simp)

theorem tripHead (h : Silent d s) (g : Head) : Silent d (s.tripHead g) := ((h.endTrack g _).modHead g _).dropPlanned g

/-! ### What each event makes of a head -/

theorem testStart (h : Silent d s) (g : Head) : Silent d (s.testStart g) := by
  unfold State.testStart
  split
  · exact h.of_same (by simp) (by simp)
  · next r _ =>
    have hidle := (h.modHead g fun c => { c with wait := c.wait + 1, idleRevs := satInc c.idleRevs }).raiseHead g
      (k := .idleRev) nofun (idleDetail s.heads[g].nextTrack r)
    unfold State.idleRevolution
    dsimp only
    split
    · exact ((hidle.modHead g _).dropPlanned g).raiseHead g (k := .headStalled) nofun _
    · exact hidle

theorem indexHead (h : Silent d s) (g : Head) : Silent d (State.indexHead g s) := by
  unfold State.indexHead
  split
  · split
    · exact h
    · next r _ =>
      have hended := (h.endTrack g r.indexOutcome).afterEnd g r.track (s.heads[g].state == .stopping) (s.owesStep g)
      dsimp only
      split
      · exact hended.testStart g
      · exact hended
  · split
    · exact h.testStart g
    · exact h

theorem shortRevHead (h : Silent d s) (a b : Bool) (g : Head) : Silent d (State.shortRevHead a b g s) := by
  unfold State.shortRevHead
  dsimp only
  split
  all_goals
    split
    · split
      · exact h
      · exact (h.endTrack g _).afterEnd g _ _ _
    · exact h

theorem stopHead (h : Silent d s) (g : Head) : Silent d (State.stopHead g s) := by
  unfold State.stopHead
  cases s.heads[g].state
  case engraving => exact h.modHead g _
  case waiting | stalled => exact h.stopNow g
  all_goals exact h

theorem haltHead (h : Silent d s) (c : DefectCause) (g : Head) : Silent d (State.haltHead c g s) := by
  unfold State.haltHead
  cases s.heads[g].state
  case engraving | stopping => exact (h.endTrack g _).stopNow g
  case waiting | stalled => exact h.stopNow g
  all_goals exact h

/-- A head that is started may trip, so that HEAD_TRIP too has no action (R136). -/
theorem resumeHead (h : Silent d s) (hno : s.noActions) (g : Head) : Silent d (State.resumeHead g s) := by
  have hwait := h.waitAgain g
  have htrip := hwait.tripHead g
  have hroute : ((s.waitAgain g).tripHead g).tlm.route = s.tlm.route := by
    unfold State.waitAgain
    dsimp only
    split <;> simp
  unfold State.resumeHead
  split
  · exact h.park g _
  · rw [State.setWaiting_eq]
    split
    · exact htrip.of_same (by simp) (State.raise_due (State.noActions_of_route hroute hno) _ _ _)
    · exact hwait

theorem startHead (h : Silent d s) (hno : s.noActions) (g : Head) : Silent d (State.startHead g s) := by
  unfold State.startHead
  cases s.heads[g].state
  case ready | stopped => exact h.resumeHead hno g
  all_goals exact h

/-! ### The planning pass -/

theorem resolveRecord (h : Silent d s) (g : Head) (j : Nat) : Silent d (State.resolveRecord g s j) := by
  unfold State.resolveRecord
  split
  · split
    · exact h.of_same (by simp) (by simp)
    · split
      · split
        · exact h.of_same (by simp) (by simp)
        · exact h.raiseHead g (k := .cacheConflict) nofun _
      · exact h
  all_goals exact h

theorem planningPass (h : Silent d s) : Silent d s.planningPass := by
  have hrecords (g : Head) (js : List Nat) : ∀ t, Silent d t → Silent d (js.foldl (State.resolveRecord g) t) := by
    induction js with
    | nil => exact fun _ ht => ht
    | cons j js ih => exact fun t ht => ih _ (ht.resolveRecord g j)
  refine State.eachHead_inv _ _ (fun g t ht => ?_)
    (State.eachHead_inv _ _ (fun g t ht => ht.of_same (by simp) (by simp)) h)
  unfold State.resolveHead
  split
  · exact hrecords g _ t ht
  · exact ht

/-! ### Job changes -/

theorem applyPending (h : Silent d s) (o : Occasion) : Silent d (s.applyPending o) := by
  have hcopied : Silent d { s with tlm := s.tlm.copyShadows s.tlm.gradPending s.tlm.calPending } := h.of_same rfl rfl
  unfold State.applyPending State.applyCommit
  split
  · exact h
  · exact hcopied.raise (k := .commitApplied) nofun _ _

theorem setJob (h : Silent d s) (new : JobState) (c : JobCause) : Silent d (s.setJob new c) := by
  have hraised := (h.of_same (t := { s with jcu := { s.jcu with state := new } }) rfl rfl).raise
    (k := .jobState) nofun (jobStateDetail s.jcu.state new c) 0
  unfold State.setJob
  dsimp only
  split
  · exact hraised.applyPending _
  · exact hraised

theorem headsCheck (h : Silent d s) : Silent d s.headsCheck := by
  unfold State.headsCheck
  split
  · split
    · exact h.setJob _ _
    · exact h
  · split
    · split
      · exact h.setJob _ _
      · exact h
    · exact h

theorem withCheck (g : Head) (f : State → State) (h : Silent d (f s)) : Silent d (s.withCheck g f) :=
  State.withCheck_inv s g f (fun _ ht => ht.headsCheck) h

theorem haltJob (h : Silent d s) (c : JobCause) : Silent d (s.haltJob c) :=
  (State.eachHead_inv _ _ (fun g _ ht => ht.stopHead g) (h.setJob _ _)).headsCheck

theorem abortJob (h : Silent d s) (c : JobCause) : Silent d (s.abortJob c) :=
  (State.eachHead_inv _ _ (fun g _ ht => ht.haltHead _ g) (h.setJob _ _)).headsCheck

theorem startJob (h : Silent d s) (hno : s.noActions) : Silent d s.startJob := by
  have hheads := State.eachHead_inv (P := fun t => Silent d t ∧ t.noActions) (s.setJob .running .start) State.startHead
    (fun g t ht => ⟨ht.1.startHead ht.2 g, State.noActions_of_route (by simp) ht.2⟩)
    ⟨h.setJob _ _, State.noActions_of_route (by simp) hno⟩
  exact hheads.1.planningPass.headsCheck

/-- A part of an event that leaves no action due is that part alone. -/
theorem within (f : State → State) (h : Silent [] (f (s.setDue []))) :
    s.within f = (f (s.setDue [])).setDue s.evr.due := s.within_of_no_due f h.due

end State.Silent

end Sys2Proof.Machine

/-! One head among the eight: which channel, port and pipeline an operation of a head changes, what it makes of that
channel, and how often it unpins each slot (R52, R103, R117, R122, R125). -/

namespace Sys2Proof.Machine

/-! ## The other heads -/

/-- The channel, the port and the pipeline of a head are the same in two states. -/
def State.Beside (h : Head) (s t : State) : Prop :=
  t.heads[h] = s.heads[h] ∧ t.ports[h] = s.ports[h] ∧ t.pipes[h] = s.pipes[h]

theorem State.Beside.of_same {h : Head} {s t : State} (hheads : t.heads = s.heads) (hports : t.ports = s.ports)
    (hpipes : t.pipes = s.pipes) : State.Beside h s t := by
  rw [State.Beside, hheads, hports, hpipes]
  exact ⟨rfl, rfl, rfl⟩

theorem State.Beside.trans {h : Head} {s t u : State} (hst : State.Beside h s t) (htu : State.Beside h t u) :
    State.Beside h s u :=
  ⟨htu.1.trans hst.1, htu.2.1.trans hst.2.1, htu.2.2.trans hst.2.2⟩

/-- The channels, ports and pipelines of two states differ at one head alone. -/
def State.Only (g : Head) (s t : State) : Prop := ∀ h ≠ g, State.Beside h s t

namespace State.Only

variable {g : Head} {s t u : State}

theorem of_same (hheads : t.heads = s.heads) (hports : t.ports = s.ports) (hpipes : t.pipes = s.pipes) : Only g s t :=
  fun _ _ => .of_same hheads hports hpipes

theorem refl (s : State) : Only g s s := of_same rfl rfl rfl

theorem trans (hst : Only g s t) (htu : Only g t u) : Only g s u := fun h hh => (hst h hh).trans (htu h hh)

theorem modHead (s : State) (g : Head) (f : Channel → Channel) : Only g s (s.modHead g f) := fun h hh => by
  have hval : g.val ≠ h.val := fun he => hh (Fin.ext he.symm)
  simp [State.Beside, hval]

theorem modPort (s : State) (g : Head) (f : Port → Port) : Only g s (s.modPort g f) := fun h hh => by
  have hval : g.val ≠ h.val := fun he => hh (Fin.ext he.symm)
  simp [State.Beside, hval]

theorem modPipe (s : State) (g : Head) (f : Pipe → Pipe) : Only g s (s.modPipe g f) := fun h hh => by
  have hval : g.val ≠ h.val := fun he => hh (Fin.ext he.symm)
  simp [State.Beside, hval]

theorem raiseHead (s : State) (g h : Head) (k : EventKind) (d : Word32) : Only g s (s.raiseHead h k d) :=
  of_same (by simp) (by simp) (by simp)

theorem dropPlanned (s : State) (g : Head) : Only g s (s.dropPlanned g) :=
  trans (t := (s.heads[g].queue.filter fun r => !r.active).foldl State.unpinRecord s)
    (of_same (by simp) (by simp) (by simp)) (modHead _ g _)

theorem stopNow (s : State) (g : Head) : Only g s (s.stopNow g) := (modHead s g _).trans (dropPlanned _ g)

theorem park (s : State) (g : Head) (track : Nat) : Only g s (s.park g track) :=
  ((modHead s g _).trans (dropPlanned _ g)).trans (raiseHead _ g g _ _)

theorem countEnd (s : State) (g : Head) (track : Nat) (o : Option DefectCause) : Only g s (s.countEnd g track o) := by
  have hdefect (t : State) (c : DefectCause) : Only g t (t.addDefect g track c) := by
    unfold State.addDefect
    split
    · exact modHead t g _
    · exact (modHead t g _).trans (raiseHead _ g g _ _)
  cases o with
  | none =>
    unfold State.countEnd State.countDone
    dsimp only
    split
    · exact (modHead s g _).trans (raiseHead _ g g _ _)
    · exact modHead s g _
  | some c => exact ((modHead s g _).trans (hdefect _ c)).trans (raiseHead _ g g _ _)

theorem closeTrack (s : State) (g : Head) (track : Nat) (owed : Bool) : Only g s (s.closeTrack g track owed) := by
  have hlast : Only g s (if track = s.lastTrack g then s.modHead g fun c => { c with complete := true } else s) := by
    split
    · exact modHead s g _
    · exact refl s
  unfold State.closeTrack
  dsimp only
  split
  · exact hlast.trans (modHead _ g _)
  · exact hlast

theorem removeActive (s : State) (g : Head) (r : TrackRecord) : Only g s (s.removeActive g r) :=
  (trans (t := s.unpinRecord r) (of_same (by simp) (by simp) (by simp)) (modHead _ g _)).trans (modPipe _ g _)

theorem endTrack (s : State) (g : Head) (o : Option DefectCause) : Only g s (s.endTrack g o) := by
  unfold State.endTrack
  split
  · exact refl s
  · exact ((removeActive s g _).trans (countEnd _ g _ _)).trans (closeTrack _ g _ _)

theorem waitAfterEnd (s : State) (g : Head) (owed : Bool) : Only g s (s.waitAfterEnd g owed) := by
  unfold State.waitAfterEnd
  dsimp only
  split
  · exact (modHead s g _).trans (modPort _ g _)
  · exact modHead s g _

theorem afterEnd (s : State) (g : Head) (track : Nat) (stopping owed : Bool) :
    Only g s (s.afterEnd g track stopping owed) := by
  unfold State.afterEnd
  split
  · exact park s g track
  · split
    · exact stopNow s g
    · exact waitAfterEnd s g owed

theorem tripHead (s : State) (g : Head) : Only g s (s.tripHead g) :=
  ((endTrack s g _).trans (modHead _ g _)).trans (dropPlanned _ g)

theorem testStart (s : State) (g : Head) : Only g s (s.testStart g) := by
  unfold State.testStart
  split
  · exact (modHead s g _).trans (modPipe _ g _)
  · have hidle (d : Word32) := (modHead s g fun c => { c with wait := c.wait + 1, idleRevs := satInc c.idleRevs }).trans
      (raiseHead _ g g .idleRev d)
    unfold State.idleRevolution
    dsimp only
    split
    · exact ((hidle _).trans ((modHead _ g _).trans (dropPlanned _ g))).trans (raiseHead _ g g _ _)
    · exact hidle _

theorem indexHead (g : Head) (s : State) : Only g s (State.indexHead g s) := by
  unfold State.indexHead
  split
  · split
    · exact refl s
    · have hended (r : TrackRecord) (stopping owed : Bool) :=
        (endTrack s g r.indexOutcome).trans (afterEnd _ g r.track stopping owed)
      dsimp only
      split
      · exact (hended _ _ _).trans (testStart _ g)
      · exact hended _ _ _
  · split
    · exact testStart s g
    · exact refl s

theorem shortRevHead (a b : Bool) (g : Head) (s : State) : Only g s (State.shortRevHead a b g s) := by
  unfold State.shortRevHead
  dsimp only
  split
  all_goals
    split
    · split
      · exact refl s
      · exact (endTrack s g _).trans (afterEnd _ g _ _ _)
    · exact refl s

theorem stopHead (g : Head) (s : State) : Only g s (State.stopHead g s) := by
  unfold State.stopHead
  cases s.heads[g].state
  case engraving => exact modHead s g _
  case waiting | stalled => exact stopNow s g
  all_goals exact refl s

theorem haltHead (c : DefectCause) (g : Head) (s : State) : Only g s (State.haltHead c g s) := by
  unfold State.haltHead
  cases s.heads[g].state
  case engraving | stopping => exact (endTrack s g _).trans (stopNow _ g)
  case waiting | stalled => exact stopNow s g
  all_goals exact refl s

theorem waitAgain (s : State) (g : Head) : Only g s (s.waitAgain g) := by
  unfold State.waitAgain
  dsimp only
  split
  · exact (modHead s g _).trans (modPort _ g _)
  · exact modHead s g _

theorem resumeHead (g : Head) (s : State) : Only g s (State.resumeHead g s) := by
  unfold State.resumeHead
  split
  · exact park s g _
  · rw [State.setWaiting_eq]
    split
    · exact ((waitAgain s g).trans (tripHead _ g)).trans (raiseHead _ g g _ _)
    · exact waitAgain s g

theorem startHead (g : Head) (s : State) : Only g s (State.startHead g s) := by
  unfold State.startHead
  cases s.heads[g].state
  case ready | stopped => exact resumeHead g s
  all_goals exact refl s

theorem setPhase (g : Head) (s : State) : Only g s (State.setPhase g s) := modPort s g _

end State.Only

/-- Each head in turn: head `h` takes its part in a state that has its own channel, port and pipeline and the same tables
as the first, and the later heads leave them. -/
theorem State.eachHead_only {f : Head → State → State} (hf : ∀ g t, State.Only g t (f g t))
    (htlm : ∀ g t, (f g t).tlm = t.tlm) (h : Head) (s : State) :
    ∃ u, State.Beside h s u ∧ u.tlm = s.tlm ∧ State.Beside h (f h u) (s.eachHead f) := by
  obtain ⟨u, ⟨hbefore, hsame⟩, hafter, -⟩ := State.eachHead_at
    (R := fun s t => State.Beside h s t ∧ t.tlm = s.tlm) (fun _ => ⟨.of_same rfl rfl rfl, rfl⟩)
    (fun _ _ _ hst htu => ⟨hst.1.trans htu.1, htu.2.trans hst.2⟩) f h
    (fun g hg t => ⟨hf g t h (Ne.symm hg), htlm g t⟩) s
  exact ⟨u, hbefore, hsame, hafter⟩

/-- The state in which the owner of a command that it answers at once begins, with no action due yet. -/
theorem State.answered_reads (s : State) (tick : Nat) (tag code : Byte) (r : Result) :
    ∃ u, ((s.taken tick).answer tag code r).setDue [] = u ∧ u.jcu = s.jcu ∧ u.tlm = s.tlm ∧ u.heads = s.heads ∧
      u.ports = s.ports ∧ u.pipes = s.pipes ∧ u.cca = s.cca ∧ u.cfu = s.cfu ∧ u.stu = s.stu ∧ u.evr.due = [] := by
  refine ⟨_, rfl, ?_⟩
  simp [State.taken_keeps]

/-- The state at the end of a part of an event, as the statements read it. -/
theorem State.setDue_reads (s : State) (d : List DueAction) :
    ∃ t, s.setDue d = t ∧ t.jcu = s.jcu ∧ t.tlm = s.tlm ∧ t.heads = s.heads ∧ t.ports = s.ports ∧ t.pipes = s.pipes ∧
      t.cca = s.cca ∧ t.cfu = s.cfu ∧ t.stu = s.stu ∧ t.lnk = s.lnk ∧ t.evr.records = s.evr.records :=
  ⟨_, rfl, rfl, rfl, rfl, rfl, rfl, rfl, rfl, rfl, rfl, rfl⟩

/-! ## The channel of the head -/

/-- A queue without its PLANNED records. -/
def Channel.onlyActive (c : Channel) : Channel := { c with queue := c.queue.filter fun r => r.active }

theorem State.dropPlanned_heads (s : State) (h : Head) :
    (s.dropPlanned h).heads = s.heads.set h s.heads[h].onlyActive := by
  simp [State.dropPlanned, Channel.onlyActive]

theorem State.stopNow_heads (s : State) (h : Head) :
    (s.stopNow h).heads = s.heads.set h { s.heads[h].onlyActive with state := .stopped } := by
  simp [State.stopNow, State.dropPlanned_heads, Channel.onlyActive]

theorem State.park_heads (s : State) (h : Head) (track : Nat) :
    (s.park h track).heads = s.heads.set h { s.heads[h].onlyActive with state := .finished } := by
  simp [State.park, State.dropPlanned_heads, Channel.onlyActive]

/-- What HEAD_STOP and a halt of the job make of a channel (R122, R146). -/
def Channel.stopped (c : Channel) : Channel :=
  match c.state with
  | .engraving => { c with state := .stopping }
  | .waiting => { c.onlyActive with state := .stopped }
  | .stalled => { c.onlyActive with state := .stopped }
  | .idle => c | .ready => c | .stopping => c | .stopped => c | .tripped => c | .finished => c

theorem State.stopHead_heads (h : Head) (s : State) :
    (State.stopHead h s).heads = s.heads.set h s.heads[h].stopped := by
  unfold State.stopHead Channel.stopped
  cases s.heads[h].state
  case engraving => rfl
  case waiting | stalled => exact s.stopNow_heads h
  all_goals simp

/-- The count of a track end (R117, R125). -/
def Channel.counted (c : Channel) (track : Nat) : Option DefectCause → Channel
  | none => { c with tracksDone := satInc c.tracksDone }
  | some x =>
    { c with
      tracksDefective := satInc c.tracksDefective
      defects := if c.defects.length < 16 then c.defects ++ [⟨track, x⟩] else c.defects
      overflow := if c.defects.length < 16 then c.overflow else satInc c.overflow }

theorem State.countEnd_heads (s : State) (h : Head) (track : Nat) (o : Option DefectCause) :
    (s.countEnd h track o).heads = s.heads.set h (s.heads[h].counted track o) := by
  cases o with
  | none =>
    unfold State.countEnd State.countDone
    dsimp only
    split <;> simp [Channel.counted]
  | some x =>
    by_cases hroom : s.heads[h].defects.length < 16
    all_goals simp only [Fin.getElem_fin] at hroom
    all_goals simp [State.countEnd, State.countDefect, State.addDefect, Channel.counted, Config.defectEntries, hroom]

/-- The range complete flag and the step owed (R117). -/
def Channel.closed (c : Channel) (track : Nat) (last owed : Bool) : Channel :=
  { c with
    complete := c.complete || last
    nextTrack := if owed then track + 1 else c.nextTrack
    positioned := if owed then false else c.positioned }

theorem Channel.closed_neither (c : Channel) (track : Nat) : c.closed track false false = c := by
  unfold Channel.closed
  rw [Bool.or_false]
  rfl

theorem State.closeTrack_heads (s : State) (h : Head) (track : Nat) (owed : Bool) :
    (s.closeTrack h track owed).heads = s.heads.set h (s.heads[h].closed track (decide (track = s.lastTrack h)) owed) := by
  by_cases hlast : track = s.lastTrack h
  · cases owed <;> simp [State.closeTrack, Channel.closed, hlast]
  · cases owed
    · rw [decide_eq_false hlast, Channel.closed_neither]
      simp [State.closeTrack, hlast]
    · simp [State.closeTrack, Channel.closed, hlast]

/-- A channel after the end of the track of its first record (R117). -/
def Channel.ended (c : Channel) (track : Nat) (o : Option DefectCause) (last owed : Bool) : Channel :=
  (({ c with queue := c.queue.tail } : Channel).counted track o).closed track last owed

section
variable {s : State} {h : Head} {r : TrackRecord} (hr : s.heads[h].activeRecord = some r)
include hr

theorem State.endTrack_of_active (o : Option DefectCause) :
    s.endTrack h o = ((s.removeActive h r).countEnd h r.track o).closeTrack h r.track (s.owesStep h) := by
  unfold State.endTrack
  rw [hr]

theorem State.endTrack_heads (o : Option DefectCause) :
    (s.endTrack h o).heads =
      s.heads.set h (s.heads[h].ended r.track o (decide (r.track = s.lastTrack h)) (s.owesStep h)) := by
  have hlast : ((s.removeActive h r).countEnd h r.track o).lastTrack h = s.lastTrack h := by simp [State.lastTrack]
  rw [State.endTrack_of_active hr, State.closeTrack_heads, hlast, State.countEnd_heads]
  simp [State.removeActive, Channel.ended]

theorem State.endTrack_head (o : Option DefectCause) :
    (s.endTrack h o).heads[h] =
      s.heads[h].ended r.track o (decide (r.track = s.lastTrack h)) (s.owesStep h) := by
  rw [State.endTrack_heads hr]
  exact Vector.getElem_set_self h.isLt

theorem State.endTrack_pipes (o : Option DefectCause) :
    (s.endTrack h o).pipes = s.pipes.set h { s.pipes[h] with wearTerm := none } := by
  rw [State.endTrack_of_active hr]
  simp [State.removeActive]

end

/-- With no ACTIVE record there is no track to end. -/
theorem State.endTrack_of_none {s : State} {h : Head} (hr : s.heads[h].activeRecord = none) (o : Option DefectCause) :
    s.endTrack h o = s := by
  unfold State.endTrack
  rw [hr]

/-! ## Pins -/

/-- Each slot has lost one pin for every record of a list that names it, and is otherwise as it was (R52). -/
def State.Unpins (rs : List TrackRecord) (s t : State) : Prop :=
  ∀ n : Fin 64, t.cca.slots[n] =
    { s.cca.slots[n] with pins := s.cca.slots[n].pins - rs.countP (TrackRecord.names n) }

namespace State.Unpins

variable {rs qs : List TrackRecord} {s t u : State}

theorem of_same (h : t.cca = s.cca) : Unpins [] s t := fun n => by rw [h]; rfl

theorem trans (hst : Unpins rs s t) (htu : Unpins qs t u) : Unpins (rs ++ qs) s u := fun n => by
  rw [htu n, hst n, List.countP_append]
  simp [Nat.sub_sub]

/-- A further change that leaves the cache. -/
theorem keep (hst : Unpins rs s t) (h : u.cca = t.cca) : Unpins rs s u := by
  simpa using hst.trans (of_same h)

theorem unpinRecord (s : State) (r : TrackRecord) : Unpins [r] s (s.unpinRecord r) := by
  have hnone (hr : ∀ n, r.names n = false) : Unpins [r] s s := fun n => by
    simp [hr n]
  intro n
  unfold State.unpinRecord
  split
  · next m hbody =>
    have hnames : r.names n = (m == n) := by
      unfold TrackRecord.names
      rw [hbody]
    by_cases hn : m = n
    · subst hn
      simp [hnames, State.unpin]
    · have hval : m.val ≠ n.val := fun he => hn (Fin.ext he)
      simp [hnames, State.unpin, hn, hval]
  · next hbody => exact hnone (fun n => by unfold TrackRecord.names; rw [hbody]) n
  · next hbody => exact hnone (fun n => by unfold TrackRecord.names; rw [hbody]) n

theorem foldl_unpinRecord (rs : List TrackRecord) : ∀ s, Unpins rs s (rs.foldl State.unpinRecord s) := by
  induction rs with
  | nil => exact fun s => of_same rfl
  | cons r rs ih => exact fun s => (unpinRecord s r).trans (ih _)

theorem dropPlanned (s : State) (h : Head) :
    Unpins (s.heads[h].queue.filter fun r => !r.active) s (s.dropPlanned h) :=
  (foldl_unpinRecord _ s).keep rfl

theorem stopNow (s : State) (h : Head) : Unpins (s.heads[h].queue.filter fun r => !r.active) s (s.stopNow h) := by
  have hqueue : (s.setHeadState h .stopped).heads[h].queue = s.heads[h].queue := by simp
  exact hqueue ▸ dropPlanned (s.setHeadState h .stopped) h

/-- The records of a channel that a stop removes (R122, R146). -/
theorem stopHead (h : Head) (s : State) :
    Unpins (if s.heads[h].state = .waiting ∨ s.heads[h].state = .stalled
      then s.heads[h].queue.filter fun r => !r.active else []) s (State.stopHead h s) := by
  unfold State.stopHead
  cases s.heads[h].state
  case waiting | stalled => exact stopNow s h
  all_goals exact of_same rfl

/-- A track end unpins the slot of the ACTIVE record (R117). -/
theorem endTrack {h : Head} {r : TrackRecord} (hr : s.heads[h].activeRecord = some r) (o : Option DefectCause) :
    Unpins [r] s (s.endTrack h o) := by
  rw [State.endTrack_of_active hr]
  exact (unpinRecord s r).keep (by simp [State.removeActive])

/-- All heads, each of which loses records of its own channel. -/
theorem eachHead {f : Head → State → State} (p : Channel → List TrackRecord)
    (hf : ∀ g t, Unpins (p t.heads[g]) t (f g t)) (hleaves : ∀ g t, State.Only g t (f g t)) (s : State) :
    Unpins (headOrder.flatMap fun g => p s.heads[g]) s (s.eachHead f) := by
  have hlist (gs : List Head) (hgs : gs.Nodup) : ∀ t : State,
      Unpins (gs.flatMap fun g => p t.heads[g]) t (gs.foldl (fun t g => f g t) t) := by
    induction gs with
    | nil => exact fun t => of_same rfl
    | cons g gs ih =>
      intro t
      obtain ⟨hg, hgs⟩ := List.nodup_cons.1 hgs
      have hrest : (gs.flatMap fun x => p (f g t).heads[x]) = gs.flatMap fun x => p t.heads[x] := by
        refine List.flatMap_congr fun x hx => ?_
        rw [(hleaves g t x fun he => hg (he ▸ hx)).1]
      have hlater := ih hgs (f g t)
      rw [hrest] at hlater
      exact (hf g t).trans hlater
  exact hlist headOrder (by decide) s

end State.Unpins

end Sys2Proof.Machine

/-! JOB_ABORT and JOB_HALT: every head at once, and the pending commits with the end of the job (R111, R120, R122, R123,
R146 to R148, R162). -/

namespace Sys2Proof.Machine

/-! ## JOB_ABORT (R148) -/

/-- A head that is not in motion is left by a halt. -/
theorem State.haltHead_of_not_trips {h : Head} {s : State} (hstate : s.heads[h].state.trips = false) (c : DefectCause) :
    State.haltHead c h s = s := by
  unfold State.haltHead
  split
  case h_1 heq | h_2 heq | h_3 heq | h_4 heq =>
    rw [heq] at hstate
    cases hstate
  all_goals rfl

/-- A head in motion that is halted keeps no PLANNED record (R120). -/
theorem State.haltHead_queue {h : Head} {s : State} (hstate : s.heads[h].state.trips = true) (c : DefectCause) :
    ∀ r ∈ (State.haltHead c h s).heads[h].queue, r.active = true := by
  have hstopped (t : State) : ∀ r ∈ (t.stopNow h).heads[h].queue, r.active = true := by
    simp [State.stopNow_heads, Channel.onlyActive]
  unfold State.haltHead
  split
  case h_1 | h_2 | h_3 | h_4 => exact hstopped _
  all_goals
    next heq =>
      rw [heq] at hstate
      cases hstate

/-- One head through a halt of all of them. -/
theorem State.eachHead_haltHead_at (c : DefectCause) (s : State) (h : Head) :
    if s.heads[h].state.trips
    then ∀ r ∈ (s.eachHead (State.haltHead c)).heads[h].queue, r.active = true
    else State.Beside h s (s.eachHead (State.haltHead c)) := by
  obtain ⟨u, hbefore, -, hafter⟩ := State.eachHead_only (State.Only.haltHead c) (by simp) h s
  have hstate : u.heads[h].state = s.heads[h].state := congrArg Channel.state hbefore.1
  split
  · next htrips =>
    rw [hafter.1]
    exact State.haltHead_queue (by rw [hstate, htrips]) c
  · next htrips =>
    rw [State.haltHead_of_not_trips (by rw [hstate]; exact Bool.eq_false_iff.2 htrips)] at hafter
    exact hbefore.trans hafter

/-- The abort of a job in motion. -/
theorem State.abortJob_of_inMotion {s : State} (c : JobCause) (h : s.jcu.state.inMotion = true) :
    s.abortJob c = (s.setJob .halted c).eachHead (State.haltHead .aborted) ∧
    (s.abortJob c).jcu = { s.jcu with state := .halted } ∧
    (s.abortJob c).tlm = s.tlm.copyShadows s.tlm.gradPending s.tlm.calPending := by
  have hjcu : ((s.setJob .halted c).eachHead (State.haltHead .aborted)).jcu = { s.jcu with state := .halted } := by
    simp [State.eachHead_eq, State.setJob_jcu]
  have htlm : ((s.setJob .halted c).eachHead (State.haltHead .aborted)).tlm =
      s.tlm.copyShadows s.tlm.gradPending s.tlm.calPending := by
    have hset := (s.setJob_jcu_tlm .halted c).2.trans (if_pos (by rw [h]; rfl))
    simpa [State.eachHead_eq] using hset
  have hchecked : s.abortJob c = (s.setJob .halted c).eachHead (State.haltHead .aborted) :=
    State.headsCheck_of_not_inMotion (by rw [hjcu]; rfl)
  exact ⟨hchecked, hchecked ▸ hjcu, hchecked ▸ htlm⟩

/-- Settles O11: HALTED is not in motion, so that no action follows, and each head is halted as it stood. -/
theorem jobAbortStopsEveryHead : Obligations.JobAbortStopsEveryHead := by
  unfold Obligations.JobAbortStopsEveryHead
  intro s tag tick htakes hjob _
  have hmotion : s.jcu.state.inMotion = true := by
    rcases hjob with hjob | hjob <;> rw [hjob] <;> rfl
  obtain ⟨u, hu, hjcu, htlm, hheads, hports, hpipes, hcca, hcfu, hstu, -⟩ := s.answered_reads tick tag 0x04 .accepted
  obtain ⟨habort, hjob', htlm'⟩ := State.abortJob_of_inMotion (s := u) .abort (by rw [hjcu]; exact hmotion)
  have hexec : exec (.jobAbort tag tick) s =
      .next ((u.abortJob .abort).setDue ((s.taken tick).answer tag 0x04 .accepted).evr.due) := by
    rw [exec_jobAbort_of_takes tick htakes, State.takeJobAbort,
      if_pos (by simpa [State.taken_keeps] using hmotion),
      State.within_of_not_inMotion _ _ (by rw [hu, hjob']; rfl), hu]
  obtain ⟨t, ht, htjcu, httlm, htheads, htports, htpipes, htcca, htcfu, htstu, -⟩ :=
    (u.abortJob .abort).setDue_reads ((s.taken tick).answer tag 0x04 .accepted).evr.due
  rw [ht] at hexec
  refine ⟨t, hexec, by rw [htjcu, hjob', hjcu], fun h => ?_, by rw [httlm, htlm', htlm], ?_⟩
  · have hstate := State.eachHead_haltHead .aborted (u.setJob .halted .abort) h
    have hqueue := State.eachHead_haltHead_at .aborted (u.setJob .halted .abort) h
    have hset : State.Beside h s (u.setJob .halted .abort) :=
      .of_same (by simp [hheads]) (by simp [hports]) (by simp [hpipes])
    have hend : State.Beside h ((u.setJob .halted .abort).eachHead (State.haltHead .aborted)) t :=
      .of_same (by rw [htheads, habort]) (by rw [htports, habort]) (by rw [htpipes, habort])
    rw [hset.1, ← hend.1] at hstate
    rw [hset.1, ← hend.1] at hqueue
    split
    · next htrips =>
      rw [if_pos htrips] at hstate hqueue
      exact ⟨hstate, hqueue⟩
    · next htrips =>
      rw [if_neg htrips] at hqueue
      obtain ⟨hhead, -, hpipe⟩ := (hset.trans hqueue).trans hend
      exact ⟨hhead, hpipe⟩
  · rw [htports, htstu, htcfu, htcca, ← hports, ← hstu, ← hcfu, ← hcca, habort]
    simp [State.eachHead_eq]

/-! ## JOB_HALT (R146) -/

theorem Channel.stopped_state (c : Channel) : c.stopped.state = c.state.stopNext := by
  unfold Channel.stopped
  split <;> simp_all [HeadState.stopNext]

theorem HeadState.stopNext_engaged (x : HeadState) : x.stopNext.engaged = x.engaged := by cases x <;> rfl

theorem HeadState.stopNext_finished (x : HeadState) : (x.stopNext == .finished) = (x == .finished) := by cases x <;> rfl

/-- A halt of every head, each as it stood. -/
theorem State.eachHead_stopHead_heads (s : State) (h : Head) :
    (s.eachHead State.stopHead).heads[h] = s.heads[h].stopped := by
  obtain ⟨u, hbefore, -, hafter⟩ := State.eachHead_only State.Only.stopHead (by simp) h s
  rw [hafter.1, State.stopHead_heads, hbefore.1]
  simp

/-- JCU's check of the heads of a HALTING job (R147). -/
theorem State.headsCheck_of_halting {s : State} (h : s.jcu.state = .halting) :
    s.headsCheck = if s.noneEngaged then s.setJob (if s.allFinished then .complete else .halted) .heads else s := by
  unfold State.headsCheck
  rw [if_neg (by rw [h]; nofun), if_pos h]

/-- What a halt of the job leaves of the heads' states for that check. -/
theorem State.checks_of_stopped {s t : State} (htlm : t.tlm = s.tlm) (hheads : ∀ h : Head, t.heads[h] = s.heads[h].stopped) :
    t.noneEngaged = s.noneEngaged ∧ t.allFinished = s.allFinished := by
  have hstate (h : Head) : t.heads[h].state = s.heads[h].state.stopNext := by rw [hheads, Channel.stopped_state]
  have henabled (h : Head) : t.enabled h = s.enabled h := by rw [State.enabled, htlm]; rfl
  unfold State.noneEngaged State.allFinished
  constructor <;> congr 1 <;> funext h
  · rw [hstate, HeadState.stopNext_engaged]
  · rw [hstate, henabled, HeadState.stopNext_finished]

/-- The records that a stop of its head removes (R122, R146). -/
def Channel.planned (c : Channel) : List TrackRecord :=
  if c.state = .waiting ∨ c.state = .stalled then c.queue.filter fun r => !r.active else []

/-- A halt of the job up to JCU's check: HALTING, with every head stopped as it stood. -/
structure State.HaltsHeads (s v : State) : Prop where
  jcu : v.jcu = { s.jcu with state := .halting }
  tlm : v.tlm = s.tlm
  heads : ∀ h : Head, v.heads[h] = s.heads[h].stopped
  slots : State.Unpins (headOrder.flatMap fun h => s.heads[h].planned) s v
  rest : v.cca.lru = s.cca.lru ∧ v.cca.samples = s.cca.samples ∧ v.stu = s.stu ∧ v.cfu = s.cfu ∧ v.pipes = s.pipes ∧
    v.ports = s.ports

theorem State.haltHeads (s : State) (c : JobCause) :
    State.HaltsHeads s ((s.setJob .halting c).eachHead State.stopHead) := by
  have htlm := (s.setJob_jcu_tlm .halting c).2
  rw [Tables.afterJob, if_neg (by simp [JobState.ended])] at htlm
  have hset : (s.setJob .halting c).heads = s.heads ∧ (s.setJob .halting c).cca = s.cca := by simp
  obtain ⟨hheads, hcca⟩ := hset
  refine ⟨?_, ?_, fun h => ?_, fun n => ?_, by simp [State.eachHead_eq]⟩
  · rw [← s.setJob_jcu .halting c]
    simp [State.eachHead_eq]
  · refine Eq.trans ?_ htlm
    simp [State.eachHead_eq]
  · rw [State.eachHead_stopHead_heads, hheads]
  · have hunpins := State.Unpins.eachHead Channel.planned State.Unpins.stopHead State.Only.stopHead (s.setJob .halting c) n
    rwa [hheads, hcca] at hunpins

/-- Settles O10: no head's stop calls for an action, and the check that follows finds what it would have found before. -/
theorem jobHaltStopsHeads : Obligations.JobHaltStopsHeads := by
  unfold Obligations.JobHaltStopsHeads
  intro s tag tick htakes hjob hno planned
  obtain ⟨u, hu, hjcu, htlm, hheads, hports, hpipes, hcca, hcfu, hstu, hdue⟩ := s.answered_reads tick tag 0x03 .accepted
  have hsilent : State.Silent [] u :=
    hdue ▸ (State.noActions_of_route (congrArg Tables.route htlm) hno).silent
  have hhalts := u.haltHeads .halt
  have hexec : exec (.jobHalt tag tick) s =
      .next ((u.haltJob .halt).setDue ((s.taken tick).answer tag 0x03 .accepted).evr.due) := by
    rw [exec_jobHalt_of_takes tick htakes, State.takeJobHalt, if_pos (by simpa [State.taken_keeps] using hjob),
      State.Silent.within _ (by rw [hu]; exact hsilent.haltJob _), hu]
  unfold State.haltJob at hexec
  generalize (u.setJob .halting .halt).eachHead State.stopHead = v at hhalts hexec
  have hvheads (h : Head) : v.heads[h] = s.heads[h].stopped := by rw [hhalts.heads, hheads]
  have hvtlm : v.tlm = s.tlm := hhalts.tlm.trans htlm
  have hvjcu : v.jcu = { s.jcu with state := .halting } := by rw [hhalts.jcu, hjcu]
  obtain ⟨hnone, hall⟩ := State.checks_of_stopped hvtlm hvheads
  have hcheck := State.headsCheck_of_halting (s := v) (by rw [hvjcu])
  rw [hnone, hall] at hcheck
  obtain ⟨t, ht, htjcu, httlm, htheads, htports, htpipes, htcca, htcfu, htstu, -⟩ :=
    v.headsCheck.setDue_reads ((s.taken tick).answer tag 0x03 .accepted).evr.due
  rw [ht] at hexec
  have hkept : v.headsCheck.heads = v.heads ∧ v.headsCheck.cca = v.cca ∧ v.headsCheck.stu = v.stu ∧
      v.headsCheck.cfu = v.cfu ∧ v.headsCheck.pipes = v.pipes ∧ v.headsCheck.ports = v.ports := by simp
  obtain ⟨hcheads, hccca, hcstu, hccfu, hcpipes, hcports⟩ := hkept
  refine ⟨t, hexec, fun h => ?_, ?_, fun hengaged => ?_, fun hengaged => ?_, fun n => ?_, ?_⟩
  · rw [htheads, hcheads, hvheads]
    unfold Channel.stopped
    cases s.heads[h].state <;> rfl
  · rw [htjcu, hcheck]
    split
    · rw [State.setJob_jcu, hvjcu]
    · rw [hvjcu]
  · rw [htjcu, httlm, hcheck, if_neg (by simp [hengaged]), hvjcu, hvtlm]
    exact ⟨rfl, rfl⟩
  · rw [htjcu, httlm, hcheck, if_pos hengaged, State.setJob_jcu, (v.setJob_jcu_tlm _ _).2, hvjcu, hvtlm]
    refine ⟨rfl, if_pos ?_⟩
    cases s.allFinished <;> rfl
  · have hslots := hhalts.slots n
    rw [hheads, hcca] at hslots
    rw [htcca, hccca]
    exact hslots
  · have hrest := hhalts.rest
    rw [hcca, hstu, hcfu, hpipes, hports] at hrest
    rw [htcca, hccca, htstu, hcstu, htcfu, hccfu, htpipes, hcpipes, htports, hcports]
    exact hrest

end Sys2Proof.Machine

/-! JOB_START and HEAD_RESUME: the heads that are started, the steps they owe, and the planning pass that follows (R111,
R124, R136, R144, R147). -/

namespace Sys2Proof.Machine

/-! ## A head that is started -/

theorem State.waitAgain_heads (s : State) (h : Head) :
    (s.waitAgain h).heads = s.heads.set h { s.heads[h] with state := .waiting, wait := 0 } := by
  unfold State.waitAgain
  dsimp only
  split <;> rfl

/-- The STEP line of a head set to WAITING: a step that it owes is raised (R111, R124). -/
theorem State.waitAgain_ports (s : State) (h : Head) :
    (s.waitAgain h).ports =
      s.ports.set h { s.ports[h] with step := s.ports[h].step || !s.heads[h].positioned } := by
  unfold State.waitAgain
  dsimp only
  split
  · next hraise =>
    obtain ⟨hpos, -⟩ : s.heads[h].positioned = false ∧ s.ports[h].step = false := by simpa using hraise
    rw [hpos, Bool.not_false, Bool.or_true]
    rfl
  · next hraise =>
    have hsame : (s.ports[h].step || !s.heads[h].positioned) = s.ports[h].step := by
      cases hstep : s.ports[h].step
      · rw [hstep] at hraise
        simpa using hraise
      · rfl
    rw [hsame]
    exact (Vector.set_getElem_self h.isLt).symm

/-- The STEP line of a head that is started. -/
theorem State.resumeHead_ports (h : Head) (s : State) :
    (State.resumeHead h s).ports = if s.heads[h].complete then s.ports
      else s.ports.set h { s.ports[h] with step := s.ports[h].step || !s.heads[h].positioned } := by
  unfold State.resumeHead
  split
  · simp
  · rw [State.setWaiting_eq, ← State.waitAgain_ports]
    split <;> simp

theorem State.startHead_port (h : Head) (s : State) :
    (State.startHead h s).ports[h] =
      if (s.heads[h].state = .ready ∨ s.heads[h].state = .stopped) ∧ s.heads[h].complete = false ∧
          s.heads[h].positioned = false
      then { s.ports[h] with step := true } else s.ports[h] := by
  have hresumed : (State.resumeHead h s).ports[h] =
      if s.heads[h].complete = false ∧ s.heads[h].positioned = false
      then { s.ports[h] with step := true } else s.ports[h] := by
    rw [State.resumeHead_ports]
    cases s.heads[h].complete <;> cases s.heads[h].positioned <;> simp
  unfold State.startHead
  cases s.heads[h].state
  case ready | stopped => simpa using hresumed
  all_goals simp

/-- A head that is neither READY nor STOPPED is not started. -/
theorem State.startHead_of_other {h : Head} {s : State} (hready : s.heads[h].state ≠ .ready)
    (hstopped : s.heads[h].state ≠ .stopped) : State.startHead h s = s := by
  unfold State.startHead
  split
  case h_1 heq => exact absurd heq hready
  case h_2 heq => exact absurd heq hstopped
  all_goals rfl

/-- What a pipeline counts. -/
def Pipe.counters (p : Pipe) : Pipe := { p with wearTerm := none }

theorem State.endTrack_counters (s : State) (h : Head) (o : Option DefectCause) :
    (s.endTrack h o).pipes.map Pipe.counters = s.pipes.map Pipe.counters := by
  cases hr : s.heads[h].activeRecord with
  | none => rw [State.endTrack_of_none hr]
  | some r =>
    rw [State.endTrack_pipes hr]
    ext i hi : 1
    by_cases hg : h.val = i
    · subst hg
      simp [Pipe.counters]
    · simp [Vector.getElem_set_ne _ _ hg]

theorem State.resumeHead_counters (h : Head) (s : State) :
    (State.resumeHead h s).pipes.map Pipe.counters = s.pipes.map Pipe.counters := by
  have hwait : (s.waitAgain h).pipes = s.pipes := by
    unfold State.waitAgain
    dsimp only
    split <;> rfl
  have htrip (v : State) :
      ((v.tripHead h).raiseTrip h v.heads[h] .level).pipes = (v.endTrack h (some .tripped)).pipes := by
    simp [State.raiseTrip, State.tripHead]
  unfold State.resumeHead
  split
  · simp
  · rw [State.setWaiting_eq]
    split
    · rw [htrip, State.endTrack_counters, hwait]
    · rw [hwait]

theorem State.startHead_counters (h : Head) (s : State) :
    (State.startHead h s).pipes.map Pipe.counters = s.pipes.map Pipe.counters := by
  unfold State.startHead
  cases s.heads[h].state
  case ready | stopped => exact State.resumeHead_counters h s
  all_goals rfl

/-- A track end leaves the wait count. -/
theorem State.endTrack_wait (s : State) (h : Head) (o : Option DefectCause) :
    (s.endTrack h o).heads[h].wait = s.heads[h].wait := by
  cases hr : s.heads[h].activeRecord with
  | none => rw [State.endTrack_of_none hr]
  | some r =>
    rw [State.endTrack_heads hr]
    cases o <;> simp [Channel.ended, Channel.counted, Channel.closed]

/-- A head that is started waits from 0 (R111, R124). -/
theorem State.resumeHead_wait {h : Head} {s : State} (hcomplete : s.heads[h].complete = false) :
    (State.resumeHead h s).heads[h].wait = 0 := by
  have hwait : (s.waitAgain h).heads[h].wait = 0 := by simp [State.waitAgain_heads]
  unfold State.resumeHead
  rw [if_neg (Bool.eq_false_iff.1 hcomplete), State.setWaiting_eq]
  split
  · have hend := State.endTrack_wait (s.waitAgain h) h (some .tripped)
    rw [hwait] at hend
    simpa [State.raiseTrip, State.tripHead, State.dropPlanned_heads, Channel.onlyActive] using hend
  · exact hwait

/-! ## JOB_START (R144) -/

/-- JCU's check of the heads of a RUNNING job (R147). -/
theorem State.headsCheck_of_running {s : State} (h : s.jcu.state = .running) :
    s.headsCheck = if s.allFinished then s.setJob .complete .heads else s := by
  unfold State.headsCheck
  rw [if_pos h]

theorem State.allFinished_iff (s : State) :
    s.allFinished = true ↔ ∀ h : Head, s.enabled h = true → s.heads[h].state = .finished := by
  have himp (h : Head) : (!s.enabled h || s.heads[h].state == .finished) = true ↔
      (s.enabled h = true → s.heads[h].state = .finished) := by
    cases s.enabled h <;> simp
  unfold State.allFinished
  rw [List.all_eq_true]
  exact ⟨fun hall h => (himp h).1 (hall h (mem_headOrder h)), fun hall h _ => (himp h).2 (hall h)⟩

/-- What a start of every head makes of one of them. -/
structure State.Started (s t : State) : Prop where
  state : ∀ h : Head, t.heads[h].state = s.heads[h].state.started s.heads[h].complete (s.tripsAtOnce h)
  port : ∀ h : Head, t.ports[h] =
    if (s.heads[h].state = .ready ∨ s.heads[h].state = .stopped) ∧ s.heads[h].complete = false ∧
        s.heads[h].positioned = false
    then { s.ports[h] with step := true } else s.ports[h]
  other : ∀ h : Head, s.heads[h].state ≠ .ready → s.heads[h].state ≠ .stopped → t.heads[h] = s.heads[h]
  counters : t.pipes.map Pipe.counters = s.pipes.map Pipe.counters

theorem State.eachHead_startHead (s : State) : State.Started s (s.eachHead State.startHead) := by
  have hone (h : Head) := State.eachHead_only State.Only.startHead (by simp) h s
  have hcounters := State.eachHead_inv (P := fun t => t.pipes.map Pipe.counters = s.pipes.map Pipe.counters) s
    State.startHead (fun h t ht => (State.startHead_counters h t).trans ht) rfl
  refine ⟨fun h => ?_, fun h => ?_, fun h hready hstopped => ?_, hcounters⟩
  · obtain ⟨u, ⟨hhead, hport, -⟩, htlm, hafter⟩ := hone h
    have htrips : u.tripsAtOnce h = s.tripsAtOnce h := by
      unfold State.tripsAtOnce State.perCell
      rw [htlm, hport]
    rw [hafter.1, (State.startHead_moves h u).heads.self, hhead, htrips]
  · obtain ⟨u, ⟨hhead, hport, -⟩, -, hafter⟩ := hone h
    rw [hafter.2.1, State.startHead_port, hhead, hport]
  · obtain ⟨u, hbefore, -, hafter⟩ := hone h
    rw [State.startHead_of_other (by rwa [hbefore.1]) (by rwa [hbefore.1])] at hafter
    exact (hbefore.trans hafter).1

/-- With no mark set, an end of the job copies nothing (R162). -/
theorem Tables.afterJob_of_no_marks {t : Tables} (hgrad : t.gradPending = 0) (hcal : t.calPending = 0)
    (old new : JobState) : t.afterJob old new = t := by
  unfold Tables.afterJob
  rw [hgrad, hcal, Tables.copyShadows_zero, ite_self]

/-- A JOB_START up to JCU's check: RUNNING, with every head started as it stood and the planning pass made. -/
structure State.StartsHeads (s v : State) : Prop where
  jcu : v.jcu = { s.jcu with state := .running }
  tlm : v.tlm = s.tlm
  stu : v.stu = s.stu
  samples : v.cca.samples = s.cca.samples
  state : ∀ h : Head, v.heads[h].state = s.heads[h].state.started s.heads[h].complete (s.tripsAtOnce h)
  other : ∀ h : Head, s.heads[h].state = .idle ∨ s.heads[h].state = .tripped ∨ s.heads[h].state = .finished →
    v.heads[h] = s.heads[h]
  port : ∀ h : Head, v.ports[h] =
    if (s.heads[h].state = .ready ∨ s.heads[h].state = .stopped) ∧ s.heads[h].complete = false ∧
        s.heads[h].positioned = false
    then { s.ports[h] with step := true } else s.ports[h]
  counters : v.pipes.map Pipe.counters = s.pipes.map Pipe.counters

theorem State.startHeads {s : State} (hgrad : s.tlm.gradPending = 0) (hcal : s.tlm.calPending = 0) (c : JobCause) :
    State.StartsHeads s ((s.setJob .running c).eachHead State.startHead).planningPass := by
  have hjcu := s.setJob_jcu .running c
  have htlm := (s.setJob_jcu_tlm .running c).2.trans (Tables.afterJob_of_no_marks hgrad hcal _ _)
  obtain ⟨hheads, hports, hpipes, hsamples, hstu⟩ : (s.setJob .running c).heads = s.heads ∧
      (s.setJob .running c).ports = s.ports ∧ (s.setJob .running c).pipes = s.pipes ∧
      (s.setJob .running c).cca.samples = s.cca.samples ∧ (s.setJob .running c).stu = s.stu := by simp
  generalize s.setJob .running c = x at hjcu htlm hheads hports hpipes hsamples hstu
  have htrips (h : Head) : x.tripsAtOnce h = s.tripsAtOnce h := by
    unfold State.tripsAtOnce State.perCell
    rw [htlm, hports]
  obtain ⟨hstate, hport, hother, hcounters⟩ := x.eachHead_startHead
  obtain ⟨hyjcu, hytlm, hystu, hysamples⟩ : (x.eachHead State.startHead).jcu = x.jcu ∧
      (x.eachHead State.startHead).tlm = x.tlm ∧ (x.eachHead State.startHead).stu = x.stu ∧
      (x.eachHead State.startHead).cca.samples = x.cca.samples := by simp [State.eachHead_eq]
  generalize x.eachHead State.startHead = y at hstate hport hother hcounters hyjcu hytlm hystu hysamples
  have hplans := y.planningPass_plans
  obtain ⟨hvjcu, hvtlm, hvstu, hvsamples, hvports, hvpipes⟩ : y.planningPass.jcu = y.jcu ∧
      y.planningPass.tlm = y.tlm ∧ y.planningPass.stu = y.stu ∧ y.planningPass.cca.samples = y.cca.samples ∧
      y.planningPass.ports = y.ports ∧ y.planningPass.pipes = y.pipes := by simp
  rw [hheads] at hstate hport hother
  rw [hports] at hport
  refine ⟨by rw [hvjcu, hyjcu, hjcu], by rw [hvtlm, hytlm, htlm], by rw [hvstu, hystu, hstu],
    by rw [hvsamples, hysamples, hsamples], fun h => by rw [hplans.state, hstate, htrips], fun h hrests => ?_,
    fun h => by rw [hvports, hport], by rw [hvpipes, hcounters, hpipes]⟩
  have hsame : y.heads[h] = s.heads[h] := by
    refine hother h ?_ ?_ <;> rcases hrests with hrests | hrests | hrests <;> rw [hrests] <;> nofun
  rw [hplans.rests h ?_, hsame]
  rw [hsame]
  rcases hrests with hrests | hrests | hrests <;> rw [hrests] <;> rfl

/-- Settles O9: every head is started as it stood, the planning pass keeps their states, and JCU's check finds whether every
enabled one is FINISHED. -/
theorem jobStartStartsHeads : Obligations.JobStartStartsHeads := by
  unfold Obligations.JobStartStartsHeads
  intro s tag tick htakes hjob hlocked hno hmarks
  have hstartable : s.jcu.state.startable = true ∧ s.jcu.state.inMotion = false := by
    rcases hjob with hjob | hjob | hjob <;> rw [hjob] <;> exact ⟨rfl, rfl⟩
  obtain ⟨hgrad, hcal⟩ := hmarks hstartable.2
  obtain ⟨u, hu, hjcu, htlm, hheads, hports, hpipes, hcca, -, hstu, hdue⟩ := s.answered_reads tick tag 0x02 .accepted
  have huno : u.noActions := State.noActions_of_route (congrArg Tables.route htlm) hno
  have hexec : exec (.jobStart tag tick) s =
      .next (u.startJob.setDue ((s.taken tick).answer tag 0x02 .accepted).evr.due) := by
    rw [exec_jobStart_of_takes tick htakes, State.takeJobStart, if_pos (by simpa [State.taken_keeps] using hstartable.1),
      if_pos (by simpa [State.taken_keeps] using hlocked),
      State.Silent.within _ (by rw [hu]; exact (hdue ▸ huno.silent).startJob huno), hu]
  have hstarts := State.startHeads (s := u) (by rw [htlm, hgrad]) (by rw [htlm, hcal]) .start
  unfold State.startJob at hexec
  generalize ((u.setJob .running .start).eachHead State.startHead).planningPass = v at hstarts hexec
  have hvtlm : v.tlm = s.tlm := hstarts.tlm.trans htlm
  have hcheck := State.headsCheck_of_running (s := v) (by rw [hstarts.jcu])
  obtain ⟨hcheads, hcstu, hccca, hcports, hcpipes⟩ : v.headsCheck.heads = v.heads ∧ v.headsCheck.stu = v.stu ∧
      v.headsCheck.cca = v.cca ∧ v.headsCheck.ports = v.ports ∧ v.headsCheck.pipes = v.pipes := by simp
  obtain ⟨t, ht, htjcu, httlm, htheads, htports, htpipes, htcca, -, htstu, -⟩ :=
    v.headsCheck.setDue_reads ((s.taken tick).answer tag 0x02 .accepted).evr.due
  rw [ht] at hexec
  have hend (h : Head) : t.heads[h] = v.heads[h] := by rw [htheads, hcheads]
  refine ⟨t, hexec, fun h => ?_, fun h => ?_, fun h hstate => ?_, ?_, ?_, ?_, ?_, ?_, fun h => ?_⟩
  · have htrips : u.tripsAtOnce h = s.tripsAtOnce h := by
      unfold State.tripsAtOnce State.perCell
      rw [htlm, hports]
    rw [hend, hstarts.state, htrips, hheads, HeadState.started, HeadState.resumed, State.tripsAtOnce]
    simp only [Bool.and_eq_true, Bool.not_eq_true']
  · rw [htports, hcports, hstarts.port, hheads, hports]
  · rw [hend, hstarts.other h (by rwa [hheads]), hheads]
  · rw [htjcu, hcheck]
    split
    · rw [State.setJob_jcu, hstarts.jcu, hjcu]
    · rw [hstarts.jcu, hjcu]
  · have hall : v.allFinished = true ↔ ∀ h : Head, s.enabled h = true → t.heads[h].state = .finished := by
      rw [State.allFinished_iff]
      refine forall_congr' fun h => ?_
      rw [hend, State.enabled, hvtlm]
      rfl
    rw [htjcu, hcheck]
    by_cases hfinished : v.allFinished = true
    · rw [if_pos hfinished, if_pos (hall.1 hfinished), State.setJob_jcu]
    · rw [if_neg hfinished, if_neg (mt hall.2 hfinished), hstarts.jcu]
  · rw [httlm, hcheck]
    split
    · rw [(v.setJob_jcu_tlm _ _).2, hvtlm, Tables.afterJob_of_no_marks hgrad hcal]
    · exact hvtlm
  · rw [htstu, hcstu, hstarts.stu, hstu]
  · rw [htcca, hccca, hstarts.samples, hcca]
  · have hcounters : t.pipes[h].counters = s.pipes[h].counters := by
      have hall := hstarts.counters
      rw [← hcpipes, ← htpipes, hpipes] at hall
      simpa using congrArg (·[h]) hall
    exact ⟨(congrArg Pipe.engraved hcounters :), (congrArg Pipe.suppressed hcounters :),
      (congrArg Pipe.saturations hcounters :)⟩

end Sys2Proof.Machine

/-! HEAD_RESUME: the head that is started again, and the planning pass (R124, R136). -/

namespace Sys2Proof.Machine

/-- A part of an event that changes one head and passes that to JCU, which finds an enabled head that is not FINISHED in a
job that is not HALTING (R147). -/
theorem State.withCheck_of_unfinished {s : State} {h : Head} {f : State → State} (hjob : (f s).jcu.state ≠ .halting)
    (henabled : (f s).enabled h = true) (hstate : (f s).heads[h].state ≠ .finished) : s.withCheck h f = f s := by
  unfold State.withCheck
  dsimp only
  split
  · rfl
  · exact State.headsCheck_of_unfinished henabled hstate hjob

/-- What a change passed to JCU leaves, whatever JCU then does with the job. -/
theorem State.withCheck_reads (s : State) (h : Head) (f : State → State) :
    (s.withCheck h f).heads = (f s).heads ∧ (s.withCheck h f).ports = (f s).ports ∧
    (s.withCheck h f).pipes = (f s).pipes ∧ (s.withCheck h f).stu = (f s).stu ∧ (s.withCheck h f).cca = (f s).cca ∧
    (s.withCheck h f).cfu = (f s).cfu := by
  unfold State.withCheck
  dsimp only
  split <;> simp

/-- What a later planning pass leaves of a channel beside its queue. -/
theorem State.Plans.keeps {s t : State} (h : State.Plans s t) (g : Head) :
    t.heads[g].state = s.heads[g].state ∧ t.heads[g].nextTrack = s.heads[g].nextTrack ∧
    t.heads[g].positioned = s.heads[g].positioned ∧ t.heads[g].wait = s.heads[g].wait := by
  rw [(h.grows g).fields]
  exact ⟨rfl, rfl, rfl, rfl⟩

section
variable {s : State} {h : Head} (hno : s.noActions)
include hno

/-- A head that is started calls for no action. -/
theorem State.resumeHead_silent : State.Silent [] (State.resumeHead h (s.setDue [])) :=
  State.Silent.resumeHead (s := s.setDue []) ⟨fun k _ => hno k, rfl⟩ hno h

/-- HEAD_RESUME of a head whose range is complete: it parks, and no planning pass follows. -/
theorem State.resumeEffect_of_complete (hcomplete : s.heads[h].complete = true) :
    s.resumeEffect h = ((s.setDue []).withCheck h (State.resumeHead h)).setDue s.evr.due := by
  unfold State.resumeEffect
  dsimp only
  rw [if_pos hcomplete]
  exact State.Silent.within _ ((State.resumeHead_silent hno).withCheck h _)

/-- HEAD_RESUME of another enabled head of a RUNNING job: it is started, and the planning pass follows. -/
theorem State.resumeEffect_of_not_complete (hcomplete : s.heads[h].complete = false) (hjob : s.jcu.state = .running)
    (henabled : s.enabled h = true) :
    s.resumeEffect h = ((State.resumeHead h (s.setDue [])).setDue []).planningPass.setDue s.evr.due := by
  have hmoves := State.resumeHead_moves h (s.setDue [])
  have hsilent := State.resumeHead_silent (h := h) hno
  have hcheck : (s.setDue []).withCheck h (State.resumeHead h) = State.resumeHead h (s.setDue []) := by
    refine State.withCheck_of_unfinished ?_ ?_ ?_
    · rw [hmoves.job]
      exact fun he => by simp [hjob] at he
    · unfold State.enabled at henabled ⊢
      rwa [hmoves.setups]
    · have hc : (s.setDue []).heads[h].complete = false := hcomplete
      rw [hmoves.heads.self, hc, HeadState.resumed]
      cases (s.setDue []).tripsAtOnce h <;> nofun
  unfold State.resumeEffect
  dsimp only
  rw [if_neg (Bool.eq_false_iff.1 hcomplete), State.Silent.within (s := s) _ (by rw [hcheck]; exact hsilent), hcheck]
  exact State.Silent.within _ (hsilent.setDue []).planningPass

end

/-- Settles O16: the head is started; where it has a track to engrave, JCU's check finds it unfinished and the planning pass
extends queues alone. -/
theorem headResumeRestartsHead : Obligations.HeadResumeRestartsHead := by
  unfold Obligations.HeadResumeRestartsHead
  intro s tag head h tick hhead htakes hjob henabled hno hstate
  obtain ⟨u, hu, hjcu, htlm, hheads, hports, -, hcca, hcfu, hstu, -⟩ := s.answered_reads tick tag 0x12 .accepted
  have hexec : exec (.headResume tag head tick) s = .next (((s.taken tick).answer tag 0x12 .accepted).resumeEffect h) := by
    rw [exec_headResume_of_takes tick htakes, State.takeHeadResume, State.forHead_of_toNat _ _ _ hhead, if_pos]
    rw [State.resumable_iff]
    simpa only [State.taken_keeps] using ⟨hjob, hstate⟩
  generalize hv : (s.taken tick).answer tag 0x12 .accepted = v at hexec hu
  have hvno : v.noActions := by
    refine State.noActions_of_route (s := s) ?_ hno
    rw [← htlm, ← hu]
    rfl
  have hvheads : v.heads = s.heads := by rw [← hheads, ← hu]; rfl
  have hmoves := State.resumeHead_moves h u
  have honly := State.Only.resumeHead h u
  have hports' := State.resumeHead_ports h u
  have htrips : u.tripsAtOnce h = s.tripsAtOnce h := by
    unfold State.tripsAtOnce State.perCell
    rw [htlm, hports]
  rw [hheads, htrips] at hmoves
  rw [hheads, hports] at hports'
  have hother (g : Head) (hg : g ≠ h) : (State.resumeHead h u).heads[g] = s.heads[g] := by
    rw [(honly g hg).1, hheads]
  generalize hw : State.resumeHead h u = w at hmoves hports' hother
  have hwkeeps : w.jcu = s.jcu ∧ w.tlm = s.tlm ∧ w.stu = s.stu ∧ w.cca.samples = s.cca.samples ∧ w.cfu = s.cfu := by
    rw [← hjcu, ← htlm, ← hstu, ← hcca, ← hcfu, ← hw]
    simp
  obtain ⟨hwjcu, hwtlm, hwstu, hwsamples, hwcfu⟩ := hwkeeps
  cases hcomplete : s.heads[h].complete
  · have hvjob : v.jcu.state = .running := by rw [← hjob, ← hjcu, ← hu]; rfl
    have hvenabled : v.enabled h = true := by
      rw [← henabled, State.enabled, State.enabled, ← htlm, ← hu]
      rfl
    rw [State.resumeEffect_of_not_complete hvno (by rw [hvheads, hcomplete]) hvjob hvenabled, hu, hw] at hexec
    have hplans := (w.setDue []).planningPass_plans
    have hlater : (w.setDue []).planningPass.jcu = w.jcu ∧ (w.setDue []).planningPass.tlm = w.tlm ∧
        (w.setDue []).planningPass.stu = w.stu ∧ (w.setDue []).planningPass.cca.samples = w.cca.samples ∧
        (w.setDue []).planningPass.ports = w.ports := by simp
    have hkeeps (g : Head) := hplans.keeps g
    generalize (w.setDue []).planningPass = x at hexec hlater hkeeps
    obtain ⟨hxjcu, hxtlm, hxstu, hxsamples, hxports⟩ := hlater
    obtain ⟨t, ht, htjcu, httlm, htheads, htports, -, htcca, -, htstu, -⟩ := x.setDue_reads v.evr.due
    rw [ht] at hexec
    refine ⟨t, hexec, nofun, fun _ => ⟨?_, ?_, ?_, ?_, ?_⟩, fun g hg => ?_, ?_, ?_⟩
    · rw [htheads, (hkeeps h).1]
      refine hmoves.heads.self.trans ?_
      rw [hcomplete, HeadState.resumed, State.tripsAtOnce]
      simp only [Bool.and_eq_true, Bool.not_eq_true', Bool.false_eq_true, if_false]
    · obtain ⟨-, -, -, hwait⟩ := hkeeps h
      rw [htheads, hwait]
      exact hw ▸ State.resumeHead_wait (by rw [hheads, hcomplete])
    · rw [htjcu, hxjcu, hwjcu]
    · rw [httlm, hxtlm, hwtlm]
    · rw [htports, hxports, hports', hcomplete, if_neg Bool.false_ne_true]
    · rw [htheads, ← hother g hg]
      exact hkeeps g
    · rw [htstu, hxstu, hwstu]
    · rw [htcca, hxsamples, hwsamples]
  · rw [State.resumeEffect_of_complete hvno (by rw [hvheads, hcomplete]), hu] at hexec
    obtain ⟨hcheads, hcports, -, hcstu, hccca, hccfu⟩ := u.withCheck_reads h (State.resumeHead h)
    rw [hw] at hcheads hcports hcstu hccca hccfu
    generalize u.withCheck h (State.resumeHead h) = x at hexec hcheads hcports hcstu hccca hccfu
    obtain ⟨t, ht, -, -, htheads, htports, -, htcca, htcfu, htstu, -⟩ := x.setDue_reads v.evr.due
    rw [ht] at hexec
    refine ⟨t, hexec, fun _ => ⟨?_, ?_, ?_⟩, nofun, fun g hg => ?_, ?_, ?_⟩
    · rw [htheads, hcheads]
      refine hmoves.heads.self.trans ?_
      rw [hcomplete, HeadState.resumed, if_pos rfl]
    · rw [htports, hcports, hports', hcomplete, if_pos rfl]
    · rw [htcfu, hccfu, hwcfu]
    · rw [htheads, hcheads, hother g hg]
      exact ⟨rfl, rfl, rfl, rfl⟩
    · rw [htstu, hcstu, hwstu]
    · rw [htcca, hccca, hwsamples]

end Sys2Proof.Machine

/-! A fault edge that trips a LATCHED head, with no routing action or with ABORT_JOB routed to HEAD_TRIP (R120, R135, R150). -/

namespace Sys2Proof.Machine

/-! ## A trip (R135) -/

/-- What a trip makes of a channel and of the pipelines, where the head has an ACTIVE record. -/
theorem State.tripHead_heads_of_active {s : State} {h : Head} {r : TrackRecord} (hr : s.heads[h].activeRecord = some r) :
    (s.tripHead h).heads = s.heads.set h
      { (s.heads[h].ended r.track (some .tripped) (decide (r.track = s.lastTrack h)) (s.owesStep h)).onlyActive with
        state := .tripped } := by
  simp [State.tripHead, State.dropPlanned_heads, State.endTrack_heads hr, Channel.onlyActive]

/-- Where it has none. -/
theorem State.tripHead_heads_of_none {s : State} {h : Head} (hr : s.heads[h].activeRecord = none) :
    (s.tripHead h).heads = s.heads.set h { s.heads[h].onlyActive with state := .tripped } := by
  simp [State.tripHead, State.dropPlanned_heads, State.endTrack_of_none hr, Channel.onlyActive]

theorem State.tripHead_head (s : State) (h : Head) :
    (s.tripHead h).heads[h].state = .tripped ∧ (∀ r ∈ (s.tripHead h).heads[h].queue, r.active = true) ∧
    (s.tripHead h).heads[h].tracksDefective = if s.heads[h].activeRecord.isSome then satInc s.heads[h].tracksDefective
      else s.heads[h].tracksDefective := by
  cases hr : s.heads[h].activeRecord with
  | none => simp [State.tripHead_heads_of_none hr, Channel.onlyActive]
  | some r => simp [State.tripHead_heads_of_active hr, Channel.onlyActive, Channel.ended, Channel.counted, Channel.closed]

/-- The change that a fault edge makes of a LATCHED head: the trip, its event, and JCU's check. -/
def State.edgeTrip (h : Head) (before : Channel) (s : State) : State :=
  s.withCheck h fun v => (v.tripHead h).raiseTrip h before .edge

/-- What a trip makes of its head, and what it leaves. -/
structure State.Tripped (h : Head) (s t : State) : Prop where
  state : t.heads[h].state = .tripped
  queue : ∀ r ∈ t.heads[h].queue, r.active = true
  count : t.heads[h].tracksDefective = if s.heads[h].activeRecord.isSome then satInc s.heads[h].tracksDefective
    else s.heads[h].tracksDefective
  only : State.Only h s t
  jcu : t.jcu = s.jcu
  tlm : t.tlm = s.tlm
  stu : t.stu = s.stu
  cfu : t.cfu = s.cfu
  ports : t.ports = s.ports
  lru : t.cca.lru = s.cca.lru
  samples : t.cca.samples = s.cca.samples

section
variable {s : State} {h : Head} (henabled : s.enabled h = true) (hjob : s.jcu.state ≠ .halting) (before : Channel)
include henabled hjob

/-- The check finds the head TRIPPED, so it leaves a job that is not HALTING. -/
theorem State.edgeTrip_eq : s.edgeTrip h before = (s.tripHead h).raiseTrip h before .edge := by
  have hmoves : State.Moves h .tripped s ((s.tripHead h).raiseTrip h before .edge) :=
    (s.tripHead_moves h).keep (State.raiseHead_moves _ h _ _)
  refine State.withCheck_of_unfinished ?_ ?_ ?_
  · rwa [hmoves.job]
  · unfold State.enabled at henabled ⊢
    rwa [hmoves.setups]
  · rw [hmoves.heads.self]
    nofun

theorem State.edgeTrip_tripped : State.Tripped h s (s.edgeTrip h before) := by
  obtain ⟨hstate, hqueue, hcount⟩ := s.tripHead_head h
  have hheads : ((s.tripHead h).raiseTrip h before .edge).heads = (s.tripHead h).heads := by simp [State.raiseTrip]
  rw [State.edgeTrip_eq henabled hjob]
  exact ⟨by rwa [hheads], by rwa [hheads], by rwa [hheads], (State.Only.tripHead s h).trans (.raiseHead _ h h _ _),
    by simp [State.raiseTrip], by simp [State.raiseTrip], by simp [State.raiseTrip], by simp [State.raiseTrip],
    by simp [State.raiseTrip], by simp [State.raiseTrip], by simp [State.raiseTrip]⟩

/-- Of the events of a trip, HEAD_TRIP alone may call for an action. -/
theorem State.edgeTrip_due (hsilent : State.Silent [] s) :
    (s.edgeTrip h before).evr.due =
      if s.routeAction .headTrip = .none then [] else [⟨s.routeAction .headTrip, .headTrip⟩] := by
  have hend := hsilent.tripHead h
  have haction : (s.tripHead h).routeAction .headTrip = s.routeAction .headTrip := by
    rw [State.routeAction, show (s.tripHead h).tlm = s.tlm by simp]
    rfl
  have hrecord (d : Word32) (m : BitVec 8) : ((s.tripHead h).recordEvent .headTrip d m).evr.due = [] := by
    simp [hend.due]
  rw [State.edgeTrip_eq henabled hjob]
  unfold State.raiseTrip State.raiseHead State.raise
  rw [haction]
  split
  · exact hrecord _ _
  · simp only [hrecord, List.nil_append]

end

/-- A fault edge that trips a head, as a part of an event. -/
theorem exec_faultEdge_of_trips {s : State} {h : Head} {held : Nat} (tick : Nat) (hheld : 4 ≤ held)
    (hlevel : s.ports[h].fault = false) (hlatched : s.perCell h = false) (htrips : s.heads[h].state.trips = true) :
    exec (.faultEdge h held tick) s = .next ((((s.at tick).modPort h fun p => { p with faultPin := true }).modPort h
      fun p => { p with fault := true }).within (State.edgeTrip h s.heads[h])) :=
  congrArg Host.Outcome.next (State.faultActive_of_trips (s := s.at tick) (decide_eq_true hheld) hlevel hlatched htrips)

/-- The state in which the head trips, with no action due yet. -/
theorem State.faulted_reads (s : State) (h : Head) (tick : Nat) :
    ∃ u, ((((s.at tick).modPort h fun p => { p with faultPin := true }).modPort h
        fun p => { p with fault := true }).setDue []) = u ∧
      u.jcu = s.jcu ∧ u.tlm = s.tlm ∧ u.heads = s.heads ∧ u.pipes = s.pipes ∧ u.cca = s.cca ∧ u.cfu = s.cfu ∧
      u.stu = s.stu ∧ u.evr.due = [] ∧ u.ports = s.ports.set h { s.ports[h] with faultPin := true, fault := true } := by
  refine ⟨_, rfl, rfl, rfl, rfl, rfl, rfl, rfl, rfl, rfl, ?_⟩
  rw [State.modPort_modPort]
  rfl

/-! ## ABORT_JOB as a routing action (R150) -/

theorem State.setDue_setDue (s : State) (d e : List DueAction) : (s.setDue d).setDue e = s.setDue e := rfl

/-- A part of an event whose one action is ABORT_JOB of a job in motion: that abort follows, and no action after it. -/
theorem State.within_of_abort {s t : State} {f : State → State} {k : EventKind} (ht : f (s.setDue []) = t)
    (hdue : t.evr.due = [⟨.abortJob, k⟩]) (hjob : t.jcu.state.inMotion = true) :
    s.within f = ((t.setDue []).abortJob (.route k)).setDue s.evr.due := by
  obtain ⟨-, hjcu, -⟩ := State.abortJob_of_inMotion (s := t.setDue []) (.route k) hjob
  have heffect : ((t.setDue []).setDue []).routeEffect ⟨.abortJob, k⟩ = (t.setDue []).abortJob (.route k) := if_pos hjob
  have hactions : State.takeActions 3 [⟨.abortJob, k⟩] (t.setDue []) = ((t.setDue []).abortJob (.route k)).setDue [] := by
    rw [State.takeActions, List.foldl_cons, List.foldl_nil, heffect]
    exact State.takeActions_of_not_inMotion (by rw [hjcu]; rfl) _ _
  unfold State.within
  dsimp only
  rw [ht, hdue, hactions, State.setDue_setDue]

/-- Settles O50: the trip calls for no action and leaves the job, or it calls for ABORT_JOB, which halts every other head and
finds this one TRIPPED. -/
theorem faultEdgeTripsLatchedHead : Obligations.FaultEdgeTripsLatchedHead := by
  unfold Obligations.FaultEdgeTripsLatchedHead
  refine ⟨fun s h held tick hheld hlevel hlatched henabled hjob hno htrips => ?_,
    fun s h held tick hheld hlevel hlatched henabled hjob htrips haction hothers => ?_⟩
  · obtain ⟨u, hu, hjcu, htlm, hheads, hpipes, hcca, hcfu, hstu, hdue, hports⟩ := s.faulted_reads h tick
    have hexec := exec_faultEdge_of_trips tick hheld hlevel hlatched htrips
    generalize ((s.at tick).modPort h fun p => { p with faultPin := true }).modPort h
      (fun p => { p with fault := true }) = v at hexec hu
    have huno : u.noActions := State.noActions_of_route (congrArg Tables.route htlm) hno
    have huenabled : u.enabled h = true := by rw [State.enabled, htlm]; exact henabled
    have hujob : u.jcu.state ≠ .halting := by rwa [hjcu]
    have htripped := State.edgeTrip_tripped huenabled hujob s.heads[h]
    have hnone := State.edgeTrip_due huenabled hujob s.heads[h] (hdue ▸ huno.silent)
    rw [if_pos (huno .headTrip)] at hnone
    rw [State.within_eq_of_no_due (by rw [hu]) hnone] at hexec
    generalize u.edgeTrip h s.heads[h] = x at hexec htripped
    obtain ⟨t, ht, htjcu, httlm, htheads, htports, htpipes, htcca, htcfu, htstu, -⟩ := x.setDue_reads v.evr.due
    rw [ht] at hexec
    refine ⟨t, hexec, ?_, ?_, ?_, ?_, fun g hg => ?_, ?_⟩
    · rw [htheads, htripped.state]
    · rw [htheads]
      exact htripped.queue
    · rw [htheads, htripped.count, hheads]
    · rw [htports, htripped.ports, hports]
    · obtain ⟨hhead, -, hpipe⟩ := htripped.only g hg
      exact ⟨by rw [htheads, hhead, hheads], by rw [htpipes, hpipe, hpipes]⟩
    · rw [htjcu, httlm, htstu, htcfu, htcca, htripped.jcu, htripped.tlm, htripped.stu, htripped.cfu, htripped.lru,
        htripped.samples]
      exact ⟨hjcu, htlm, hstu, hcfu, congrArg Cache.lru hcca, congrArg Cache.samples hcca⟩
  · obtain ⟨u, hu, hjcu, htlm, -, -, -, -, -, hdue, -⟩ := s.faulted_reads h tick
    have hexec := exec_faultEdge_of_trips tick hheld hlevel hlatched htrips
    generalize ((s.at tick).modPort h fun p => { p with faultPin := true }).modPort h
      (fun p => { p with fault := true }) = v at hexec hu
    have hroute (k : EventKind) : u.routeAction k = s.routeAction k := by
      rw [State.routeAction, htlm]
      rfl
    have huenabled : u.enabled h = true := by rw [State.enabled, htlm]; exact henabled
    have hujob : u.jcu.state ≠ .halting := by rw [hjcu, hjob]; nofun
    have htripped := State.edgeTrip_tripped huenabled hujob s.heads[h]
    have hone := State.edgeTrip_due huenabled hujob s.heads[h] ⟨fun k hk => (hroute k).trans (hothers k hk), hdue⟩
    rw [hroute, haction, if_neg (by nofun)] at hone
    generalize hx : u.edgeTrip h s.heads[h] = x at hone htripped
    have hxjob : x.jcu.state.inMotion = true := by rw [htripped.jcu, hjcu, hjob]; rfl
    rw [State.within_of_abort (by rw [hu, hx]) hone hxjob] at hexec
    obtain ⟨habort, hajcu, -⟩ := State.abortJob_of_inMotion (s := x.setDue []) (.route .headTrip) hxjob
    have hstates (g : Head) : ((x.setDue []).abortJob (.route .headTrip)).heads[g].state =
        if x.heads[g].state.trips then .stopped else x.heads[g].state := by
      rw [habort, State.eachHead_haltHead]
      simp
    generalize (x.setDue []).abortJob (.route .headTrip) = y at hexec hajcu hstates
    obtain ⟨t, ht, htjcu, -, htheads, -⟩ := y.setDue_reads v.evr.due
    rw [ht] at hexec
    refine ⟨t, hexec, ?_, ?_, fun g => ?_⟩
    · rw [htjcu, hajcu, ← hjcu, ← htripped.jcu]
      rfl
    · rw [htheads, hstates, htripped.state]
      rfl
    · rw [htheads, hstates]
      split
      · rfl
      · next hrests => exact Bool.eq_false_iff.2 hrests

end Sys2Proof.Machine

/-! HEAD_ABORT of a head that engraves: its track ends at once, and the two events that it raises find the lane and the
records as the reply left them (R117, R120, R123, R125). -/

namespace Sys2Proof.Machine

/-! ## What EVR does not read of the heads and the cache -/

/-- A state with other channels, pipelines, cache and actions due. -/
def State.withUnits (s : State) (heads : Vector Channel 8) (pipes : Vector Pipe 8) (cca : Cache) (d : List DueAction) :
    State :=
  { s with heads, pipes, cca, evr := { s.evr with due := d } }

/-- Two states that differ in channels, pipelines, cache and actions due alone. -/
def State.UnitsOnly (s t : State) : Prop := ∃ heads pipes cca d, t = s.withUnits heads pipes cca d

section
variable (s : State) (heads : Vector Channel 8) (pipes : Vector Pipe 8) (cca : Cache) (d : List DueAction)

theorem State.beginReport_withUnits (k : EventKind) :
    (s.withUnits heads pipes cca d).beginReport k = (s.beginReport k).withUnits heads pipes cca d := by
  have hrecord : (s.withUnits heads pipes cca d).evr.records[k.num] = s.evr.records[k.num] := rfl
  cases hcase : s.evr.records[k.num] with
  | none => simp only [State.beginReport, hrecord, hcase]
  | some p =>
    simp only [State.beginReport, hrecord, hcase]
    rfl

theorem State.arbitrate_withUnits :
    (s.withUnits heads pipes cca d).arbitrate = s.arbitrate.withUnits heads pipes cca d := by
  have hfree : (s.withUnits heads pipes cca d).laneFree = s.laneFree := rfl
  have hlnk : (s.withUnits heads pipes cca d).lnk = s.lnk := rfl
  have hchoose : (s.withUnits heads pipes cca d).chooseReport = s.chooseReport := rfl
  unfold State.arbitrate
  simp only [hfree, hlnk, hchoose, State.beginReport_withUnits]
  repeat' split
  all_goals rfl

theorem State.recordEvent_withUnits (k : EventKind) (e : Word32) (m : BitVec 8) :
    (s.withUnits heads pipes cca d).recordEvent k e m = (s.recordEvent k e m).withUnits heads pipes cca d := by
  have hlevel : (s.withUnits heads pipes cca d).level k = s.level k := rfl
  have hrecord : (s.withUnits heads pipes cca d).evr.records = s.evr.records := rfl
  unfold State.recordEvent
  simp only [hlevel, hrecord]
  split
  · rfl
  · split
    · exact State.arbitrate_withUnits
        { s with evr := { s.evr with records := s.evr.records.set k.num (some (gather s.evr.records[k.num] e m)) } } ..
    · rfl

end

namespace State.UnitsOnly

variable {s t u : State}

theorem trans (hst : UnitsOnly s t) (htu : UnitsOnly t u) : UnitsOnly s u := by
  obtain ⟨_, _, _, _, rfl⟩ := hst
  obtain ⟨heads, pipes, cca, d, rfl⟩ := htu
  exact ⟨heads, pipes, cca, d, rfl⟩

theorem setDue (s : State) (d : List DueAction) : UnitsOnly s (s.setDue d) := ⟨_, _, _, _, rfl⟩

theorem modHead (s : State) (h : Head) (f : Channel → Channel) : UnitsOnly s (s.modHead h f) := ⟨_, _, _, _, rfl⟩

theorem modPipe (s : State) (h : Head) (f : Pipe → Pipe) : UnitsOnly s (s.modPipe h f) := ⟨_, _, _, _, rfl⟩

theorem unpinRecord (s : State) (r : TrackRecord) : UnitsOnly s (s.unpinRecord r) := by
  unfold State.unpinRecord
  split
  · exact ⟨_, _, _, _, rfl⟩
  · exact ⟨_, _, _, _, rfl⟩
  · exact ⟨_, _, _, _, rfl⟩

theorem foldl_unpinRecord (rs : List TrackRecord) : ∀ s : State, UnitsOnly s (rs.foldl State.unpinRecord s) := by
  induction rs with
  | nil => exact fun s => ⟨_, _, _, _, rfl⟩
  | cons r rs ih => exact fun s => (unpinRecord s r).trans (ih _)

theorem dropPlanned (s : State) (h : Head) : UnitsOnly s (s.dropPlanned h) :=
  (foldl_unpinRecord (s.heads[h].queue.filter fun r => !r.active) s).trans (modHead _ h _)

theorem stopNow (s : State) (h : Head) : UnitsOnly s (s.stopNow h) := (modHead s h _).trans (dropPlanned _ h)

theorem removeActive (s : State) (h : Head) (r : TrackRecord) : UnitsOnly s (s.removeActive h r) :=
  ((unpinRecord s r).trans (modHead _ h _)).trans (modPipe _ h _)

theorem closeTrack (s : State) (h : Head) (track : Nat) (owed : Bool) : UnitsOnly s (s.closeTrack h track owed) := by
  have hlast : UnitsOnly s (if track = s.lastTrack h then s.modHead h fun c => { c with complete := true } else s) := by
    split
    · exact modHead s h _
    · exact setDue s s.evr.due
  unfold State.closeTrack
  dsimp only
  split
  · exact hlast.trans (modHead _ h _)
  · exact hlast

/-- An occurrence of a kind with no routing action is raised alike in both. -/
theorem raise (hst : UnitsOnly s t) {k : EventKind} (hk : s.routeAction k = .none) (e : Word32) (m : BitVec 8) :
    UnitsOnly (s.raise k e m) (t.raise k e m) := by
  obtain ⟨heads, pipes, cca, d, rfl⟩ := hst
  have hk' : (s.withUnits heads pipes cca d).routeAction k = .none := hk
  refine ⟨heads, pipes, cca, d, ?_⟩
  unfold State.raise
  rw [if_pos hk, if_pos hk', State.recordEvent_withUnits]

/-- What the lane, EVR and the tables hold is the same. -/
theorem reads (hst : UnitsOnly s t) : t.lnk = s.lnk ∧ t.evr.records = s.evr.records ∧ t.tlm = s.tlm := by
  obtain ⟨_, _, _, _, rfl⟩ := hst
  exact ⟨rfl, rfl, rfl⟩

end State.UnitsOnly

/-! ## The end of a track with a defect (R117, R125) -/

/-- The two events of a DEFECT end: DEFECT_LIST_FULL where the list is full, and TRACK_DEFECT. -/
def State.defectEvents (s : State) (h : Head) (track : Nat) (x : DefectCause) (room : Bool) : State :=
  (if room then s else s.raiseHead h .defectListFull (defectDetail track x)).raiseHead h .trackDefect (defectDetail track x)

theorem State.UnitsOnly.countDefect {s t : State} (hst : State.UnitsOnly s t) (hno : s.noActions) (h : Head) (track : Nat)
    (x : DefectCause) :
    State.UnitsOnly (s.defectEvents h track x (decide (t.heads[h].defects.length < 16)))
      (t.countDefect h track x) := by
  have hcounted : State.UnitsOnly s (t.modHead h fun c => { c with tracksDefective := satInc c.tracksDefective }) :=
    hst.trans (.modHead t h _)
  have hdefects : (t.modHead h fun c => { c with tracksDefective := satInc c.tracksDefective }).heads[h].defects =
      t.heads[h].defects := by simp
  unfold State.defectEvents State.countDefect State.addDefect
  rw [hdefects]
  by_cases hroom : t.heads[h].defects.length < 16
  · rw [if_pos (decide_eq_true hroom), if_pos (show t.heads[h].defects.length < Config.defectEntries from hroom)]
    exact (hcounted.trans (.modHead _ h _)).raise (hno _) _ _
  · rw [if_neg (by simpa using hroom), if_neg (show ¬t.heads[h].defects.length < Config.defectEntries from hroom)]
    refine ((hcounted.trans (.modHead _ h _)).raise (hno _) _ _).raise ?_ _ _
    exact State.noActions_of_route (by simp) hno .trackDefect

/-- A halted head that engraves: its track ends, and it stops. -/
theorem State.haltHead_of_engaged {s : State} {h : Head} (hstate : s.heads[h].state = .engraving ∨ s.heads[h].state = .stopping)
    (x : DefectCause) : State.haltHead x h s = (s.endTrack h (some x)).stopNow h := by
  unfold State.haltHead
  rcases hstate with hstate | hstate <;> rw [hstate]

theorem Channel.activeRecord_of_queue {c : Channel} {r : TrackRecord} {rest : List TrackRecord} (hqueue : c.queue = r :: rest)
    (hr : r.active = true) : c.activeRecord = some r := by
  unfold Channel.activeRecord
  rw [hqueue]
  exact if_pos hr

theorem State.owesStep_of_active {s : State} {h : Head} {r : TrackRecord} (hr : s.heads[h].activeRecord = some r) :
    s.owesStep h = decide (r.track < s.lastTrack h ∧ s.heads[h].nextTrack = r.track) := by
  unfold State.owesStep
  rw [hr]

/-- A channel whose track ends with a defect and which then stops, its queue an ACTIVE record and PLANNED ones. -/
theorem Channel.ended_onlyActive {c : Channel} {r : TrackRecord} {rest : List TrackRecord} (hqueue : c.queue = r :: rest)
    (hrest : ∀ q ∈ rest, q.active = false) (o : Option DefectCause) (last owed : Bool) :
    (c.ended r.track o last owed).onlyActive = { c.ended r.track o last owed with queue := [] } := by
  have hnone : (rest.filter fun r => r.active) = [] := List.filter_eq_nil_iff.2 fun q hq => by simp [hrest q hq]
  have hended : (c.ended r.track o last owed).queue = rest := by
    cases o <;> simp [Channel.ended, Channel.counted, Channel.closed, hqueue]
  rw [Channel.onlyActive, hended, hnone]

section
variable {s : State} {h : Head} {r : TrackRecord} {rest : List TrackRecord} {x : DefectCause}
  (hstate : s.heads[h].state = .engraving ∨ s.heads[h].state = .stopping) (hqueue : s.heads[h].queue = r :: rest)
  (hactive : r.active = true)
include hstate hqueue hactive

/-- A head halted while it engraves: its channel, with the PLANNED records gone. -/
theorem State.haltHead_heads_of_engaged (hrest : ∀ q ∈ rest, q.active = false) :
    (State.haltHead x h s).heads = s.heads.set h
      { s.heads[h].ended r.track (some x) (decide (r.track = s.lastTrack h)) (s.owesStep h) with
        state := .stopped, queue := [] } := by
  have hr := Channel.activeRecord_of_queue hqueue hactive
  have hended := State.endTrack_head hr (some x)
  rw [State.haltHead_of_engaged hstate, State.stopNow_heads, hended, Channel.ended_onlyActive hqueue hrest,
    State.endTrack_heads hr, Vector.set_set]

theorem State.haltHead_pipes_of_engaged :
    (State.haltHead x h s).pipes = s.pipes.set h { s.pipes[h] with wearTerm := none } := by
  rw [State.haltHead_of_engaged hstate, ← State.endTrack_pipes (Channel.activeRecord_of_queue hqueue hactive) (some x)]
  simp

/-- Each of its records unpins its slot once. -/
theorem State.haltHead_unpins_of_engaged (hrest : ∀ q ∈ rest, q.active = false) :
    State.Unpins (r :: rest) s (State.haltHead x h s) := by
  have hr := Channel.activeRecord_of_queue hqueue hactive
  have hplanned : ((s.endTrack h (some x)).heads[h].queue.filter fun r => !r.active) = rest := by
    rw [State.endTrack_head hr]
    have hended (last owed : Bool) : (s.heads[h].ended r.track (some x) last owed).queue = rest := by
      simp only [Channel.ended, Channel.counted, Channel.closed, hqueue, List.tail_cons]
    exact (hended _ _).symm ▸ List.filter_eq_self.2 fun q hq => by simp [hrest q hq]
  rw [State.haltHead_of_engaged hstate]
  have hstop := State.Unpins.stopNow (s.endTrack h (some x)) h
  rw [hplanned] at hstop
  exact (State.Unpins.endTrack hr (some x)).trans hstop

/-- Beside its events it changes channels, pipelines and the cache alone. -/
theorem State.haltHead_events_of_engaged {b : State} (hno : b.noActions) (hb : State.UnitsOnly b s) :
    State.UnitsOnly (b.defectEvents h r.track x (decide (s.heads[h].defects.length < 16))) (State.haltHead x h s) := by
  have hr := Channel.activeRecord_of_queue hqueue hactive
  have hremoved : State.UnitsOnly b (s.removeActive h r) := hb.trans (.removeActive s h r)
  have hdefects : (s.removeActive h r).heads[h].defects = s.heads[h].defects := by simp [State.removeActive]
  rw [State.haltHead_of_engaged hstate, State.endTrack_of_active hr, ← hdefects]
  exact ((hremoved.countDefect hno h r.track x).trans (.closeTrack _ h _ _)).trans (.stopNow _ h)

end

/-- Settles O15: the track ends, its two events find the lane and the records that the reply left, and the head stops with no
record; JCU's check finds it STOPPED. -/
theorem headAbortEndsTrackAtOnce : Obligations.HeadAbortEndsTrackAtOnce := by
  unfold Obligations.HeadAbortEndsTrackAtOnce
  intro s tag head h r rest tick hhead htakes hjob henabled hno hstate hqueue hactive hrest c owed room a v w
  obtain ⟨u, hu, hjcu, htlm, hheads, hports, hpipes, hcca, hcfu, hstu, hdue⟩ := s.answered_reads tick tag 0x11 .accepted
  have huno : u.noActions := State.noActions_of_route (congrArg Tables.route htlm) hno
  have hano : a.noActions := by
    have hatlm : a.tlm = s.tlm := by rw [← htlm, ← hu]; rfl
    exact State.noActions_of_route (congrArg Tables.route hatlm) hno
  have howed : u.owesStep h = owed := by
    rw [State.owesStep_of_active (by rw [hheads]; exact Channel.activeRecord_of_queue hqueue hactive), hheads,
      State.lastTrack, htlm]
    rfl
  have hlast : u.lastTrack h = s.lastTrack h := by rw [State.lastTrack, htlm]; rfl
  rw [← hheads] at hstate hqueue
  have hheads' := State.haltHead_heads_of_engaged (x := .aborted) hstate hqueue hactive hrest
  have hpipes' := State.haltHead_pipes_of_engaged (x := .aborted) hstate hqueue hactive
  have hslots := State.haltHead_unpins_of_engaged (x := .aborted) hstate hqueue hactive hrest
  have hevents := State.haltHead_events_of_engaged (x := .aborted) hstate hqueue hactive hano
    (show State.UnitsOnly a u from hu ▸ .setDue a [])
  have hmoves := State.haltHead_moves .aborted h u
  have hsilent : State.Silent [] (State.haltHead .aborted h u) := (hdue ▸ huno.silent).haltHead _ h
  have hkeeps : (State.haltHead .aborted h u).jcu = s.jcu ∧ (State.haltHead .aborted h u).tlm = s.tlm ∧
      (State.haltHead .aborted h u).stu = s.stu ∧ (State.haltHead .aborted h u).cfu = s.cfu ∧
      (State.haltHead .aborted h u).ports = s.ports ∧ (State.haltHead .aborted h u).cca.lru = s.cca.lru ∧
      (State.haltHead .aborted h u).cca.samples = s.cca.samples := by
    rw [← hjcu, ← htlm, ← hstu, ← hcfu, ← hports, ← hcca]
    simp
  have hcheck : u.withCheck h (State.haltHead .aborted h) = State.haltHead .aborted h u := by
    refine State.withCheck_of_unfinished (by rwa [hkeeps.1]) (by rw [State.enabled, hkeeps.2.1]; exact henabled) ?_
    rw [hmoves.heads.self]
    rcases hstate with hstate | hstate <;> rw [hstate] <;> nofun
  have hexec : exec (.headAbort tag head tick) s = .next ((State.haltHead .aborted h u).setDue a.evr.due) := by
    rw [exec_headAbort_of_takes tick htakes, State.takeHeadAbort, State.forHead_of_toNat _ _ _ hhead, if_pos,
      State.within_eq_of_no_due (t := State.haltHead .aborted h u) (by rw [hu, hcheck]) hsilent.due]
    rw [hheads] at hstate
    rcases hstate with hstate | hstate <;> simp only [State.taken_keeps, hstate] <;> rfl
  generalize State.haltHead .aborted h u = x at hheads' hpipes' hslots hevents hkeeps hexec
  obtain ⟨hxjcu, hxtlm, hxstu, hxcfu, hxports, hxlru, hxsamples⟩ := hkeeps
  obtain ⟨hxlnk, hxrecords, -⟩ := hevents.reads
  obtain ⟨t, ht, htjcu, httlm, htheads, htports, htpipes, htcca, htcfu, htstu, htlnk, htrecords⟩ :=
    x.setDue_reads a.evr.due
  rw [ht] at hexec
  rw [hheads] at hxlnk hxrecords
  refine ⟨t, hexec, ?_, ?_, ?_, ?_, fun n => ?_, ?_⟩
  · rw [htheads, hheads', hheads, howed, hlast]
    simp only [Channel.ended, Channel.counted, Channel.closed, room, c, decide_eq_true_eq]
  · rw [htpipes, hpipes', hpipes]
  · rw [htlnk, hxlnk]
    rfl
  · rw [htrecords, hxrecords]
    rfl
  · rw [htcca, hslots n, hcca]
  · rw [htcca, htjcu, httlm, htstu, htcfu, htports]
    exact ⟨hxlru, hxsamples, hxjcu, hxtlm, hxstu, hxcfu, hxports⟩

end Sys2Proof.Machine

/-! One head at an index while the other heads, the job and the spindle go on: what they leave of it is its channel, port and
pipeline, the tables but for the pending commits, the slots but for their pins, and its mark in the record of TRACK_DONE. -/

namespace Sys2Proof.Machine

/-! ## The mark of a head in the record of TRACK_DONE (R177) -/

/-- The head is named by the pending record of TRACK_DONE. -/
def State.marked (s : State) (h : Head) : Bool :=
  match s.evr.records[EventKind.trackDone.num] with
  | none => false
  | some p => p.mask.getLsbD h

/-- While the lane is not free, the lane and the mark of a head are left. -/
def State.MarkKept (h : Head) (s t : State) : Prop :=
  s.laneFree = false → t.laneFree = false ∧ t.marked h = s.marked h

/-- One more occurrence in a record. -/
theorem getLsbD_gather (before : Option Pending) (d : Word32) (m : BitVec 8) (i : Nat) :
    (gather before d m).mask.getLsbD i =
      ((match before with | none => false | some p => p.mask.getLsbD i) || m.getLsbD i) := by
  cases before with
  | none => simp [gather]
  | some p => simp [gather]

theorem headMark_of_ne {g h : Head} (hg : g ≠ h) : (headMark g).getLsbD h = false := by
  revert g h
  decide

theorem headMark_self (h : Head) : (headMark h).getLsbD h = true := by
  revert h
  decide

/-- The mark of a head after one occurrence while the lane is not free. -/
theorem State.marked_raise {s : State} (hbusy : s.laneFree = false) (h : Head) (k : EventKind) (d : Word32) (m : BitVec 8) :
    (s.raise k d m).laneFree = false ∧
    (s.raise k d m).marked h =
      (s.marked h || (decide (k = .trackDone) && decide (s.level .trackDone ≠ 0) && m.getLsbD h)) := by
  obtain ⟨hlnk, hrecords⟩ := State.raise_gathers hbusy k d m
  refine ⟨by rw [State.laneFree, hlnk]; exact hbusy, ?_⟩
  unfold State.marked
  rw [hrecords]
  by_cases hk : k = .trackDone
  · subst hk
    rw [State.gathered_self]
    by_cases hlevel : s.level .trackDone = 0
    · simp [hlevel]
    · rw [if_neg hlevel, decide_eq_true rfl, decide_eq_true hlevel, Bool.true_and, Bool.true_and]
      exact getLsbD_gather _ d m h
  · rw [State.gathered_other _ hk]
    simp [hk]

namespace State.MarkKept

variable {h : Head} {s t u : State}

theorem of_same (hlane : t.laneFree = s.laneFree) (hrecords : t.evr.records = s.evr.records) : MarkKept h s t :=
  fun hbusy => ⟨hlane.trans hbusy, by rw [State.marked, hrecords]; rfl⟩

theorem of_lnk (hlnk : t.lnk = s.lnk) (hrecords : t.evr.records = s.evr.records) : MarkKept h s t :=
  of_same (by rw [State.laneFree, hlnk]; rfl) hrecords

theorem refl (s : State) : MarkKept h s s := of_same rfl rfl

theorem trans (hst : MarkKept h s t) (htu : MarkKept h t u) : MarkKept h s u := fun hbusy => by
  obtain ⟨hlane, hmark⟩ := hst hbusy
  obtain ⟨hlane', hmark'⟩ := htu hlane
  exact ⟨hlane', hmark'.trans hmark⟩

/-- An occurrence of another kind. -/
theorem raise (s : State) {k : EventKind} (hk : k ≠ .trackDone) (d : Word32) (m : BitVec 8) :
    MarkKept h s (s.raise k d m) := fun hbusy => by
  obtain ⟨hlane, hmark⟩ := State.marked_raise hbusy h k d m
  exact ⟨hlane, by rw [hmark]; simp [hk]⟩

/-- An occurrence of another head. -/
theorem raiseHead (s : State) {g : Head} (hg : g ≠ h) (k : EventKind) (d : Word32) :
    MarkKept h s (s.raiseHead g k d) := fun hbusy => by
  obtain ⟨hlane, hmark⟩ := State.marked_raise hbusy h k d (headMark g)
  exact ⟨hlane, by rw [State.raiseHead, hmark, headMark_of_ne hg]; simp⟩

theorem countDefect (s : State) (g : Head) (track : Nat) (c : DefectCause) :
    MarkKept h s (s.countDefect g track c) := by
  have hadd (t : State) : MarkKept h t (t.addDefect g track c) := by
    unfold State.addDefect
    split
    · exact of_same rfl rfl
    · exact trans (of_same (t := t.modHead g fun x => { x with overflow := satInc x.overflow }) rfl rfl)
        (raise _ (k := .defectListFull) nofun _ _)
  exact trans (trans (of_same (t := s.modHead g fun x => { x with tracksDefective := satInc x.tracksDefective }) rfl rfl)
    (hadd _)) (raise _ (k := .trackDefect) nofun _ _)

theorem countDone (s : State) {g : Head} (hg : g ≠ h) (track : Nat) : MarkKept h s (s.countDone g track) := by
  have hcounted : MarkKept h s (s.modHead g fun c => { c with tracksDone := satInc c.tracksDone }) := of_same rfl rfl
  unfold State.countDone
  dsimp only
  split
  · exact hcounted.trans (raiseHead _ hg _ _)
  · exact hcounted

/-- The end of a track with a defect, or of another head's. -/
theorem endTrack (s : State) {g : Head} {o : Option DefectCause} (ho : g ≠ h ∨ o ≠ none) :
    MarkKept h s (s.endTrack g o) := by
  cases hr : s.heads[g].activeRecord with
  | none =>
    rw [State.endTrack_of_none hr]
    exact refl s
  | some r =>
    have hremoved : MarkKept h s (s.removeActive g r) := of_lnk (by simp) (by simp)
    have hcounted : MarkKept h (s.removeActive g r) ((s.removeActive g r).countEnd g r.track o) := by
      cases o with
      | none => exact countDone _ (ho.resolve_right fun hne => hne rfl) _
      | some c => exact countDefect _ g _ c
    rw [State.endTrack_of_active hr]
    exact (hremoved.trans hcounted).trans (of_lnk (by simp) (by simp))

theorem afterEnd (s : State) (g : Head) (track : Nat) (stopping owed : Bool) :
    MarkKept h s (s.afterEnd g track stopping owed) := by
  unfold State.afterEnd
  split
  · exact trans (t := (s.setHeadState g .finished).dropPlanned g) (of_lnk (by simp) (by simp))
      (raise _ (k := .headParked) nofun _ _)
  · split
    · exact of_lnk (by simp) (by simp)
    · exact of_lnk (by simp) (by simp)

theorem testStart (s : State) (g : Head) : MarkKept h s (s.testStart g) := by
  unfold State.testStart
  split
  · exact of_same rfl rfl
  · have hidle (d : Word32) : MarkKept h s
        ((s.modHead g fun c => { c with wait := c.wait + 1, idleRevs := satInc c.idleRevs }).raiseHead g .idleRev d) :=
      trans (of_same (t := s.modHead g fun c => { c with wait := c.wait + 1, idleRevs := satInc c.idleRevs }) rfl rfl)
        (raise _ (k := .idleRev) nofun _ _)
    have hstalled (t : State) : MarkKept h t ((t.setHeadState g .stalled).dropPlanned g) := of_lnk (by simp) (by simp)
    unfold State.idleRevolution
    dsimp only
    split
    · exact ((hidle _).trans (hstalled _)).trans (raise _ (k := .headStalled) nofun _ _)
    · exact hidle _

theorem indexHead (s : State) {g : Head} (hg : g ≠ h) : MarkKept h s (State.indexHead g s) := by
  unfold State.indexHead
  split
  · split
    · exact refl s
    · dsimp only
      split
      · exact ((endTrack s (.inl hg)).trans (afterEnd _ g _ _ _)).trans (testStart _ g)
      · exact (endTrack s (.inl hg)).trans (afterEnd _ g _ _ _)
  · split
    · exact testStart s g
    · exact refl s

theorem shortRevHead (s : State) (a b : Bool) (g : Head) : MarkKept h s (State.shortRevHead a b g s) := by
  unfold State.shortRevHead
  dsimp only
  split
  all_goals
    split
    · split
      · exact refl s
      · exact (endTrack s (g := g) (o := some .shortRev) (.inr nofun)).trans (afterEnd _ g _ _ _)
    · exact refl s

theorem applyPending (s : State) (o : Occasion) : MarkKept h s (s.applyPending o) := by
  unfold State.applyPending State.applyCommit
  split
  · exact refl s
  · exact trans (of_same (t := { s with tlm := s.tlm.copyShadows s.tlm.gradPending s.tlm.calPending }) rfl rfl)
      (raise _ (k := .commitApplied) nofun _ _)

theorem setJob (s : State) (new : JobState) (c : JobCause) : MarkKept h s (s.setJob new c) := by
  have hraised := trans (of_same (h := h) (s := s) (t := { s with jcu := { s.jcu with state := new } }) rfl rfl)
    (raise _ (k := .jobState) nofun (jobStateDetail s.jcu.state new c) 0)
  unfold State.setJob
  dsimp only
  split
  · exact hraised.trans (applyPending _ _)
  · exact hraised

theorem headsCheck (s : State) : MarkKept h s s.headsCheck := by
  unfold State.headsCheck
  split
  · split
    · exact setJob s _ _
    · exact refl s
  · split
    · split
      · exact setJob s _ _
      · exact refl s
    · exact refl s

theorem resolveRecord (s : State) (g : Head) (j : Nat) : MarkKept h s (State.resolveRecord g s j) := by
  unfold State.resolveRecord
  split
  · next key _ =>
    split
    · exact of_lnk (by simp) (by simp)
    · split
      · split
        · next n _ =>
          have hallocated : MarkKept h s (s.allocate n key 1) := of_lnk (by simp) (by simp)
          have hcreated (t : State) : MarkKept h t (t.createRequest key n) := fun hbusy => by
            unfold State.createRequest State.queueRequest
            dsimp only
            rw [State.arbitrate_of_lane_busy (by exact hbusy)]
            exact ⟨hbusy, rfl⟩
          exact (hallocated.trans (hcreated _)).trans (of_same rfl rfl)
        · exact raise s (k := .cacheConflict) nofun _ _
      · exact refl s
  all_goals exact refl s

theorem planningPass (s : State) : MarkKept h s s.planningPass := by
  have hrecords (g : Head) (js : List Nat) : ∀ t, MarkKept h t (js.foldl (State.resolveRecord g) t) := by
    induction js with
    | nil => exact fun t => refl t
    | cons j js ih => exact fun t => (resolveRecord t g j).trans (ih _)
  refine State.eachHead_inv (P := MarkKept h s) _ _ (fun g t ht => ht.trans ?_)
    (State.eachHead_inv (P := MarkKept h s) s _ (fun g t ht => ht.trans (of_lnk (by simp) (by simp))) (refl s))
  unfold State.resolveHead
  split
  · exact hrecords g _ t
  · exact refl t

end State.MarkKept

/-! ## What the rest of an index leaves of one head -/

/-- The head's channel, port and pipeline, its mark, the slots but for their pins, and the tables but for the pending
commits are the same; those are as they were or applied. -/
structure State.Aside (h : Head) (s t : State) : Prop where
  beside : State.Beside h s t
  mark : State.MarkKept h s t
  slots : t.cca.slots.map Slot.unpinned = s.cca.slots.map Slot.unpinned
  tables : t.tlm = s.tlm ∨ t.tlm = s.tlm.commitPending

namespace State.Aside

variable {h : Head} {s t u : State}

theorem refl (s : State) : Aside h s s := ⟨.of_same rfl rfl rfl, .refl s, rfl, .inl rfl⟩

theorem trans (hst : Aside h s t) (htu : Aside h t u) : Aside h s u := by
  refine ⟨hst.beside.trans htu.beside, hst.mark.trans htu.mark, htu.slots.trans hst.slots, ?_⟩
  rcases htu.tables with htu | htu <;> rcases hst.tables with hst | hst
  · exact .inl (htu.trans hst)
  · exact .inr (htu.trans hst)
  · exact .inr (by rw [htu, hst])
  · exact .inr (by rw [htu, hst, Tables.commitPending_commitPending])

/-- The cache, the tables and all that a head has are left. -/
theorem of_same (hmark : MarkKept h s t) (hheads : t.heads = s.heads) (hports : t.ports = s.ports)
    (hpipes : t.pipes = s.pipes) (hcca : t.cca = s.cca) (htlm : t.tlm = s.tlm) : Aside h s t :=
  ⟨.of_same hheads hports hpipes, hmark, by rw [hcca], .inl htlm⟩

theorem setDue (s : State) (d : List DueAction) : Aside h s (s.setDue d) :=
  of_same (.of_same rfl rfl) rfl rfl rfl rfl rfl

theorem raise (s : State) {k : EventKind} (hk : k ≠ .trackDone) (d : Word32) (m : BitVec 8) :
    Aside h s (s.raise k d m) :=
  of_same (.raise s hk d m) (by simp) (by simp) (by simp) (by simp) (by simp)

theorem applyPending (s : State) (o : Occasion) : Aside h s (s.applyPending o) :=
  ⟨.of_same (by simp) (by simp) (by simp), .applyPending s o, by simp, .inr (s.applyPending_tlm o)⟩

theorem setJob (s : State) (new : JobState) (c : JobCause) : Aside h s (s.setJob new c) := by
  refine ⟨.of_same (by simp) (by simp) (by simp), .setJob s new c, by simp, ?_⟩
  rw [(s.setJob_jcu_tlm new c).2]
  unfold Tables.afterJob
  split
  · exact .inr rfl
  · exact .inl rfl

theorem headsCheck (s : State) : Aside h s s.headsCheck := by
  unfold State.headsCheck
  split
  · split
    · exact setJob s _ _
    · exact refl s
  · split
    · split
      · exact setJob s _ _
      · exact refl s
    · exact refl s

/-- JCU's check of a change that is passed to it. -/
theorem withCheck (s : State) (g : Head) (f : State → State) : Aside h (f s) (s.withCheck g f) := by
  unfold State.withCheck
  dsimp only
  split
  · exact refl _
  · exact headsCheck _

/-- A part of an event that calls for no action. -/
theorem within {f : State → State} (hsilent : State.Silent [] (f (s.setDue [])))
    (hf : Aside h (s.setDue []) (f (s.setDue []))) : Aside h s (s.within f) := by
  rw [hsilent.within]
  exact ((setDue s []).trans hf).trans (setDue _ _)

/-! ### The other heads -/

theorem indexHead (s : State) {g : Head} (hg : g ≠ h) : Aside h s (State.indexHead g s) :=
  ⟨State.Only.indexHead g s h (Ne.symm hg), .indexHead s hg, by simp, .inl (by simp)⟩

theorem shortRevHead (s : State) (a b : Bool) {g : Head} (hg : g ≠ h) : Aside h s (State.shortRevHead a b g s) :=
  ⟨State.Only.shortRevHead a b g s h (Ne.symm hg), .shortRevHead s a b g, by simp, .inl (by simp)⟩

/-- The eight heads in turn, each change passed to JCU: head `h` makes its own in a state that is aside of the first, and the
last state is aside of the one that it makes. -/
theorem eachHead {f : Head → State → State} (hf : ∀ g ≠ h, ∀ t, Aside h t (f g t)) (s : State) :
    ∃ u, Aside h s u ∧ Aside h (f h u) (s.eachHead fun g t => t.withCheck g (f g)) := by
  obtain ⟨u, hbefore, hafter⟩ := State.eachHead_at (R := Aside h) refl (fun _ _ _ => trans)
    (fun g t => t.withCheck g (f g)) h (fun g hg t => (hf g hg t).trans (withCheck t g (f g))) s
  exact ⟨u, hbefore, (withCheck u h (f h)).trans hafter⟩

end State.Aside

end Sys2Proof.Machine

/-! What an index makes of a head that engraves: its track ends with an outcome, the head goes on to its next state, and a
head that then waits has its start conditions tested (R113, R114, R117 to R119, R125, R181). -/

namespace Sys2Proof.Machine

/-! ## The channel after a track end -/

/-- The channel of a head whose track has ended at an index or by a short revolution (R118, R119). -/
def Channel.afterEnd (c : Channel) (last stopping : Bool) : Channel :=
  if last then { c.onlyActive with state := .finished }
  else if stopping then { c.onlyActive with state := .stopped }
  else { c with state := .waiting, wait := 0 }

theorem State.afterEnd_head (s : State) (h : Head) (track : Nat) (stopping owed : Bool) :
    (s.afterEnd h track stopping owed).heads[h] = s.heads[h].afterEnd (decide (track = s.lastTrack h)) stopping := by
  unfold State.afterEnd Channel.afterEnd
  by_cases hlast : track = s.lastTrack h
  · rw [if_pos hlast, if_pos (decide_eq_true hlast), State.park_heads]
    exact Vector.getElem_set_self h.isLt
  · rw [if_neg hlast, decide_eq_false hlast]
    cases stopping
    · unfold State.waitAfterEnd
      cases owed <;> simp [State.raiseStep]
    · rw [if_pos rfl, if_neg Bool.false_ne_true, if_pos rfl, State.stopNow_heads]
      exact Vector.getElem_set_self h.isLt

/-- A step owed is raised where the head waits. -/
theorem State.afterEnd_step (s : State) (h : Head) (track : Nat) (stopping owed : Bool) :
    (s.afterEnd h track stopping owed).ports[h].step =
      (s.ports[h].step || (decide (track ≠ s.lastTrack h) && !stopping && owed)) := by
  unfold State.afterEnd
  by_cases hlast : track = s.lastTrack h
  · simp [hlast]
  · cases stopping
    · unfold State.waitAfterEnd
      cases owed <;> simp [hlast, State.raiseStep]
    · simp [hlast]

/-! ## The start conditions -/

/-- The first start condition that fails, for a channel and what is ready to start (R113, R114). -/
def Channel.startFailure (c : Channel) (ready : TrackRecord → Bool) : Option IdleReason :=
  match c.queue with
  | [] => some .unresolved
  | r :: _ => if ready r then if c.positioned then none else some .notPositioned else some .unresolved

theorem State.startFailure_eq (s : State) (h : Head) :
    s.startFailure h = s.heads[h].startFailure s.readyToStart := by
  unfold State.startFailure Channel.startFailure
  rfl

/-- The channel after the start conditions are applied to it: it engraves, rests a revolution, or stalls (R113, R114). -/
def Channel.tested (c : Channel) (limit : Nat) : Option IdleReason → Channel
  | none => { c with state := .engraving, wait := 0, queue := activateFirst c.queue }
  | some _ =>
    let d := { c with wait := c.wait + 1, idleRevs := satInc c.idleRevs }
    if limit < c.wait + 1 then { d.onlyActive with state := .stalled } else d

theorem State.testStart_head (s : State) (h : Head) :
    (s.testStart h).heads[h] = s.heads[h].tested s.waitLimit (s.startFailure h) := by
  unfold State.testStart
  cases s.startFailure h with
  | none => simp [State.startTrack, Channel.tested]
  | some r =>
    unfold State.idleRevolution Channel.tested
    by_cases hlimit : s.waitLimit < s.heads[h].wait + 1
    · dsimp only
      rw [if_pos hlimit, if_pos hlimit]
      simp [State.dropPlanned_heads, Channel.onlyActive]
    · dsimp only
      rw [if_neg hlimit, if_neg hlimit]
      simp

theorem State.testStart_wearTerm (s : State) (h : Head) :
    (s.testStart h).pipes[h].wearTerm =
      if s.startFailure h = none then some (wearTermOf s.tlm.calsActive[h] s.tlm.wear[h]) else s.pipes[h].wearTerm := by
  unfold State.testStart
  cases s.startFailure h with
  | none => simp [State.startTrack]
  | some r => simp

/-- What is ready to start is a matter of the slots but for their pins. -/
theorem State.readyToStart_of_unpinned {s t : State}
    (h : t.cca.slots.map Slot.unpinned = s.cca.slots.map Slot.unpinned) : t.readyToStart = s.readyToStart := by
  have hslot (n : Fin 64) : t.cca.slots[n].state = s.cca.slots[n].state := by
    have hn := congrArg (fun v : Vector Slot 64 => v[n].state) h
    simpa [Slot.unpinned] using hn
  funext r
  unfold State.readyToStart
  split
  · rfl
  · rfl
  · rw [hslot]

/-! ## The mark of TRACK_DONE (R181) -/

/-- The prescale allows the TRACK_DONE of a DONE end of the head. -/
def State.doneMarks (s : State) (h : Head) : Bool :=
  decide (s.prescale h ≠ 0 ∧ s.heads[h].tracksDone.toNat < 2 ^ 32 - 1 ∧
    (s.heads[h].tracksDone.toNat + 1) % s.prescale h = 0)

theorem State.doneMarks_iff (s : State) (h : Head) :
    s.doneMarks h = true ↔ s.prescale h ≠ 0 ∧ s.heads[h].tracksDone ≠ BitVec.allOnes 32 ∧
      (satInc s.heads[h].tracksDone).toNat % s.prescale h = 0 := by
  have hfull : s.heads[h].tracksDone = BitVec.allOnes 32 ↔ s.heads[h].tracksDone.toNat = 2 ^ 32 - 1 := by
    rw [← BitVec.toNat_inj, BitVec.toNat_allOnes]
  have hlt := s.heads[h].tracksDone.isLt
  have hinc (hne : s.heads[h].tracksDone ≠ BitVec.allOnes 32) :
      (satInc s.heads[h].tracksDone).toNat = s.heads[h].tracksDone.toNat + 1 := by
    rw [satInc, if_neg hne, BitVec.toNat_add]
    rw [Ne, hfull] at hne
    exact Nat.mod_eq_of_lt (show s.heads[h].tracksDone.toNat + 1 < 2 ^ 32 by omega)
  rw [State.doneMarks, decide_eq_true_iff]
  refine and_congr_right fun _ => ⟨fun ⟨hless, hmod⟩ => ?_, fun ⟨hne, hmod⟩ => ?_⟩
  · have hne : s.heads[h].tracksDone ≠ BitVec.allOnes 32 := fun he => by have := hfull.1 he; omega
    exact ⟨hne, by rw [hinc hne]; exact hmod⟩
  · rw [hinc hne] at hmod
    rw [Ne, hfull] at hne
    exact ⟨by omega, hmod⟩

/-- A DONE end marks its head where the prescale allows it. -/
theorem State.countDone_marked {s : State} (hbusy : s.laneFree = false) (hlevel : s.level .trackDone ≠ 0) (h : Head)
    (track : Nat) :
    (s.countDone h track).laneFree = false ∧ (s.countDone h track).marked h = (s.marked h || s.doneMarks h) := by
  have hdoneMarks := s.doneMarks_iff h
  unfold State.countDone
  dsimp only
  split
  · next hyes =>
    obtain ⟨hlane, hmark⟩ := State.marked_raise
      (s := s.modHead h fun c => { c with tracksDone := satInc c.tracksDone }) hbusy h .trackDone (trackDetail track)
      (headMark h)
    refine ⟨hlane, hmark.trans ?_⟩
    rw [hdoneMarks.2 hyes, headMark_self, decide_eq_true (show (s.modHead h _).level .trackDone ≠ 0 from hlevel)]
    simp
  · next hno =>
    rw [Bool.eq_false_iff.2 (mt hdoneMarks.1 hno), Bool.or_false]
    exact ⟨hbusy, rfl⟩

/-- The mark after a track end with an outcome. -/
theorem State.endTrack_marked {s : State} {h : Head} {r : TrackRecord} (hr : s.heads[h].activeRecord = some r)
    (hbusy : s.laneFree = false) (hlevel : s.level .trackDone ≠ 0) (o : Option DefectCause) :
    (s.endTrack h o).laneFree = false ∧
    (s.endTrack h o).marked h = (s.marked h || (o.isNone && s.doneMarks h)) := by
  cases o with
  | some x =>
    simpa using State.MarkKept.endTrack (h := h) s (g := h) (o := some x) (.inr nofun) hbusy
  | none =>
    have hremoved : State.MarkKept h s (s.removeActive h r) := .of_lnk (by simp) (by simp)
    obtain ⟨hlane, hmark⟩ := hremoved hbusy
    have hlevel' : (s.removeActive h r).level .trackDone ≠ 0 := by
      rwa [State.level, show (s.removeActive h r).tlm = s.tlm by simp]
    obtain ⟨hlane', hmark'⟩ := State.countDone_marked hlane hlevel' h r.track
    have hclosed : State.MarkKept h ((s.removeActive h r).countDone h r.track) (s.endTrack h none) := by
      rw [State.endTrack_of_active hr]
      exact .of_lnk (by simp [State.countEnd]) (by simp [State.countEnd])
    obtain ⟨hlane'', hmark''⟩ := hclosed hlane'
    have hdoneMarks : (s.removeActive h r).doneMarks h = s.doneMarks h := by
      unfold State.doneMarks State.prescale
      simp [State.removeActive]
    exact ⟨hlane'', by rw [hmark'', hmark', hmark, hdoneMarks]; simp⟩

end Sys2Proof.Machine

/-! An index arrival as one head sees it: the end of its track, by the short revolution or by the index, the test of its
start conditions under the tables with the pending commits applied, its phase, and the planning pass (R95, R100, R113, R118,
R119, R129, R161). -/

namespace Sys2Proof.Machine

/-! ## The end of the head's track -/

/-- A head's track ends with an outcome, and the head goes on to its next state. -/
def State.endHead (h : Head) (r : TrackRecord) (o : Option DefectCause) (s : State) : State :=
  (s.endTrack h o).afterEnd h r.track (s.heads[h].state == .stopping) (s.owesStep h)

/-- What head `h` has once its ACTIVE track has ended with an outcome: channel, STEP line, wear term and mark; the slots and
the tables are as far as an index moves them. -/
structure State.AtEnd (h : Head) (r : TrackRecord) (o : Option DefectCause) (s w : State) : Prop where
  head : w.heads[h] =
    (s.heads[h].ended r.track o (decide (r.track = s.lastTrack h)) (s.owesStep h)).afterEnd
      (decide (r.track = s.lastTrack h)) (s.heads[h].state == .stopping)
  step : w.ports[h].step = (s.ports[h].step ||
    (decide (r.track ≠ s.lastTrack h) && !(s.heads[h].state == .stopping) && s.owesStep h))
  wear : w.pipes[h].wearTerm = none
  mark : s.laneFree = false → s.level .trackDone ≠ 0 →
    w.laneFree = false ∧ w.marked h = (s.marked h || (o.isNone && s.doneMarks h))
  slots : w.cca.slots.map Slot.unpinned = s.cca.slots.map Slot.unpinned
  tables : w.tlm = s.tlm ∨ w.tlm = s.tlm.commitPending

/-- The tables that a head's index reads beside the active copies. -/
theorem State.Aside.reads {h : Head} {s t : State} (hst : State.Aside h s t) :
    t.tlm.setups = s.tlm.setups ∧ t.tlm.layout = s.tlm.layout ∧ t.tlm.route = s.tlm.route := by
  rcases hst.tables with htlm | htlm <;> rw [htlm] <;> exact ⟨rfl, rfl, rfl⟩

namespace State.AtEnd

variable {h : Head} {r : TrackRecord} {o : Option DefectCause} {s t w : State}

theorem of_endHead (hr : s.heads[h].activeRecord = some r) (o : Option DefectCause) :
    AtEnd h r o s (State.endHead h r o s) := by
  have hlast : (s.endTrack h o).lastTrack h = s.lastTrack h := by simp [State.lastTrack]
  have hports : (s.endTrack h o).ports = s.ports := by simp
  have hafter := State.MarkKept.afterEnd (h := h) (s.endTrack h o) h r.track (s.heads[h].state == .stopping) (s.owesStep h)
  refine ⟨?_, ?_, ?_, fun hbusy hlevel => ?_, by simp [State.endHead], .inl (by simp [State.endHead])⟩
  · rw [State.endHead, State.afterEnd_head, hlast, State.endTrack_head hr]
  · rw [State.endHead, State.afterEnd_step, hlast, hports]
  · have hpipes : (State.endHead h r o s).pipes = (s.endTrack h o).pipes := by simp [State.endHead]
    rw [hpipes, State.endTrack_pipes hr]
    simp
  · obtain ⟨hlane, hmark⟩ := State.endTrack_marked hr hbusy hlevel o
    obtain ⟨hlane', hmark'⟩ := hafter hlane
    exact ⟨hlane', hmark'.trans hmark⟩

/-- It stands while the rest of the index goes on. -/
theorem aside (hend : AtEnd h r o s w) (hwt : State.Aside h w t) : AtEnd h r o s t := by
  obtain ⟨hhead, hport, hpipe⟩ := hwt.beside
  refine ⟨hhead.trans hend.head, by rw [hport, hend.step], by rw [hpipe, hend.wear], fun hbusy hlevel => ?_,
    hwt.slots.trans hend.slots, ?_⟩
  · obtain ⟨hlane, hmark⟩ := hend.mark hbusy hlevel
    obtain ⟨hlane', hmark'⟩ := hwt.mark hlane
    exact ⟨hlane', hmark'.trans hmark⟩
  · rcases hwt.tables with htlm | htlm <;> rcases hend.tables with hw | hw
    · exact .inl (htlm.trans hw)
    · exact .inr (htlm.trans hw)
    · exact .inr (by rw [htlm, hw])
    · exact .inr (by rw [htlm, hw, Tables.commitPending_commitPending])

/-- It is the same from any state that is aside of the first. -/
theorem of_aside (hst : State.Aside h s t) (hend : AtEnd h r o t w) : AtEnd h r o s w := by
  obtain ⟨hsetups, -, hroute⟩ := hst.reads
  obtain ⟨hhead, hport, -⟩ := hst.beside
  have hlast : t.lastTrack h = s.lastTrack h := by rw [State.lastTrack, hsetups]; rfl
  have howes : t.owesStep h = s.owesStep h := by rw [State.owesStep, hhead, hlast]; rfl
  have hdoneMarks : t.doneMarks h = s.doneMarks h := by rw [State.doneMarks, State.prescale, hhead, hsetups]; rfl
  have hlevel : t.level .trackDone = s.level .trackDone := by rw [State.level, hroute]; rfl
  refine ⟨by rw [hend.head, hhead, hlast, howes], by rw [hend.step, hhead, hport, hlast, howes], hend.wear,
    fun hbusy hne => ?_, hend.slots.trans hst.slots, ?_⟩
  · obtain ⟨hlane, hmark⟩ := hst.mark hbusy
    rw [← hmark, ← hdoneMarks]
    exact hend.mark hlane (by rwa [hlevel])
  · rcases hend.tables with hw | hw <;> rcases hst.tables with htlm | htlm
    · exact .inl (hw.trans htlm)
    · exact .inr (hw.trans htlm)
    · exact .inr (by rw [hw, htlm])
    · exact .inr (by rw [hw, htlm, Tables.commitPending_commitPending])

end State.AtEnd

/-! ## The end of the revolution (R100, R119) -/

/-- The revolution in progress drops cells of the head's phase. -/
def State.drops (s : State) (h : Head) : Bool :=
  match s.stu.rev with
  | none => false
  | some v => match s.ports[h].phase with | .a => decide (v.posA < v.cells) | .b => decide (v.posB < v.cells)

/-- A head that engraves, under the notice of a short revolution. -/
theorem State.shortRevHead_engaged {s : State} {h : Head} {r : TrackRecord} (hr : s.heads[h].activeRecord = some r)
    (hengaged : s.heads[h].state.engaged = true) (a b : Bool) :
    State.shortRevHead a b h s =
      if (match s.ports[h].phase with | .a => a | .b => b) then State.endHead h r (some .shortRev) s else s := by
  unfold State.shortRevHead
  rw [hr, hengaged]
  cases s.ports[h].phase <;> rfl

namespace State.Silent

variable {s : State}

theorem shortNotice (h : Silent [] s) (r : Revolution) : Silent [] (s.shortNotice r) :=
  State.eachHead_inv _ _ (fun g _ ht => Silent.withCheck g _ (ht.shortRevHead _ _ g)) h

/-- A part of an event in an event that has called for no action yet. -/
theorem within_silent (h : Silent [] s) {f : State → State} (hf : Silent [] (f (s.setDue []))) : Silent [] (s.within f) := by
  rw [hf.within, h.due]
  exact hf.setDue []

theorem endRevolution (h : Silent [] s) : Silent [] s.endRevolution := by
  unfold State.endRevolution
  split
  · exact h
  · split
    · exact h
    · exact (h.within_silent ((h.setDue []).raise (k := .shortRev) nofun _ _)).shortNotice _

theorem raiseSpindle (h : Silent [] s) (before : SpindleState) (p : Nat) : Silent [] (State.raiseSpindle before p s) := by
  unfold State.raiseSpindle
  split
  · exact h
  · split
    · exact h.within_silent ((h.setDue []).raise (k := .spinLocked) nofun _ _)
    · exact h.within_silent ((h.setDue []).raise (k := .spinOffSpeed) nofun _ _)
    · exact h
    · exact h

/-- An arrival up to its users, where the spindle does not fall out of LOCKED. -/
theorem measured (h : Silent [] s) (htol : s.stu.state = .locked → s.inTolerance s.period = true) :
    Silent [] s.measured := by
  rw [State.measured, State.passSpindle_measureIndex htol]
  exact (h.of_same (t := s.measureIndex) rfl rfl).raiseSpindle _ _

theorem serveIndex (h : Silent [] s) : Silent [] s.serveIndex := by
  have happlied := h.within_silent (f := fun u => u.applyPending .index) ((h.setDue []).applyPending .index)
  have hheads := State.eachHead_inv _ (fun g t => t.withCheck g (State.indexHead g))
    (fun g _ ht => Silent.withCheck g _ (ht.indexHead g)) happlied
  exact (State.eachHead_inv _ State.setPhase (fun _ _ ht => ht.of_same rfl rfl) hheads).planningPass

end State.Silent

/-- The end of a revolution ends the head's track where it drops cells of its phase, and is otherwise aside of the head. -/
theorem State.endRevolution_at {s : State} {h : Head} {r : TrackRecord} (hsilent : State.Silent [] s)
    (hr : s.heads[h].activeRecord = some r) (hengaged : s.heads[h].state.engaged = true) :
    (s.drops h = false → State.Aside h s s.endRevolution) ∧
    (s.drops h = true → State.AtEnd h r (some .shortRev) s s.endRevolution) := by
  unfold State.endRevolution
  cases hrev : s.stu.rev with
  | none => simpa [State.drops, hrev] using State.Aside.refl s
  | some v =>
    dsimp only
    have hdrops : s.drops h =
        (match s.ports[h].phase with | .a => decide (0 < v.undueA) | .b => decide (0 < v.undueB)) := by
      unfold State.drops Revolution.undueA Revolution.undueB
      rw [hrev]
      cases s.ports[h].phase <;> simp
    split
    · next hwhole =>
      obtain ⟨ha, hb⟩ : v.undueA = 0 ∧ v.undueB = 0 := by
        unfold Revolution.undue at hwhole
        omega
      have hnone : s.drops h = false := by
        rw [hdrops, ha, hb]
        cases s.ports[h].phase <;> rfl
      exact ⟨fun _ => .refl s, fun hyes => by rw [hnone] at hyes; cases hyes⟩
    · have hraised : State.Aside h s (s.within fun u => u.raisePlain .shortRev (plainDetail v.undue)) :=
        .within ((hsilent.setDue []).raise (k := .shortRev) nofun _ _) (.raise _ (k := .shortRev) nofun _ _)
      obtain ⟨u, hbefore, hafter⟩ := State.Aside.eachHead (h := h)
        (f := State.shortRevHead (decide (0 < v.undueA)) (decide (0 < v.undueB)))
        (fun g hg t => .shortRevHead t _ _ hg) (s.within fun u => u.raisePlain .shortRev (plainDetail v.undue))
      have hsu := hraised.trans hbefore
      obtain ⟨hhead, hport, -⟩ := hsu.beside
      rw [← hhead] at hr hengaged
      rw [State.shortRevHead_engaged hr hengaged, hport, ← hdrops] at hafter
      refine ⟨fun hno => ?_, fun hyes => ?_⟩
      · rw [hno, if_neg Bool.false_ne_true] at hafter
        exact hsu.trans hafter
      · rw [hyes, if_pos rfl] at hafter
        exact ((State.AtEnd.of_endHead hr _).aside hafter).of_aside hsu

/-- So is the measurement of an arrival, where the spindle does not fall out of LOCKED. -/
theorem State.measured_aside {s : State} (hsilent : State.Silent [] s) (h : Head)
    (htol : s.stu.state = .locked → s.inTolerance s.period = true) : State.Aside h s s.measured := by
  have hmeasure : State.Aside h s s.measureIndex := .of_same (.of_same rfl rfl) rfl rfl rfl rfl rfl
  have hsilent' : State.Silent [] s.measureIndex := hsilent.of_same rfl rfl
  rw [State.measured, State.passSpindle_measureIndex htol]
  refine hmeasure.trans ?_
  unfold State.raiseSpindle
  split
  · exact .refl _
  · split
    · exact .within ((hsilent'.setDue []).raise (k := .spinLocked) nofun _ _) (.raise _ (k := .spinLocked) nofun _ _)
    · exact .within ((hsilent'.setDue []).raise (k := .spinOffSpeed) nofun _ _) (.raise _ (k := .spinOffSpeed) nofun _ _)
    · exact .refl _
    · exact .refl _

/-! ## The users of the index (R118, R129, R161) -/

/-- A head whose track does not go on, and that is tested where it waits. -/
def State.testWaiting (h : Head) (s : State) : State :=
  if s.heads[h].state = .waiting then s.testStart h else s

theorem State.indexHead_of_engaged {s : State} {h : Head} {r : TrackRecord} (hr : s.heads[h].activeRecord = some r)
    (hengaged : s.heads[h].state.engaged = true) :
    State.indexHead h s = State.testWaiting h (State.endHead h r r.indexOutcome s) := by
  unfold State.indexHead
  rw [if_pos hengaged, hr]
  rfl

theorem State.indexHead_of_not_engaged {s : State} {h : Head} (hengaged : s.heads[h].state.engaged = false) :
    State.indexHead h s = State.testWaiting h s := by
  unfold State.indexHead
  rw [if_neg (Bool.eq_false_iff.1 hengaged)]
  rfl

/-- The head in its turn at the index, with no commit pending, and all that follows. -/
theorem State.serveIndex_at {s : State} (hsilent : State.Silent [] s) (h : Head) :
    ∃ v b, State.Aside h s v ∧ v.tlm = s.tlm.commitPending ∧ State.Aside h (State.indexHead h v) b ∧
      s.serveIndex = (b.eachHead State.setPhase).planningPass := by
  have happlySilent : State.Silent [] ((s.setDue []).applyPending .index) := (hsilent.setDue []).applyPending _
  have happly : State.Aside h s (s.within fun u => u.applyPending .index) := .within happlySilent (.applyPending _ _)
  have htlm : (s.within fun u => u.applyPending .index).tlm = s.tlm.commitPending := by
    rw [happlySilent.within]
    exact (s.setDue []).applyPending_tlm .index
  obtain ⟨v, hbefore, hafter⟩ := State.Aside.eachHead (h := h) (f := State.indexHead) (fun g hg t => .indexHead t hg)
    (s.within fun u => u.applyPending .index)
  refine ⟨v, _, happly.trans hbefore, ?_, hafter, rfl⟩
  rcases hbefore.tables with hv | hv
  · rw [hv, htlm]
  · rw [hv, htlm, Tables.commitPending_commitPending]

/-! ## The whole arrival -/

/-- A head that has just ended its track is not engraving. -/
theorem Channel.afterEnd_not_engaged (c : Channel) (last stopping : Bool) :
    (c.afterEnd last stopping).state.engaged = false := by
  unfold Channel.afterEnd
  cases last <;> cases stopping <;> rfl

/-- The outcome of a track that an index ends (R117, R119). -/
def State.indexCause (s : State) (h : Head) (r : TrackRecord) : Option DefectCause :=
  if s.drops h then some .shortRev else r.indexOutcome

/-- An arrival at a head that engraves: its track ends, the head is tested where it then waits, and what follows is aside of
it but for its phase and the planning pass. -/
theorem State.indexArrival_at {s : State} {h : Head} {r : TrackRecord} (hno : s.noActions)
    (htol : s.stu.state = .locked → s.inTolerance s.period = true) (hr : s.heads[h].activeRecord = some r)
    (hengaged : s.heads[h].state.engaged = true) :
    ∃ w b, State.AtEnd h r (s.indexCause h r) s w ∧ w.tlm = s.tlm.commitPending ∧
      State.Aside h (State.testWaiting h w) b ∧
      s.indexArrival = (b.eachHead State.setPhase).planningPass.setDue s.evr.due := by
  have hsilent : State.Silent [] (s.setDue []) := ⟨fun k _ => hno k, rfl⟩
  obtain ⟨hwhole, hshort⟩ := State.endRevolution_at hsilent hr hengaged
  have hend := hsilent.endRevolution
  have htol' : (s.setDue []).endRevolution.stu.state = .locked →
      (s.setDue []).endRevolution.inTolerance (s.setDue []).endRevolution.period = true := by
    obtain ⟨hstu, hnow, hlayout⟩ : (s.setDue []).endRevolution.stu = s.stu ∧ (s.setDue []).endRevolution.now = s.now ∧
        (s.setDue []).endRevolution.tlm.layout = s.tlm.layout := by simp
    rw [State.inTolerance, State.nominal, State.tolerance, State.period, hstu, hnow, hlayout]
    exact htol
  have hmeasured := State.measured_aside hend h htol'
  obtain ⟨v, b, hv, htlm, hb, hserved⟩ := State.serveIndex_at (hend.measured htol') h
  have hlater := hmeasured.trans hv
  have harrival : s.indexArrival = (b.eachHead State.setPhase).planningPass.setDue s.evr.due := by
    rw [s.indexArrival_eq, ← hserved]
    exact State.Silent.within (s := s) _ (hend.measured htol').serveIndex
  have hcommit {x : State} (hx : x.tlm = s.tlm ∨ x.tlm = s.tlm.commitPending) :
      x.tlm.commitPending = s.tlm.commitPending := by
    rcases hx with hx | hx
    · rw [hx]
    · rw [hx, Tables.commitPending_commitPending]
  unfold State.indexCause
  cases hdrops : s.drops h with
  | true =>
    have hended := (hshort hdrops).aside hlater
    refine ⟨v, b, ?_, ?_, ?_, harrival⟩
    · rw [if_pos rfl]
      exact hended.of_aside (.setDue s [])
    · rw [htlm]
      exact hcommit ((hshort hdrops).aside hmeasured).tables
    · rwa [State.indexHead_of_not_engaged (by rw [hended.head]; exact Channel.afterEnd_not_engaged _ _ _)] at hb
  | false =>
    have haside := ((State.Aside.setDue s []).trans (hwhole hdrops)).trans hlater
    have hhead := haside.beside.1
    have hrv : v.heads[h].activeRecord = some r := by rw [hhead, hr]
    refine ⟨State.endHead h r r.indexOutcome v, b, ?_, ?_, ?_, harrival⟩
    · rw [if_neg Bool.false_ne_true]
      exact (State.AtEnd.of_endHead hrv _).of_aside haside
    · have hkept : (State.endHead h r r.indexOutcome v).tlm = v.tlm := by simp [State.endHead]
      rw [hkept, htlm]
      exact hcommit (((State.Aside.setDue s []).trans (hwhole hdrops)).trans hmeasured).tables
    · rwa [State.indexHead_of_engaged hrv (by rw [hhead, hengaged])] at hb

end Sys2Proof.Machine

/-! The end of a track at an index: what the head's channel, STEP line, wear term and mark are once the arrival is complete
(R113, R114, R117 to R119, R125, R126, R181). -/

namespace Sys2Proof.Machine

/-! ## The head at the end of the arrival -/

/-- A channel at an index once its track has ended: one that waits has its start conditions tested. -/
def Channel.indexed (c : Channel) (limit : Nat) (ready : TrackRecord → Bool) : Channel :=
  if c.state = .waiting then c.tested limit (c.startFailure ready) else c

theorem State.testWaiting_head (s : State) (h : Head) :
    (State.testWaiting h s).heads[h] = s.heads[h].indexed s.waitLimit s.readyToStart := by
  unfold State.testWaiting Channel.indexed
  by_cases hwaiting : s.heads[h].state = .waiting
  · rw [if_pos hwaiting, if_pos hwaiting, State.testStart_head, State.startFailure_eq]
  · rw [if_neg hwaiting, if_neg hwaiting]

/-- What else the test leaves or sets of the head. -/
theorem State.testWaiting_rest (s : State) (h : Head) :
    (State.testWaiting h s).ports = s.ports ∧ State.MarkKept h s (State.testWaiting h s) ∧
    (State.testWaiting h s).pipes[h].wearTerm =
      if s.heads[h].state = .waiting ∧ s.heads[h].startFailure s.readyToStart = none
      then some (wearTermOf s.tlm.calsActive[h] s.tlm.wear[h]) else s.pipes[h].wearTerm := by
  unfold State.testWaiting
  by_cases hwaiting : s.heads[h].state = .waiting
  · rw [if_pos hwaiting, State.testStart_wearTerm, State.startFailure_eq]
    refine ⟨by simp, .testStart s h, ?_⟩
    simp only [hwaiting, true_and]
  · rw [if_neg hwaiting, if_neg fun hboth => hwaiting hboth.1]
    exact ⟨rfl, .refl s, rfl⟩

/-- The phases and the planning pass that follow, as one head sees them. -/
theorem State.phased_planned (s : State) (h : Head) :
    State.Plans s (s.eachHead State.setPhase).planningPass ∧
    (s.eachHead State.setPhase).planningPass.ports[h].step = s.ports[h].step ∧
    (s.eachHead State.setPhase).planningPass.pipes = s.pipes ∧
    State.MarkKept h s (s.eachHead State.setPhase).planningPass := by
  have hstep : (s.eachHead State.setPhase).ports[h].step = s.ports[h].step :=
    State.eachHead_inv (P := fun t => t.ports[h].step = s.ports[h].step) s _
      (fun g t ht => (State.modPort_leaves Port.step t g rfl h).trans ht) rfl
  have hphased : State.MarkKept h s (s.eachHead State.setPhase) :=
    State.eachHead_inv (P := State.MarkKept h s) s _ (fun g t ht => ht.trans (.of_same rfl rfl)) (.refl s)
  have hheads : (s.eachHead State.setPhase).heads = s.heads := by simp [State.eachHead_eq]
  have hports : (s.eachHead State.setPhase).planningPass.ports = (s.eachHead State.setPhase).ports := by simp
  refine ⟨(State.Plans.of_same hheads).trans (State.planningPass_plans _), ?_, by simp [State.eachHead_eq],
    hphased.trans (.planningPass _)⟩
  rw [hports, hstep]

/-- The channel of a head that has ended its track. -/
def State.endedChannel (s : State) (h : Head) (r : TrackRecord) : Channel :=
  (s.heads[h].ended r.track (s.indexCause h r) (decide (r.track = s.lastTrack h)) (s.owesStep h)).afterEnd
    (decide (r.track = s.lastTrack h)) (s.heads[h].state == .stopping)

/-- The wear term latched at a track start under the tables with the pending commits applied (R39, R161). -/
def State.startWear (s : State) (h : Head) : Nat := wearTermOf s.tlm.commitPending.calsActive[h] s.tlm.wear[h]

/-- A head that engraves, at the end of an index arrival. -/
structure State.Indexed (h : Head) (r : TrackRecord) (s t : State) : Prop where
  grows : ((s.endedChannel h r).indexed s.waitLimit s.readyToStart).Extends t.heads[h]
  rests : ((s.endedChannel h r).indexed s.waitLimit s.readyToStart).state.moving = false →
    t.heads[h] = (s.endedChannel h r).indexed s.waitLimit s.readyToStart
  step : t.ports[h].step = (s.ports[h].step ||
    (decide (r.track ≠ s.lastTrack h) && !(s.heads[h].state == .stopping) && s.owesStep h))
  wear : t.pipes[h].wearTerm =
    if (s.endedChannel h r).state = .waiting ∧ (s.endedChannel h r).startFailure s.readyToStart = none
    then some (s.startWear h) else none
  mark : s.laneFree = false → s.level .trackDone ≠ 0 →
    t.marked h = (s.marked h || ((s.indexCause h r).isNone && s.doneMarks h))

theorem State.indexArrival_indexed {s : State} {h : Head} {r : TrackRecord} (hno : s.noActions)
    (htol : s.stu.state = .locked → s.inTolerance s.period = true) (hr : s.heads[h].activeRecord = some r)
    (hengaged : s.heads[h].state.engaged = true) : State.Indexed h r s s.indexArrival := by
  obtain ⟨w, b, hend, htlm, hb, harrival⟩ := State.indexArrival_at hno htol hr hengaged
  have hready : w.readyToStart = s.readyToStart := State.readyToStart_of_unpinned hend.slots
  have hlimit : w.waitLimit = s.waitLimit := by rw [State.waitLimit, htlm]; rfl
  have hhead : w.heads[h] = s.endedChannel h r := hend.head
  have htested := w.testWaiting_head h
  rw [hhead, hready, hlimit] at htested
  obtain ⟨hports, hmark, hwear⟩ := w.testWaiting_rest h
  rw [hhead, hready, htlm, hend.wear] at hwear
  obtain ⟨hbhead, hbport, hbpipe⟩ := hb.beside
  obtain ⟨hplans, hstep, hpipes, hkept⟩ := b.phased_planned h
  have hindexed : b.heads[h] = (s.endedChannel h r).indexed s.waitLimit s.readyToStart := hbhead.trans htested
  generalize (b.eachHead State.setPhase).planningPass = x at hplans hstep hpipes hkept harrival
  obtain ⟨t, ht, -, -, htheads, htports, htpipes, -, -, -, htlnk, htrecords⟩ := x.setDue_reads s.evr.due
  rw [harrival, ht]
  refine ⟨?_, fun hrests => ?_, ?_, ?_, fun hbusy hlevel => ?_⟩
  · rw [htheads, ← hindexed]
    exact hplans.grows h
  · rw [← hindexed] at hrests ⊢
    rw [htheads]
    exact hplans.rests h hrests
  · rw [htports, hstep, hbport, hports, hend.step]
  · rw [htpipes, hpipes, hbpipe]
    exact hwear
  · obtain ⟨hlane, hw⟩ := hend.mark hbusy hlevel
    obtain ⟨-, hlast⟩ := (((hmark.trans hb.mark).trans hkept).trans (.of_lnk htlnk htrecords)) hlane
    exact hlast.trans hw

/-! ## The channel of a head that has ended its track -/

/-- What a track end counts and owes: what the next state and the test of the start conditions leave. -/
def Channel.tally (c : Channel) : Channel := { c with state := .idle, wait := 0, queue := [], idleRevs := 0 }

theorem Channel.afterEnd_tally (c : Channel) (last stopping : Bool) : (c.afterEnd last stopping).tally = c.tally := by
  unfold Channel.afterEnd
  cases last <;> cases stopping <;> rfl

theorem Channel.tested_tally (c : Channel) (limit : Nat) (o : Option IdleReason) : (c.tested limit o).tally = c.tally := by
  cases o with
  | none => rfl
  | some _ =>
    unfold Channel.tested
    dsimp only
    split <;> rfl

theorem Channel.indexed_tally (c : Channel) (limit : Nat) (ready : TrackRecord → Bool) :
    (c.indexed limit ready).tally = c.tally := by
  unfold Channel.indexed
  split
  · exact c.tested_tally limit _
  · rfl

theorem Channel.Extends.tally {c d : Channel} (h : c.Extends d) : d.tally = c.tally := by
  rw [h.fields]
  rfl

section
variable {s t : State} {h : Head} {r : TrackRecord} {rest : List TrackRecord}

/-- The counts, the list, the range and the step owed are those of the track end. -/
theorem State.Indexed.tally (ht : State.Indexed h r s t) :
    t.heads[h].tally = (s.heads[h].ended r.track (s.indexCause h r) (decide (r.track = s.lastTrack h)) (s.owesStep h)).tally := by
  rw [ht.grows.tally, Channel.indexed_tally, State.endedChannel, Channel.afterEnd_tally]

theorem Channel.ended_queue (c : Channel) (track : Nat) (o : Option DefectCause) (last owed : Bool) :
    (c.ended track o last owed).queue = c.queue.tail := by
  cases o <;> rfl

theorem Channel.ended_idleRevs (c : Channel) (track : Nat) (o : Option DefectCause) (last owed : Bool) :
    (c.ended track o last owed).idleRevs = c.idleRevs := by
  cases o <;> rfl

theorem Channel.ended_positioned (c : Channel) (track : Nat) (o : Option DefectCause) (last owed : Bool) :
    (c.ended track o last owed).positioned = if owed then false else c.positioned := by
  cases o <;> rfl

variable (hqueue : s.heads[h].queue = r :: rest)
include hqueue

/-- A head that is then FINISHED or STOPPED has no record left. -/
theorem State.Indexed.of_ends (ht : State.Indexed h r s t) (hrest : ∀ q ∈ rest, q.active = false)
    (hends : r.track = s.lastTrack h ∨ s.heads[h].state = .stopping) :
    t.heads[h].state = (if r.track = s.lastTrack h then .finished else .stopped) ∧ t.heads[h].queue = [] := by
  have hnone : (rest.filter fun q => q.active) = [] := List.filter_eq_nil_iff.2 fun q hq => by simp [hrest q hq]
  have hended : (s.endedChannel h r).state = (if r.track = s.lastTrack h then .finished else .stopped) ∧
      (s.endedChannel h r).queue = [] := by
    unfold State.endedChannel Channel.afterEnd
    by_cases hlast : r.track = s.lastTrack h
    · rw [if_pos (decide_eq_true hlast), if_pos hlast, Channel.onlyActive, Channel.ended_queue, hqueue, List.tail_cons, hnone]
      exact ⟨rfl, rfl⟩
    · rw [if_neg (by simpa using hlast), if_pos (beq_iff_eq.2 (hends.resolve_left hlast)), if_neg hlast, Channel.onlyActive,
        Channel.ended_queue, hqueue, List.tail_cons, hnone]
      exact ⟨rfl, rfl⟩
  have hkept : (s.endedChannel h r).indexed s.waitLimit s.readyToStart = s.endedChannel h r := by
    refine if_neg ?_
    rw [hended.1]
    split <;> nofun
  have hsame : t.heads[h] = s.endedChannel h r := by
    have hrests := ht.rests
    rw [hkept] at hrests
    refine hrests ?_
    rw [hended.1]
    split <;> rfl
  rw [hsame]
  exact hended

/-- A head that engraves and has a further track waits with its PLANNED records. -/
theorem State.endedChannel_waits (hlast : r.track ≠ s.lastTrack h) (hstate : s.heads[h].state = .engraving) :
    (s.endedChannel h r).state = .waiting ∧ (s.endedChannel h r).wait = 0 ∧ (s.endedChannel h r).queue = rest ∧
    (s.endedChannel h r).idleRevs = s.heads[h].idleRevs ∧
    (s.endedChannel h r).positioned = if s.owesStep h then false else s.heads[h].positioned := by
  unfold State.endedChannel Channel.afterEnd
  rw [hstate, if_neg (by simpa using hlast), if_neg (by decide)]
  generalize decide (r.track = s.lastTrack h) = last
  refine ⟨rfl, rfl, ?_, Channel.ended_idleRevs _ _ _ last (s.owesStep h), Channel.ended_positioned _ _ _ last _⟩
  exact (Channel.ended_queue _ _ _ last (s.owesStep h)).trans (by rw [hqueue, List.tail_cons])

/-- Its next track starts at this index where its record is ready and no step is owed or outstanding. -/
theorem State.Indexed.of_starts (ht : State.Indexed h r s t) (hlast : r.track ≠ s.lastTrack h)
    (hstate : s.heads[h].state = .engraving) {q : TrackRecord} {more : List TrackRecord} (hq : rest = q :: more)
    (hready : s.readyToStart q = true) (hpos : s.heads[h].positioned = true) (howed : s.owesStep h = false) :
    t.heads[h].state = .engraving ∧ t.heads[h].wait = 0 ∧ t.heads[h].idleRevs = s.heads[h].idleRevs ∧
    t.heads[h].queue.head?.map TrackRecord.active = some true ∧
    t.heads[h].queue.head?.map TrackRecord.track = some q.track ∧ t.pipes[h].wearTerm = some (s.startWear h) := by
  obtain ⟨hwaiting, -, hrecords, hidle, hposition⟩ := State.endedChannel_waits hqueue hlast hstate
  have hnone : (s.endedChannel h r).startFailure s.readyToStart = none := by
    unfold Channel.startFailure
    rw [hrecords, hq]
    simp only [hready, hposition, howed, hpos, Bool.false_eq_true, if_true, if_false]
  have hwear := ht.wear
  rw [if_pos ⟨hwaiting, hnone⟩] at hwear
  have hgrows := ht.grows
  rw [Channel.indexed, if_pos hwaiting, hnone, Channel.tested, hrecords, hq] at hgrows
  obtain ⟨htrack, hactive⟩ := hgrows.head rfl
  rw [hgrows.fields]
  exact ⟨rfl, rfl, hidle, hactive, htrack, hwear⟩

/-- Otherwise it rests a revolution, and it stalls where the wait limit is 0. -/
theorem State.Indexed.of_rests (ht : State.Indexed h r s t) (hlast : r.track ≠ s.lastTrack h)
    (hstate : s.heads[h].state = .engraving)
    (hfails : rest = [] ∨ (∃ q more, rest = q :: more ∧ s.readyToStart q = false) ∨ s.heads[h].positioned = false ∨
      s.owesStep h = true) :
    t.heads[h].state = (if s.waitLimit < 1 then .stalled else .waiting) ∧ t.heads[h].wait = 1 ∧
    t.heads[h].idleRevs = satInc s.heads[h].idleRevs ∧ t.pipes[h].wearTerm = none := by
  obtain ⟨hwaiting, hwait, hrecords, hidle, hposition⟩ := State.endedChannel_waits hqueue hlast hstate
  have hsome : ∃ reason, (s.endedChannel h r).startFailure s.readyToStart = some reason := by
    unfold Channel.startFailure
    rw [hrecords]
    cases rest with
    | nil => exact ⟨_, rfl⟩
    | cons q more =>
      dsimp only
      split
      · next hready =>
        have hunplaced : (s.endedChannel h r).positioned = false := by
          rw [hposition]
          rcases hfails with hnil | ⟨p, ps, heq, hnot⟩ | hpos | howed
          · cases hnil
          · rw [(List.cons.inj heq).1, hnot] at hready
            cases hready
          · rw [hpos, ite_self]
          · rw [howed, if_pos rfl]
        rw [hunplaced]
        exact ⟨_, rfl⟩
      · exact ⟨_, rfl⟩
  obtain ⟨reason, hreason⟩ := hsome
  have hwear := ht.wear
  rw [if_neg (by rw [hreason]; nofun)] at hwear
  have hgrows := ht.grows
  rw [Channel.indexed, if_pos hwaiting, hreason, Channel.tested, hwait, hidle] at hgrows
  rw [hgrows.fields]
  by_cases hlimit : s.waitLimit < 1
  · rw [if_pos hlimit, if_pos (by exact hlimit)]
    exact ⟨rfl, rfl, rfl, hwear⟩
  · rw [if_neg hlimit, if_neg (by exact hlimit)]
    exact ⟨hwaiting, rfl, rfl, hwear⟩

end

/-- The fields of the channel that the track end alone decides. -/
theorem State.Indexed.field {s t : State} {h : Head} {r : TrackRecord} (ht : State.Indexed h r s t) {α : Type}
    (f : Channel → α) (hf : ∀ c, f c.tally = f c) :
    f t.heads[h] = f (s.heads[h].ended r.track (s.indexCause h r) (decide (r.track = s.lastTrack h)) (s.owesStep h)) := by
  rw [← hf, ht.tally, hf]

/-- Such a head at an arrival in tolerance. -/
theorem State.atIndex_indexed {s : State} {h : Head} {r : TrackRecord} (low held tick : Nat) (hno : s.noActions)
    (hlocked : s.stu.state = .locked → ∃ last, s.stu.tPrev = some last ∧ s.inTolerance (max s.now tick - last) = true)
    (hr : s.heads[h].activeRecord = some r) (hengaged : s.heads[h].state.engaged = true) :
    State.Indexed h r s (s.atIndex low held tick).indexArrival := by
  have htol : (s.atIndex low held tick).stu.state = .locked →
      (s.atIndex low held tick).inTolerance (s.atIndex low held tick).period = true := by
    intro hlock
    obtain ⟨last, hlast, hin⟩ := hlocked hlock
    have hperiod : (s.atIndex low held tick).period = max s.now tick - last := by simp [State.period, hlast]
    rw [hperiod]
    exact hin
  have hindexed := State.indexArrival_indexed (s := s.atIndex low held tick) hno htol hr hengaged
  exact ⟨hindexed.grows, hindexed.rests, hindexed.step, hindexed.wear, hindexed.mark⟩

/-- The wear term of a start at an index, with the calibration that is then in force spelled out. -/
theorem State.startWear_eq (s : State) (h : Head) :
    s.startWear h =
      let cal := if s.tlm.calPending.getLsbD h then s.tlm.cals[h] else s.tlm.calsActive[h]
      min ((s.tlm.wear[h]).toNat / calWearInterval cal * calWearStep cal) (calWearCap cal) := by
  have hcal : s.tlm.commitPending.calsActive[h] =
      if s.tlm.calPending.getLsbD h then s.tlm.cals[h] else s.tlm.calsActive[h] := by
    simp [Tables.commitPending, Tables.copyShadows]
  rw [State.startWear, hcal]
  rfl

/-- Settles O43: the arrival leaves the head as `State.Indexed` says, and each clause reads that off. -/
theorem indexEndsTracks : Obligations.IndexEndsTracks := by
  unfold Obligations.IndexEndsTracks
  intro s h r rest low held tick hheld hlow hlocked hno _ hstate hqueue hactive hrest c dropped cause owed allowed
    marked cal
  have hr : c.activeRecord = some r := Channel.activeRecord_of_queue hqueue hactive
  have hengaged : c.state.engaged = true := by
    rcases hstate with hstate | hstate <;> exact hstate ▸ rfl
  have hindexed := State.atIndex_indexed low held tick hno hlocked hr hengaged
  have hcause : s.indexCause h r = cause := rfl
  have howed : s.owesStep h = owed := State.owesStep_of_active hr
  have hwear : s.startWear h = _ := s.startWear_eq h
  have hstep := hindexed.step
  have hmark := hindexed.mark
  have hfield {α : Type} (f : Channel → α) := hindexed.field f
  rw [howed] at hstep
  rw [hcause] at hmark
  simp only [hcause, howed] at hfield
  refine ⟨_, exec_index_of_rises tick hheld hlow, ?_⟩
  generalize (s.atIndex low held tick).indexArrival = t at hindexed hstep hmark hfield
  refine ⟨fun hnone => ?_, fun x hsome => ?_, hmark, fun hlast => ?_, fun hlast hstop => ?_, fun hyes => ?_, fun hnot => ?_,
    fun hlast hengraves => ⟨fun q more hq hready hpos hnot => ?_, fun hfails => ?_⟩⟩
  · rw [hnone] at hfield
    exact ⟨hfield Channel.tracksDone fun _ => rfl, hfield Channel.tracksDefective fun _ => rfl,
      hfield Channel.defects fun _ => rfl, hfield Channel.overflow fun _ => rfl⟩
  · rw [hsome] at hfield
    exact ⟨hfield Channel.tracksDone fun _ => rfl, hfield Channel.tracksDefective fun _ => rfl,
      hfield Channel.defects fun _ => rfl, hfield Channel.overflow fun _ => rfl⟩
  · obtain ⟨hfinished, hempty⟩ := hindexed.of_ends hqueue hrest (.inl hlast)
    rw [if_pos hlast] at hfinished
    have hcomplete := hfield Channel.complete fun _ => rfl
    rw [decide_eq_true hlast] at hcomplete
    refine ⟨hfinished, hcomplete.trans (by simp [Channel.ended, Channel.closed]), hempty, ?_⟩
    rw [hstep, decide_eq_false (not_not.2 hlast), Bool.false_and, Bool.false_and, Bool.or_false]
  · obtain ⟨hstopped, hempty⟩ := hindexed.of_ends hqueue hrest (.inr hstop)
    rw [if_neg hlast] at hstopped
    refine ⟨hstopped, hempty, ?_⟩
    have hstopping : (s.heads[h].state == .stopping) = true := beq_iff_eq.2 hstop
    rw [hstep, hstopping, Bool.not_true, Bool.and_false, Bool.false_and, Bool.or_false]
  · obtain ⟨hless, -⟩ : r.track < s.lastTrack h ∧ c.nextTrack = r.track := of_decide_eq_true hyes
    rw [hyes] at hfield hstep
    refine ⟨hfield Channel.nextTrack fun _ => rfl, hfield Channel.positioned fun _ => rfl, fun hengraves => ?_⟩
    have hgoesOn : (s.heads[h].state == .stopping) = false := beq_eq_false_iff_ne.2 (by rw [hengraves]; nofun)
    rw [hstep, hgoesOn, decide_eq_true (Nat.ne_of_lt hless), Bool.not_false, Bool.and_self, Bool.and_self, Bool.or_true]
  · rw [hnot] at hfield hstep
    refine ⟨(hfield Channel.nextTrack fun _ => rfl).trans ?_, (hfield Channel.positioned fun _ => rfl).trans ?_, ?_⟩
    · cases cause <;> rfl
    · cases cause <;> rfl
    · rw [hstep, Bool.and_false, Bool.or_false]
  · obtain ⟨hengraving, hwait, hidle, hactive, htrack, hterm⟩ :=
      hindexed.of_starts hqueue hlast hengraves hq hready hpos (howed.trans hnot)
    exact ⟨hengraving, hwait, hidle, hactive, htrack, hterm.trans (congrArg some hwear)⟩
  · exact hindexed.of_rests hqueue hlast hengraves (by rwa [howed])

end Sys2Proof.Machine

/-! TRIP_CLEAR of a TRIPPED head whose FAULT level is inactive: the reply, and the head's state (R138). -/

namespace Sys2Proof.Machine

/-- A part of an event that gives an enabled head a state other than FINISHED, in a job that is not HALTING: it raises
nothing and JCU's check moves no job, so the state of the head is all that changes (R147). -/
theorem State.within_setHeadState_of_unfinished {s : State} {h : Head} {x : HeadState} (hjob : s.jcu.state ≠ .halting)
    (henabled : s.enabled h = true) (hx : x ≠ .finished) :
    (s.within fun u => u.withCheck h fun v => v.setHeadState h x) = s.setHeadState h x := by
  have hcheck : (s.setDue []).withCheck h (fun v => v.setHeadState h x) = (s.setDue []).setHeadState h x :=
    State.withCheck_of_unfinished hjob henabled (by simpa using hx)
  rw [State.within_eq_of_no_due hcheck rfl]
  rfl

/-- A TRIPPED head whose FAULT level is inactive passes TPL's test of TRIP_CLEAR (R138). -/
theorem State.takeTripClear_of_tripped {s : State} {head : Byte} {h : Head} (tag : Byte) (hh : head.toNat = h.val)
    (hstate : s.heads[h].state = .tripped) (hfault : s.ports[h].fault = false) :
    s.takeTripClear tag head =
      (s.answer tag 0x13 .accepted).within fun u => u.withCheck h fun v => v.setHeadState h .stopped := by
  rw [State.takeTripClear, State.forHead_of_toNat _ _ _ hh]
  exact if_pos ⟨hstate, hfault⟩

/-- Settles O17: the command passes its test, and neither JCU's check nor a routing action follows the head's change. -/
theorem tripClearStopsHead : Obligations.TripClearStopsHead := by
  unfold Obligations.TripClearStopsHead
  intro s tag head h tick hh htakes hjob henabled hstate hfault
  have htest : (s.taken tick).takeTripClear tag head = _ :=
    State.takeTripClear_of_tripped tag hh (by simpa using hstate) (by simpa using hfault)
  have hchange := State.within_setHeadState_of_unfinished (s := (s.taken tick).answer tag 0x13 .accepted) (h := h)
    (x := .stopped) (by simpa using hjob) (by simpa [State.enabled] using henabled) (by decide)
  rw [exec_tripClear_of_takes tick htakes, htest, hchange, State.setHeadState, State.modHead]
  simp

end Sys2Proof.Machine

/-! What every event but an answer makes of the queues towards the server: the arbiter takes frames from the front of the
COMMAND_REPLY and TABLE_DATA queues and nothing is put into them, whatever the heads, the planning pass, the job and the
routing actions raise (R150, R173, R174). -/

namespace Sys2Proof.Machine

/-- The inbound buffer and the read in progress are the same in two states, and the two queues of answers are the same but
for frames that have left at the front (R173, R174). -/
structure State.Drains (s t : State) : Prop where
  inbound : t.lnk.inbound = s.lnk.inbound
  reading : t.tlm.reading = s.tlm.reading
  replies : t.lnk.replyQueue <:+ s.lnk.replyQueue
  tables : t.lnk.dataQueue <:+ s.lnk.dataQueue

namespace State.Drains

variable {s t u : State}

theorem refl (s : State) : Drains s s := ⟨rfl, rfl, List.suffix_rfl, List.suffix_rfl⟩

theorem trans (hst : Drains s t) (htu : Drains t u) : Drains s u :=
  ⟨htu.inbound.trans hst.inbound, htu.reading.trans hst.reading, htu.replies.trans hst.replies,
    htu.tables.trans hst.tables⟩

/-- What leaves the link and the read in progress. -/
theorem of_same (h : Drains s t) (hlnk : u.lnk = t.lnk) (hreading : u.tlm.reading = t.tlm.reading) : Drains s u :=
  h.trans ⟨by rw [hlnk], hreading, by rw [hlnk], by rw [hlnk]⟩

/-! ### The arbiter (R174) -/

theorem beginReport (h : Drains s t) (k : EventKind) : Drains s (t.beginReport k) := by
  unfold State.beginReport
  split
  · exact h
  · exact h.trans ⟨rfl, rfl, List.suffix_rfl, List.suffix_rfl⟩

/-- The frame that the arbiter chooses leaves the front of its queue. -/
theorem arbitrate (h : Drains s t) : Drains s t.arbitrate := by
  refine h.trans ?_
  unfold State.arbitrate
  split
  · split
    · exact ⟨rfl, rfl, List.suffix_rfl, List.suffix_rfl⟩
    · exact ⟨rfl, rfl, List.suffix_rfl, List.suffix_rfl⟩
    · next hreplies => exact ⟨rfl, rfl, by rw [hreplies]; exact List.suffix_cons _ _, List.suffix_rfl⟩
    · next htables => exact ⟨rfl, rfl, List.suffix_rfl, by rw [htables]; exact List.suffix_cons _ _⟩
    · split
      · exact (refl t).beginReport _
      · exact refl t
  · exact refl t

theorem queueRequest (h : Drains s t) (r : ColumnRequest) : Drains s (t.queueRequest r) :=
  (h.trans (u := { t with lnk := { t.lnk with requestQueue := t.lnk.requestQueue ++ [r] } })
    ⟨rfl, rfl, List.suffix_rfl, List.suffix_rfl⟩).arbitrate

theorem queueFlow (h : Drains s t) (hold : Bool) : Drains s (t.queueFlow hold) := by
  unfold State.queueFlow
  split
  · exact (h.trans (u := { t with lnk := { t.lnk with hold := hold, flowQueue := some hold } })
      ⟨rfl, rfl, List.suffix_rfl, List.suffix_rfl⟩).arbitrate
  · exact h.trans ⟨rfl, rfl, List.suffix_rfl, List.suffix_rfl⟩

theorem watermarkCheck (h : Drains s t) : Drains s t.watermarkCheck := by
  unfold State.watermarkCheck
  split
  · exact h
  · split
    · exact h.queueFlow _
    · split
      · exact h.queueFlow _
      · exact h

/-! ### Occurrences (R177) -/

theorem raise (h : Drains s t) (k : EventKind) (d : Word32) (m : BitVec 8) : Drains s (t.raise k d m) := by
  have hrecord : Drains s (t.recordEvent k d m) := by
    unfold State.recordEvent
    split
    · exact h
    · dsimp only
      split
      · exact (h.of_same (u := { t with evr := { t.evr with
          records := t.evr.records.set k.num (some (gather t.evr.records[k.num] d m)) } }) rfl rfl).arbitrate
      · exact h.of_same rfl rfl
  unfold State.raise
  dsimp only
  split
  · exact hrecord
  · exact hrecord.of_same rfl rfl

theorem raiseHead (h : Drains s t) (g : Head) (k : EventKind) (d : Word32) : Drains s (t.raiseHead g k d) :=
  h.raise k d _

theorem raisePlain (h : Drains s t) (k : EventKind) (d : Word32) : Drains s (t.raisePlain k d) := h.raise k d _

theorem modHead (h : Drains s t) (g : Head) (f : Channel → Channel) : Drains s (t.modHead g f) := h.of_same rfl rfl

theorem stopNow (h : Drains s t) (g : Head) : Drains s (t.stopNow g) := h.of_same (by simp) (by simp)

/-! ### Track ends (R117, R125) -/

theorem countEnd (h : Drains s t) (g : Head) (track : Nat) (o : Option DefectCause) :
    Drains s (t.countEnd g track o) := by
  have hdefect {u : State} (hu : Drains s u) (c : DefectCause) : Drains s (u.addDefect g track c) := by
    unfold State.addDefect
    split
    · exact hu.modHead g _
    · exact (hu.modHead g _).raiseHead g _ _
  cases o with
  | none =>
    unfold State.countEnd State.countDone
    dsimp only
    split
    · exact (h.modHead g _).raiseHead g _ _
    · exact h.modHead g _
  | some c => exact (hdefect (h.modHead g _) c).raiseHead g _ _

theorem endTrack (h : Drains s t) (g : Head) (o : Option DefectCause) : Drains s (t.endTrack g o) := by
  unfold State.endTrack
  split
  · exact h
  · next r _ =>
    have hremoved : Drains s (t.removeActive g r) := h.of_same (by simp) (by simp)
    exact (hremoved.countEnd g r.track o).of_same (by simp) (by simp)

theorem park (h : Drains s t) (g : Head) (track : Nat) : Drains s (t.park g track) :=
  (h.of_same (u := (t.setHeadState g .finished).dropPlanned g) (by simp) (by simp)).raiseHead g _ _

theorem afterEnd (h : Drains s t) (g : Head) (track : Nat) (stopping owed : Bool) :
    Drains s (t.afterEnd g track stopping owed) := by
  unfold State.afterEnd
  split
  · exact h.park g track
  · split
    · exact h.stopNow g
    · exact h.of_same (by simp) (by simp)

/-! ### What each event makes of a head (R111 to R124, R135) -/

theorem testStart (h : Drains s t) (g : Head) : Drains s (t.testStart g) := by
  unfold State.testStart
  split
  · exact h.of_same (by simp) (by simp)
  · next r _ =>
    have hidle := (h.modHead g fun c => { c with wait := c.wait + 1, idleRevs := satInc c.idleRevs }).raiseHead g
      .idleRev (idleDetail t.heads[g].nextTrack r)
    have hstalled {u : State} (hu : Drains s u) : Drains s ((u.setHeadState g .stalled).dropPlanned g) :=
      hu.of_same (by simp) (by simp)
    unfold State.idleRevolution
    dsimp only
    split
    · exact (hstalled hidle).raiseHead g _ _
    · exact hidle

theorem indexHead (h : Drains s t) (g : Head) : Drains s (State.indexHead g t) := by
  unfold State.indexHead
  split
  · split
    · exact h
    · next r _ =>
      have hended := (h.endTrack g r.indexOutcome).afterEnd g r.track (t.heads[g].state == .stopping) (t.owesStep g)
      dsimp only
      split
      · exact hended.testStart g
      · exact hended
  · split
    · exact h.testStart g
    · exact h

theorem shortRevHead (h : Drains s t) (a b : Bool) (g : Head) : Drains s (State.shortRevHead a b g t) := by
  unfold State.shortRevHead
  cases t.ports[g].phase
  all_goals
    dsimp only
    split
    · split
      · exact h
      · exact (h.endTrack g _).afterEnd g _ _ _
    · exact h

theorem haltHead (h : Drains s t) (c : DefectCause) (g : Head) : Drains s (State.haltHead c g t) := by
  unfold State.haltHead
  cases t.heads[g].state
  case engraving | stopping => exact (h.endTrack g _).stopNow g
  case waiting | stalled => exact h.stopNow g
  all_goals exact h

theorem trip (h : Drains s t) (g : Head) (before : Channel) (c : TripCause) :
    Drains s ((t.tripHead g).raiseTrip g before c) :=
  ((h.endTrack g (some .tripped)).of_same (u := t.tripHead g) (by simp [State.tripHead])
    (by simp [State.tripHead])).raiseHead g _ _

theorem resumeHead (h : Drains s t) (g : Head) : Drains s (State.resumeHead g t) := by
  have hwaiting : Drains s (t.waitAgain g) := by
    unfold State.waitAgain
    dsimp only
    split <;> exact h.of_same rfl rfl
  unfold State.resumeHead
  split
  · exact h.park g _
  · rw [State.setWaiting_eq]
    split
    · exact hwaiting.trip g _ _
    · exact hwaiting

theorem startHead (h : Drains s t) (g : Head) : Drains s (State.startHead g t) := by
  unfold State.startHead
  cases t.heads[g].state
  case ready | stopped => exact h.resumeHead g
  all_goals exact h

/-! ### The planning pass (R106 to R108) -/

theorem createRequest (h : Drains s t) (k : Key) (n : Fin 64) : Drains s (t.createRequest k n) := by
  unfold State.createRequest
  refine queueRequest ?_ _
  exact h.of_same rfl rfl

theorem resolveRecord (h : Drains s t) (g : Head) (j : Nat) : Drains s (State.resolveRecord g t j) := by
  unfold State.resolveRecord
  split
  · next key _ =>
    split
    · exact h.of_same (by simp) (by simp)
    · split
      · split
        · next n _ =>
          have hallocated : Drains s (t.allocate n key 1) := h.of_same rfl rfl
          exact (hallocated.createRequest key n).of_same (by simp) (by simp)
        · exact h.raiseHead g _ _
      · exact h
  all_goals exact h

theorem planningPass (h : Drains s t) : Drains s t.planningPass := by
  have hresolve (g : Head) (js : List Nat) : ∀ u, Drains s u → Drains s (js.foldl (State.resolveRecord g) u) := by
    induction js with
    | nil => exact fun _ hu => hu
    | cons j js ih => exact fun u hu => ih _ (hu.resolveRecord g j)
  refine State.eachHead_inv _ _ (fun g u hu => ?_)
    (State.eachHead_inv _ _ (fun g u hu => hu.of_same (by simp) (by simp)) h)
  unfold State.resolveHead
  split
  · exact hresolve g _ u hu
  · exact hu

/-! ### Job changes and routing actions (R141 to R151, R159 to R162) -/

theorem applyCommit (h : Drains s t) (grad cal : BitVec 8) (o : Occasion) : Drains s (t.applyCommit grad cal o) := by
  unfold State.applyCommit
  split
  · exact h
  · exact (h.of_same (u := { t with tlm := t.tlm.copyShadows grad cal }) rfl rfl).raise _ _ _

theorem setJob (h : Drains s t) (new : JobState) (c : JobCause) : Drains s (t.setJob new c) := by
  have hraised := (h.of_same (u := { t with jcu := { t.jcu with state := new } }) rfl rfl).raisePlain .jobState
    (jobStateDetail t.jcu.state new c)
  unfold State.setJob
  dsimp only
  split
  · exact hraised.applyCommit _ _ _
  · exact hraised

theorem headsCheck (h : Drains s t) : Drains s t.headsCheck := by
  unfold State.headsCheck
  split
  · split
    · exact h.setJob _ _
    · exact h
  · split
    · split
      · exact h.setJob _ _
      · exact h
    · exact h

/-- A job transition: the job state is set, each head follows, and JCU checks the heads (R142). -/
theorem transition (h : Drains s t) (new : JobState) (c : JobCause) {f : Head → State → State}
    (hf : ∀ g u, Drains s u → Drains s (f g u)) : Drains s ((t.setJob new c).eachHead f).headsCheck :=
  (State.eachHead_inv _ f hf (h.setJob new c)).headsCheck

/-- A transition in which no head raises anything. -/
theorem transition_same (h : Drains s t) (new : JobState) (c : JobCause) {f : Head → State → State}
    (hf : ∀ g u, (f g u).lnk = u.lnk ∧ (f g u).tlm = u.tlm) : Drains s ((t.setJob new c).eachHead f).headsCheck :=
  h.transition new c fun g u hu => hu.of_same (hf g u).1 (by rw [(hf g u).2])

theorem haltJob (h : Drains s t) (c : JobCause) : Drains s (t.haltJob c) := h.transition_same _ _ (by simp)

theorem armJob (h : Drains s t) : Drains s t.armJob := h.transition_same _ _ (by simp)

theorem clearJob (h : Drains s t) : Drains s t.clearJob := h.transition_same _ _ (by simp)

theorem abortJob (h : Drains s t) (c : JobCause) : Drains s (t.abortJob c) :=
  h.transition _ _ fun g _ hu => hu.haltHead _ g

theorem faultJob (h : Drains s t) : Drains s t.faultJob := h.transition _ _ fun g _ hu => hu.haltHead _ g

theorem startJob (h : Drains s t) : Drains s t.startJob :=
  (State.eachHead_inv _ _ (fun g _ hu => hu.startHead g) (h.setJob .running .start)).planningPass.headsCheck

theorem routeEffect (h : Drains s t) (a : DueAction) : Drains s (t.routeEffect a) := by
  unfold State.routeEffect
  split
  · split
    · exact h.haltJob _
    · exact h
  · split
    · exact h.abortJob _
    · exact h
  · exact h

/-- A part of an event, with its actions taken. -/
theorem within (h : Drains s t) {f : State → State} (hf : ∀ u, Drains s u → Drains s (f u)) : Drains s (t.within f) :=
  State.within_inv t f (fun _ _ hu => hu.of_same rfl rfl) (fun _ a hu => hu.routeEffect a) (hf _ (h.of_same rfl rfl))

/-- A head's change, passed to JCU. -/
theorem withCheck (h : Drains s t) (g : Head) {f : State → State} (hf : ∀ u, Drains s u → Drains s (f u)) :
    Drains s (t.withCheck g f) :=
  State.withCheck_inv t g f (fun _ hu => hu.headsCheck) (hf t h)

/-- The planning pass that follows an event. -/
theorem planning (h : Drains s t) : Drains s (t.within State.planningPass) := h.within fun _ hu => hu.planningPass

/-! ### Segments and expiries (R59, R75 to R82) -/

theorem removeRequest (h : Drains s t) (r : Request) : Drains s (t.removeRequest r) :=
  h.trans ⟨rfl, rfl, List.suffix_rfl, List.suffix_rfl⟩

theorem completeFill (h : Drains s t) (r : Request) : Drains s (t.completeFill r) := by
  have hresident : Drains s (t.modSlot r.slot fun sl => { sl with state := .resident }) := h.of_same rfl rfl
  unfold State.completeFill
  dsimp only
  split
  · unfold State.lockAtCompletion
    split
    · exact (hresident.raisePlain _ _).removeRequest r
    · refine removeRequest ?_ r
      exact hresident.of_same rfl rfl
  · exact hresident.removeRequest r

theorem acceptSegment (h : Drains s t) (r : Request) (sg : Segment) : Drains s (t.acceptSegment r sg) := by
  have hstored (f) : Drains s ((t.storeSegment r.slot sg).modRequest r.key f) := h.of_same rfl rfl
  unfold State.acceptSegment
  dsimp only
  split
  · refine planning ?_
    exact (hstored _).within fun _ hu => hu.completeFill _
  · exact hstored _

/-- An event that raises one occurrence that names no head. -/
theorem occurrence (h : Drains s t) (k : EventKind) (d : State → Word32) :
    Drains s (t.within fun u => u.raisePlain k (d u)) :=
  h.within fun _ hu => hu.raisePlain _ _

theorem preloadSegment (h : Drains s t) (sg : Segment) : Drains s (t.preloadSegment sg) := by
  unfold State.preloadSegment
  dsimp only
  repeat' split
  rotate_right
  · refine acceptSegment ?_ _ _
    exact h.of_same rfl rfl
  all_goals exact h.occurrence _ fun _ => _

theorem takeSegment (h : Drains s t) (sg : Segment) : Drains s (t.takeSegment sg) := by
  unfold State.takeSegment
  split
  · unfold State.matchedSegment
    split
    · exact h.occurrence _ _
    · exact h.acceptSegment _ _
  · split
    · exact h.preloadSegment _
    · exact h.occurrence _ _

theorem fillExpiry (h : Drains s t) : Drains s t.fillExpiry := by
  unfold State.fillExpiry
  split
  · exact h
  · next r _ =>
    refine planning (h.within fun u hu => ?_)
    have hreverted : Drains s (((u.removeRequest r).emptySlot r.slot).revertRecords r.slot) :=
      (hu.removeRequest r).of_same (by simp) (by simp)
    exact hreverted.raisePlain _ _

/-! ### The spindle and the head ports (R94 to R100, R118, R135) -/

theorem endRevolution (h : Drains s t) : Drains s t.endRevolution := by
  unfold State.endRevolution
  split
  · exact h
  · split
    · exact h
    · exact State.eachHead_inv _ _ (fun g _ hu => hu.withCheck g fun _ hv => hv.shortRevHead _ _ g) (h.occurrence _ _)

theorem passSpindle (h : Drains s t) (before : SpindleState) : Drains s (State.passSpindle before t) := by
  unfold State.passSpindle
  split
  · exact h.within fun _ hu => hu.faultJob
  · exact h

theorem raiseSpindle (h : Drains s t) (before : SpindleState) (p : Nat) :
    Drains s (State.raiseSpindle before p t) := by
  unfold State.raiseSpindle
  split
  · exact h
  · split
    · exact h.occurrence _ _
    · exact h.occurrence _ _
    · exact h
    · exact h

theorem serveIndex (h : Drains s t) : Drains s t.serveIndex := by
  have hcommit : Drains s (t.within fun u => u.applyPending .index) := h.within fun _ hu => hu.applyCommit _ _ _
  have hheads := State.eachHead_inv _ (fun g u => u.withCheck g (State.indexHead g))
    (fun g _ hu => hu.withCheck g fun _ hv => hv.indexHead g) hcommit
  exact (State.eachHead_inv _ State.setPhase (fun _ _ hu => hu.of_same rfl rfl) hheads).planningPass

theorem indexArrival (h : Drains s t) : Drains s t.indexArrival := by
  refine h.within fun u hu => serveIndex (raiseSpindle (passSpindle ?_ _) _ _)
  exact hu.endRevolution.of_same rfl rfl

theorem indexTimeout (h : Drains s t) : Drains s t.indexTimeout := by
  unfold State.indexTimeout
  split
  · have hsilenced : Drains s { t with stu := t.stu.silence } := h.of_same rfl rfl
    exact (hsilenced.passSpindle t.stu.state).occurrence .spinNoSignal fun _ => plainDetail t.undueCells
  · exact h

theorem strobeCell (h : Drains s t) (g : Head) (ph : Phase) (r : TrackRecord) (c : Nat) :
    Drains s (t.strobeCell g ph r c) := by
  unfold State.strobeCell
  split
  · exact h.of_same rfl rfl
  · refine raiseHead ?_ g _ _
    exact h.of_same rfl rfl
  · next code _ _ =>
    have hengraved : Drains s (t.engraveCell g ph c code) := h.of_same (by simp) (by simp)
    dsimp only
    split
    · exact hengraved
    · refine raiseHead ?_ g _ _
      exact hengraved.of_same rfl rfl

theorem strobeHead (h : Drains s t) (ph : Phase) (c : Nat) (g : Head) : Drains s (State.strobeHead ph c g t) := by
  unfold State.strobeHead
  split
  · exact h
  · split
    · unfold State.strobeEngaged
      split
      · exact h.of_same rfl rfl
      · split
        · exact h.strobeCell _ _ _ _
        · dsimp only
          split
          · exact h.of_same (by simp) (by simp)
          · exact h.of_same rfl rfl
    · exact h.of_same rfl rfl

theorem cellStrobe (h : Drains s t) (ph : Phase) : Drains s (t.cellStrobe ph) := by
  unfold State.cellStrobe
  split
  · exact h
  · refine within ?_ fun u hu => State.eachHead_inv u _ (fun g _ hv => hv.strobeHead ph _ g) hu
    exact h.of_same rfl rfl

theorem faultActive (h : Drains s t) (g : Head) (held : Nat) : Drains s (t.faultActive g held) := by
  unfold State.faultActive
  dsimp only
  split
  · unfold State.faultTaken
    dsimp only
    split
    · refine within ?_ fun _ hu => hu.withCheck g fun _ hv => hv.trip g _ _
      exact h.of_same rfl rfl
    · exact h.of_same rfl rfl
  · exact h.of_same rfl rfl

/-! ### Occurrences on the link, and what a command does after its reply -/

theorem crcError (h : Drains s t) (received : Nat) (c : CrcCause) : Drains s (t.crcError received c) :=
  h.occurrence _ _

theorem enterUp (h : Drains s t) : Drains s t.enterUp := by
  have hup : Drains s { t with lnk := { t.lnk with state := .up } } :=
    h.trans ⟨rfl, rfl, List.suffix_rfl, List.suffix_rfl⟩
  exact (hup.occurrence .linkUp fun u => linkUpDetail u.occupancy).watermarkCheck.arbitrate

theorem endSending (h : Drains s t) : Drains s t.endSending := by
  have hsent (r : ResetReply) : Drains s { t with lnk := { t.lnk with sending := none, resetReply := r } } :=
    h.trans ⟨rfl, rfl, List.suffix_rfl, List.suffix_rfl⟩
  unfold State.endSending
  dsimp only
  split
  · exact (hsent .none).watermarkCheck.arbitrate
  · exact (hsent t.lnk.resetReply).arbitrate

theorem resumeEffect (h : Drains s t) (g : Head) : Drains s (t.resumeEffect g) := by
  have hresumed : Drains s (t.within fun u => u.withCheck g (State.resumeHead g)) :=
    h.within fun _ hu => hu.withCheck g fun _ hv => hv.resumeHead g
  unfold State.resumeEffect
  dsimp only
  split
  · exact hresumed
  · exact hresumed.planning

theorem raiseReset (h : Drains s t) (before : JobState) : Drains s (t.raiseReset before) := by
  unfold State.raiseReset
  split
  · exact h
  · exact h.occurrence _ _

end State.Drains

end Sys2Proof.Machine

/-! The capacities of the buffer and of the queues of answers: what an event that is no answer keeps, what an answer needs,
and that a frame is handed to its owner with that room alone (R158, R168, R170, R173). -/

namespace Sys2Proof.Machine

/-! ## Room for an answer -/

theorem State.blocked_eq_false {s : State} {i : Inbound} :
    s.blocked i = false ↔ s.tlm.reading = none ∧ s.answerFull i = false := by
  simp [State.blocked]

/-- Room for the answer of a frame stays while frames leave the queues. -/
theorem State.Drains.blocked {s t : State} (h : State.Drains s t) {i : Inbound} (hroom : s.blocked i = false) :
    t.blocked i = false := by
  rw [State.blocked_eq_false] at hroom ⊢
  obtain ⟨hreading, hfull⟩ := hroom
  have hreplies := h.replies.length_le
  have htables := h.tables.length_le
  refine ⟨h.reading.trans hreading, ?_⟩
  cases i <;> simp only [State.answerFull, decide_eq_false_iff_not] at hfull ⊢ <;> omega

/-- The head frame leaves the buffer and frees room, if anything, in the queues of answers. -/
theorem State.popInbound_blocked {s : State} {i : Inbound} (hroom : s.blocked i = false) :
    s.popInbound.blocked i = false :=
  (State.Drains.refl { s with lnk := { s.lnk with inbound := s.lnk.inbound.tail } }).watermarkCheck.blocked
    (by cases i <;> exact hroom)

/-- A frame of kind TABLE_WRITE or COMMAND is answered by a COMMAND_REPLY, by its owner or by LNK (R169, R184). -/
theorem State.answerFull_of_kind (s : State) {f : Frame} (hkind : f.kind = 0x02 ∨ f.kind = 0x04) :
    s.answerFull (decodeFrame f) = decide (Config.replyPlaces ≤ s.lnk.replyQueue.length) := by
  have hsegment : f.kind ≠ 0x01 := by rcases hkind with hkind | hkind <;> rw [hkind] <;> decide
  have hread : f.kind ≠ 0x03 := by rcases hkind with hkind | hkind <;> rw [hkind] <;> decide
  unfold decodeFrame
  simp only [hsegment, hread, if_false]
  repeat' split
  all_goals rfl

/-- Such a frame that is not blocked has a place for its COMMAND_REPLY (R170). -/
theorem State.reply_room {s : State} {f : Frame} (hkind : f.kind = 0x02 ∨ f.kind = 0x04)
    (hroom : s.blocked (decodeFrame f) = false) : s.lnk.replyQueue.length < Config.replyPlaces := by
  obtain ⟨-, hfull⟩ := State.blocked_eq_false.1 hroom
  rw [s.answerFull_of_kind hkind] at hfull
  simpa using hfull

/-- The frame of a TABLE_READ row waits as every TABLE_READ does. -/
theorem State.blocked_tableReadFrame (s : State) (tag kind copy : Byte) (start count : Item) :
    s.blocked (decodeFrame (tableReadFrame tag kind copy start count)) =
      s.blocked (.tableRead tag kind copy start count) := by
  simp [decodeFrame, tableReadFrame, Frame.unknown, Frame.malformed, Frame.expectedLength, bytesOfItem, State.blocked,
    State.answerFull]

namespace State.queuesFit

variable {s t : State}

theorem occupancy_le (hs : s.queuesFit) : s.occupancy ≤ Config.bufferBytes := hs.1

/-- A read in progress has its place in the TABLE_DATA queue. -/
theorem reading_room (hs : s.queuesFit) {r : Reading} (hreading : s.tlm.reading = some r) :
    s.lnk.dataQueue.length < Config.dataPlaces := by
  obtain ⟨-, -, -, hread⟩ := hs
  exact hread (by rw [hreading]; rfl)

/-! ## Events that are no answers -/

theorem of_drains (hs : s.queuesFit) (h : State.Drains s t) : t.queuesFit := by
  obtain ⟨hbuffer, hreplies, htables, hread⟩ := hs
  have hfewer := h.replies.length_le
  have hfewer' := h.tables.length_le
  refine ⟨?_, by omega, by omega, fun hreading => ?_⟩
  · rw [State.occupancy, h.inbound]
    exact hbuffer
  · have := hread (h.reading ▸ hreading)
    omega

/-- The queues of answers emptied. -/
theorem of_empty (hbuffer : s.occupancy ≤ Config.bufferBytes) (hreplies : s.lnk.replyQueue = [])
    (htables : s.lnk.dataQueue = []) : s.queuesFit :=
  ⟨hbuffer, by rw [hreplies]; decide, by rw [htables]; decide, fun _ => by rw [htables]; decide⟩

/-- A frame is stored where it fits, and otherwise discarded (R168). -/
theorem offer (hs : s.queuesFit) (f : Frame) : (s.offer f).queuesFit := by
  unfold State.offer
  split
  · next hfits =>
    obtain ⟨-, hreplies, htables, hread⟩ := hs
    have hstored : (s.store f).queuesFit := by
      refine ⟨?_, hreplies, htables, hread⟩
      simpa [State.occupancy] using of_decide_eq_true hfits
    exact hstored.of_drains (State.Drains.refl _).watermarkCheck
  · exact hs.of_drains ((State.Drains.refl s).occurrence _ fun _ => _)

/-- The head frame leaves the buffer (R169). -/
theorem popInbound (hs : s.queuesFit) : s.popInbound.queuesFit := by
  obtain ⟨hbuffer, hreplies, htables, hread⟩ := hs
  have htail : ((s.lnk.inbound.tail).map Frame.size).sum ≤ s.occupancy := by
    unfold State.occupancy
    cases s.lnk.inbound <;> simp
  have hpopped : ({ s with lnk := { s.lnk with inbound := s.lnk.inbound.tail } } : State).queuesFit :=
    ⟨htail.trans hbuffer, hreplies, htables, hread⟩
  exact hpopped.of_drains (State.Drains.refl _).watermarkCheck

theorem loseLink (hs : s.queuesFit) : s.loseLink.queuesFit := by
  have hlost : ({ s with lnk := s.lnk.lose } : State).queuesFit := of_empty hs.occupancy_le rfl rfl
  exact hlost.of_drains ((State.Drains.refl _).occurrence _ fun _ => _)

/-! ## Answers -/

/-- A COMMAND_REPLY that has room (R170). -/
theorem queueReply (hs : s.queuesFit) (hroom : s.lnk.replyQueue.length < Config.replyPlaces) (r : CommandReply) :
    (s.queueReply r).queuesFit := by
  obtain ⟨hbuffer, -, htables, hread⟩ := hs
  have hqueued : ({ s with lnk := { s.lnk with replyQueue := s.lnk.replyQueue ++ [r] } } : State).queuesFit :=
    ⟨hbuffer, by simpa using hroom, htables, hread⟩
  exact hqueued.of_drains (State.Drains.refl _).arbitrate

/-- A TABLE_DATA that has room, with no read in progress (R158, R170). -/
theorem queueData (hs : s.queuesFit) (hroom : s.lnk.dataQueue.length < Config.dataPlaces)
    (hreading : s.tlm.reading = none) (d : TableData) : (s.queueData d).queuesFit := by
  obtain ⟨hbuffer, hreplies, -, -⟩ := hs
  have hqueued : ({ s with lnk := { s.lnk with dataQueue := s.lnk.dataQueue ++ [d] } } : State).queuesFit :=
    ⟨hbuffer, hreplies, by simpa using hroom, fun h => by rw [hreading] at h; cases h⟩
  exact hqueued.of_drains (State.Drains.refl _).arbitrate

/-- One event of a read whose TABLE_DATA has room: the room stays, or the TABLE_DATA takes it (R158). -/
theorem readEvent (hs : s.queuesFit) (hroom : s.lnk.dataQueue.length < Config.dataPlaces) (r : Reading) :
    (s.readEvent r).queuesFit := by
  obtain ⟨hbuffer, hreplies, htables, -⟩ := hs
  obtain ⟨-, hevent⟩ | ⟨-, hevent⟩ := s.readEvent_cases r
  · rw [hevent]
    exact ⟨hbuffer, hreplies, htables, fun _ => hroom⟩
  · have hnone : ({ s with tlm := { s.tlm with reading := none } } : State).queuesFit :=
      ⟨hbuffer, hreplies, htables, nofun⟩
    rw [hevent]
    exact hnone.queueData hroom rfl _

theorem tableRead (hs : s.queuesFit) {tag kind copy : Byte} {start count : Item}
    (hroom : s.blocked (.tableRead tag kind copy start count) = false) :
    (s.tableRead tag kind copy start count).queuesFit := by
  obtain ⟨hreading, hfull⟩ := State.blocked_eq_false.1 hroom
  have hplace : s.lnk.dataQueue.length < Config.dataPlaces := by simpa [State.answerFull] using hfull
  unfold State.tableRead
  dsimp only
  split
  · exact hs.queueData hplace hreading _
  · split
    · exact hs.queueData hplace hreading _
    · exact hs.readEvent hplace _

/-! ## Commands and writes whose reply has room -/

section
variable (hs : s.queuesFit) (hroom : s.lnk.replyQueue.length < Config.replyPlaces)
include hs hroom

theorem answer (tag code : Byte) (r : Result) : (s.answer tag code r).queuesFit := hs.queueReply hroom _

/-- What follows a bare reply. -/
theorem after {tag code : Byte} {r : Result} (h : State.Drains (s.answer tag code r) t) : t.queuesFit :=
  (hs.answer hroom tag code r).of_drains h

theorem tableWrite (tag kind copy : Byte) (start : Item) (items : Items) :
    (s.tableWrite tag kind copy start items).queuesFit := by
  unfold State.tableWrite
  split
  · exact hs.queueReply hroom _
  · next k _ =>
    unfold State.storeWrite
    dsimp only
    have hstored (o : Items) (n start stored : Nat) :
        State.Drains s (({ s with tlm := s.tlm.store k n o }).writeEffect k n start stored) :=
      (State.Drains.refl s).of_same (by simp) (by simp)
    refine (hs.of_drains (hstored _ _ _ _)).queueReply ?_ _
    exact lt_of_le_of_lt (hstored _ _ _ _).replies.length_le hroom

theorem takeUnknown (kind tag : Byte) (code : Option Byte) : (s.takeUnknown kind tag code).queuesFit := by
  have hdrawn : ({ s with lnk := { s.lnk with draws := s.lnk.draws + 1 } } : State).queuesFit := hs
  cases code with
  | some c => exact hs.queueReply hroom _
  | none => exact hdrawn.queueReply hroom _

theorem takeJobArm (tag : Byte) : (s.takeJobArm tag).queuesFit := by
  have hvalidated (v : Validation) : ({ s with jcu := { s.jcu with validation := v } } : State).queuesFit := hs
  unfold State.takeJobArm
  split
  · split
    · next reason object _ => exact (hvalidated (.failed reason object)).queueReply hroom _
    · exact (hvalidated .accepted).after hroom ((State.Drains.refl _).within fun _ hu => hu.armJob)
  · exact hs.answer hroom _ _ _

theorem takeJobStart (tag : Byte) : (s.takeJobStart tag).queuesFit := by
  unfold State.takeJobStart
  split
  · split
    · exact hs.after hroom ((State.Drains.refl _).within fun _ hu => hu.startJob)
    · exact hs.answer hroom _ _ _
  · exact hs.answer hroom _ _ _

theorem takeJobHalt (tag : Byte) : (s.takeJobHalt tag).queuesFit := by
  unfold State.takeJobHalt
  split
  · exact hs.after hroom ((State.Drains.refl _).within fun _ hu => hu.haltJob _)
  · exact hs.answer hroom _ _ _

theorem takeJobAbort (tag : Byte) : (s.takeJobAbort tag).queuesFit := by
  unfold State.takeJobAbort
  split
  · exact hs.after hroom ((State.Drains.refl _).within fun _ hu => hu.abortJob _)
  · exact hs.answer hroom _ _ _

theorem takeJobClear (tag : Byte) : (s.takeJobClear tag).queuesFit := by
  unfold State.takeJobClear
  split
  · exact hs.after hroom ((State.Drains.refl _).within fun _ hu => hu.clearJob)
  · exact hs.answer hroom _ _ _

/-- A SOFT_RESET that is taken empties the queues before its reply; a TABLE_READ behind it is dispatched where it has room
(R152, R153, R170). -/
theorem softReset (tag : Byte) : (s.softReset tag).queuesFit := by
  have htaken : (s.takeSoftReset tag).queuesFit := by
    unfold State.takeSoftReset
    split
    · exact hs.answer hroom _ _ _
    · have hemptied : ({ s with lnk := s.lnk.emptyQueues } : State).queuesFit := of_empty hs.occupancy_le rfl rfl
      have hreply := hemptied.answer (show 0 < Config.replyPlaces by decide) tag 0x06 .accepted
      refine hreply.of_drains (State.Drains.raiseReset ?_ _)
      exact (State.Drains.refl _).of_same rfl rfl
  unfold State.softReset
  split
  · unfold State.dispatchRead
    split
    · split
      · exact htaken
      · next hfree => exact htaken.popInbound.tableRead (State.popInbound_blocked (by simpa using hfree))
    · exact htaken
  · exact htaken

/-- A command of one head: RANGE, or what the head it names makes of it (R121, R138). -/
theorem forHead (tag code head : Byte) {f : Head → State} (hf : ∀ g, (f g).queuesFit) :
    (s.forHead tag code head f).queuesFit := by
  unfold State.forHead
  split
  · exact hs.answer hroom _ _ _
  · exact hf _

/-- A change of the head that a command names, after its reply and passed to JCU. -/
theorem headChange (tag code : Byte) (g : Head) {f : State → State}
    (hf : ∀ u v, State.Drains u v → State.Drains u (f v)) :
    ((s.answer tag code .accepted).within fun u => u.withCheck g f).queuesFit :=
  hs.after hroom ((State.Drains.refl _).within fun _ hu => hu.withCheck g (hf _))

theorem takeHeadStop (tag head : Byte) : (s.takeHeadStop tag head).queuesFit := by
  refine hs.forHead hroom _ _ _ fun g => ?_
  split
  · exact hs.headChange hroom _ _ g fun _ _ hv => hv.of_same (by simp) (by simp)
  · exact hs.answer hroom _ _ _

theorem takeHeadAbort (tag head : Byte) : (s.takeHeadAbort tag head).queuesFit := by
  refine hs.forHead hroom _ _ _ fun g => ?_
  split
  · exact hs.headChange hroom _ _ g fun _ _ hv => hv.haltHead _ g
  · exact hs.answer hroom _ _ _

theorem takeTripClear (tag head : Byte) : (s.takeTripClear tag head).queuesFit := by
  refine hs.forHead hroom _ _ _ fun g => ?_
  split
  · exact hs.headChange hroom _ _ g fun _ _ hv => hv.of_same rfl rfl
  · exact hs.answer hroom _ _ _

theorem takeHeadResume (tag head : Byte) : (s.takeHeadResume tag head).queuesFit := by
  refine hs.forHead hroom _ _ _ fun g => ?_
  split
  · exact hs.after hroom ((State.Drains.refl _).resumeEffect g)
  · exact hs.answer hroom _ _ _

theorem takeCommit (tag grad cal : Byte) : (s.takeCommit tag grad cal).queuesFit := by
  have hreply := State.Drains.refl (s.answer tag 0x20 .accepted)
  unfold State.takeCommit
  dsimp only
  split
  · exact hs.after hroom (hreply.of_same rfl rfl)
  · exact hs.after hroom (hreply.within fun _ hu => hu.applyCommit _ _ _)

/-- The reply of a cache command, on a state that differs in the slots, and the planning pass that follows it (R60). -/
theorem cacheReply (hlnk : t.lnk = s.lnk) (htlm : t.tlm = s.tlm) (r : CommandReply) :
    (t.queueReply r).afterCache.queuesFit := by
  have hsame : t.queuesFit := hs.of_drains ((State.Drains.refl s).of_same hlnk (by rw [htlm]))
  exact (hsame.queueReply (by rw [hlnk]; exact hroom) r).of_drains (State.Drains.refl _).planning

theorem takeCacheLock (tag : Byte) (tile column : Item) : (s.takeCacheLock tag tile column).queuesFit := by
  unfold State.takeCacheLock
  split
  · exact hs.cacheReply hroom rfl rfl _
  · exact hs.cacheReply hroom (by simp) (by simp) _

theorem takeCacheUnlock (tag : Byte) (tile column : Item) : (s.takeCacheUnlock tag tile column).queuesFit := by
  unfold State.takeCacheUnlock
  split
  · exact hs.cacheReply hroom rfl rfl _
  · exact hs.cacheReply hroom (by simp) (by simp) _

theorem takeInvalidateKey (tag form : Byte) (tile column : Item) :
    (s.takeInvalidateKey tag form tile column).queuesFit := by
  unfold State.takeInvalidateKey
  split
  · split
    · exact hs.cacheReply hroom rfl rfl _
    · exact hs.cacheReply hroom (by simp) (by simp) _
  · exact hs.cacheReply hroom rfl rfl _

theorem takeCacheQuery (tag slot : Byte) : (s.takeCacheQuery tag slot).queuesFit := by
  unfold State.takeCacheQuery
  split <;> exact hs.cacheReply hroom rfl rfl _

theorem takeCommand (tag code a : Byte) (b c : Item) : (s.takeCommand tag code a b c).queuesFit := by
  unfold State.takeCommand
  split
  · exact hs.takeJobArm hroom _
  · exact hs.takeJobStart hroom _
  · exact hs.takeJobHalt hroom _
  · exact hs.takeJobAbort hroom _
  · exact hs.takeJobClear hroom _
  · exact hs.softReset hroom _
  · exact hs.takeHeadStop hroom _ _
  · exact hs.takeHeadAbort hroom _ _
  · exact hs.takeHeadResume hroom _ _
  · exact hs.takeTripClear hroom _ _
  · exact hs.takeCommit hroom _ _ _
  · exact hs.takeCacheLock hroom _ _ _
  · exact hs.takeCacheUnlock hroom _ _ _
  · split
    · exact hs.cacheReply hroom (by simp) (by simp) _
    · exact hs.takeInvalidateKey hroom _ _ _ _
  · exact hs.takeCacheQuery hroom _ _
  · exact hs

end

/-! ## Dispatch -/

/-- The owner of a frame takes it with room for its answer (R169, R170). -/
theorem takeInbound (hs : s.queuesFit) {i : Inbound} (hroom : s.blocked i = false) : (s.takeInbound i).queuesFit := by
  obtain ⟨-, hfull⟩ := State.blocked_eq_false.1 hroom
  cases i with
  | segment sg => exact hs.of_drains ((State.Drains.refl s).takeSegment sg)
  | tableWrite tag kind copy start items => exact hs.tableWrite (by simpa [State.answerFull] using hfull) _ _ _ _ _
  | tableRead tag kind copy start count => exact hs.tableRead hroom
  | command tag code a b c => exact hs.takeCommand (by simpa [State.answerFull] using hfull) _ _ _ _ _
  | unknown kind tag code => exact hs.takeUnknown (by simpa [State.answerFull] using hfull) _ _ _
  | badSegment size => exact hs.of_drains ((State.Drains.refl s).crcError _ _)

theorem dispatchHead (hs : s.queuesFit) : s.dispatchHead.queuesFit := by
  unfold State.dispatchHead
  split
  · exact hs
  · split
    · exact hs
    · next hfree => exact hs.popInbound.takeInbound (State.popInbound_blocked (by simpa using hfree))

end State.queuesFit

/-- A presented frame is handed to its owner with room for its answer alone (R170). -/
theorem State.present_eq_guarded (s : State) (f : Frame) (take : State → State) :
    s.present f take = s.present f fun u => if u.blocked (decodeFrame f) then u else take u := by
  unfold State.present
  dsimp only
  split
  · next htaken =>
    have hfree : (s.arrive f).blocked (decodeFrame f) = false := by
      unfold State.headSays State.headWaits at htaken
      cases hin : (s.arrive f).lnk.inbound with
      | nil => simp [hin] at htaken
      | cons g rest =>
        simp only [hin, Bool.and_eq_true, beq_iff_eq, Bool.not_eq_true'] at htaken
        rw [← htaken.1]
        exact htaken.2
    rw [if_neg (by simp [State.popInbound_blocked hfree])]
  · rfl

namespace State.queuesFit

variable {s t : State}

theorem crcError (hs : s.queuesFit) (received : Nat) (c : CrcCause) : (s.crcError received c).queuesFit :=
  hs.of_drains ((State.Drains.refl s).crcError received c)

/-! ## The rows of the command table -/

/-- A row that is a frame, whose owner keeps the capacities with room for the frame's answer. -/
theorem present (hs : s.queuesFit) (f : Frame) {take : State → State}
    (htake : ∀ u, u.queuesFit → u.blocked (decodeFrame f) = false → (take u).queuesFit) :
    (s.present f take).queuesFit := by
  rw [State.present_eq_guarded]
  refine State.present_inv s f _ (fun _ g ht => ht.offer g) (fun _ n c ht => ht.crcError n c) (fun _ _ ht => ht)
    (fun _ _ ht => ht) (fun _ _ ht => ht) (fun _ ht => ht.popInbound) (fun u hu => ?_) hs
  split
  · exact hu
  · next hfree => exact htake u hu (by simpa using hfree)

/-- A row that is a COMMAND frame. -/
theorem presentCommand (hs : s.queuesFit) (tag code a a' : Byte) (b c b' c' : Item) :
    (s.present (commandFrame tag code a b c) fun u => u.takeCommand tag code a' b' c').queuesFit :=
  hs.present _ fun _ hu hroom => hu.takeCommand (State.reply_room (.inr rfl) hroom) _ _ _ _ _

/-- A row that is a TABLE_WRITE frame. -/
theorem presentWrite (hs : s.queuesFit) (tag kind copy : Byte) (start : Item) (items : Items) :
    (s.present (tableWriteFrame tag kind copy start items) fun u => u.tableWrite tag kind copy start items).queuesFit :=
  hs.present _ fun _ hu hroom => hu.tableWrite (State.reply_room (.inl rfl) hroom) _ _ _ _ _

theorem acquireFraming (hs : s.queuesFit) : s.acquireFraming.queuesFit := by
  unfold State.acquireFraming
  split
  · exact State.freeing_inv s _ (fun _ ht => ht.of_drains (State.Drains.refl _).enterUp)
      (fun _ ht => ht.dispatchHead) hs
  · exact hs
  · exact hs

theorem linkLoss (hs : s.queuesFit) (lastIdle : Nat) : (s.linkLoss lastIdle).queuesFit := by
  have hseen : (s.seeSymbol (min lastIdle s.now)).queuesFit := hs
  unfold State.linkLoss
  dsimp only
  split
  · split
    · exact hseen
    · exact hseen
    · exact State.freeing_inv _ _ (fun _ ht => ht.loseLink) (fun _ ht => ht.dispatchHead) hseen
  · exact hseen

theorem endTransmission (hs : s.queuesFit) : s.endTransmission.queuesFit := by
  unfold State.endTransmission
  split
  · exact State.freeing_inv s _ (fun _ ht => ht.of_drains (State.Drains.refl _).endSending)
      (fun _ ht => ht.dispatchHead) hs
  · exact hs

theorem indexInput (hs : s.queuesFit) (low held : Nat) : (s.indexInput low held).queuesFit := by
  have hlevels : ({ s with stu := s.stu.takeLevels low held } : State).queuesFit := hs
  unfold State.indexInput
  dsimp only
  split
  · exact hlevels.of_drains (State.Drains.refl _).indexArrival
  · exact hlevels

/-- Every row of the command table keeps the capacities. -/
theorem of_exec (hs : s.queuesFit) (i : Instr) (e : exec i s = .next t) : t.queuesFit := by
  have hat (tick : Nat) : (s.at tick).queuesFit := hs
  cases i
  case powerOnReset => cases e; exact of_empty (Nat.zero_le _) rfl rfl
  case jobArm tag tick => cases e; exact (hat tick).presentCommand tag 0x01 0 0 0 0 0 0
  case jobStart tag tick => cases e; exact (hat tick).presentCommand tag 0x02 0 0 0 0 0 0
  case jobHalt tag tick => cases e; exact (hat tick).presentCommand tag 0x03 0 0 0 0 0 0
  case jobAbort tag tick => cases e; exact (hat tick).presentCommand tag 0x04 0 0 0 0 0 0
  case jobClear tag tick => cases e; exact (hat tick).presentCommand tag 0x05 0 0 0 0 0 0
  case softReset tag tick => cases e; exact (hat tick).presentCommand tag 0x06 0 0 0 0 0 0
  case headStop tag head tick => cases e; exact (hat tick).presentCommand tag 0x10 head head 0 0 0 0
  case headAbort tag head tick => cases e; exact (hat tick).presentCommand tag 0x11 head head 0 0 0 0
  case headResume tag head tick => cases e; exact (hat tick).presentCommand tag 0x12 head head 0 0 0 0
  case tripClear tag head tick => cases e; exact (hat tick).presentCommand tag 0x13 head head 0 0 0 0
  case commit tag grad cal tick =>
    cases e
    exact (hat tick).present _ fun _ hu hroom => hu.takeCommit (State.reply_room (.inr rfl) hroom) _ _ _
  case cacheLock tag tile column tick => cases e; exact (hat tick).presentCommand tag 0x30 0 0 tile column tile column
  case cacheUnlock tag tile column tick => cases e; exact (hat tick).presentCommand tag 0x31 0 0 tile column tile column
  case cacheInvalidateKey tag form tile column tick =>
    cases e
    exact (hat tick).present _ fun _ hu hroom => hu.takeInvalidateKey (State.reply_room (.inr rfl) hroom) _ _ _ _
  case cacheInvalidateAll tag tick => cases e; exact (hat tick).presentCommand tag 0x32 1 1 0 0 0 0
  case cacheQuery tag slot tick => cases e; exact (hat tick).presentCommand tag 0x33 slot slot 0 0 0 0
  case tableWrite tag kind copy start items tick => cases e; exact (hat tick).presentWrite _ _ _ _ _
  case tileWrite tag copy start items tick => cases e; exact (hat tick).presentWrite _ _ _ _ _
  case wearWrite tag copy start items tick => cases e; exact (hat tick).presentWrite _ _ _ _ _
  case routeWrite tag copy start items tick => cases e; exact (hat tick).presentWrite _ _ _ _ _
  case tableRead tag kind copy start count tick =>
    cases e
    exact (hat tick).present _ fun u hu hroom => hu.tableRead (u.blocked_tableReadFrame tag kind copy start count ▸ hroom)
  case columnData sg tick =>
    cases e
    exact (hat tick).present _ fun _ hu _ => hu.of_drains ((State.Drains.refl _).takeSegment sg)
  case fillExpiry tick => cases e; exact (hat tick).of_drains (State.Drains.refl _).fillExpiry
  case unknownFrame f tick => cases e; exact (hat tick).present f fun _ hu hroom => hu.takeInbound hroom
  case malformedFrame f tick => cases e; exact (hat tick).present f fun _ hu hroom => hu.takeInbound hroom
  case frameReceived bytes tick =>
    cases e
    exact State.receiveFrame_inv _ bytes (fun _ g ht => ht.offer g) (fun _ n c ht => ht.crcError n c) (fun _ _ ht => ht)
      (fun _ _ ht => ht) (fun _ _ ht => ht) (hat tick)
  case linkTraining tick => cases e; exact State.train_inv _ (fun _ _ ht => ht) (fun _ _ ht => ht) (hat tick)
  case framingAcquired tick => cases e; exact (hat tick).acquireFraming
  case linkLoss lastIdle tick => cases e; exact (hat tick).linkLoss lastIdle
  case transmissionEnd tick => cases e; exact (hat tick).endTransmission
  case index levels tick => cases e; exact (hat tick).indexInput levels.low levels.held
  case indexTimeout tick => cases e; exact (hat tick).of_drains (State.Drains.refl _).indexTimeout
  case cellStrobe phase tick => cases e; exact (hat tick).of_drains ((State.Drains.refl _).cellStrobe phase)
  case stepDone head held tick =>
    cases e
    exact (hat tick).of_drains ((State.Drains.refl _).of_same (by simp) (by simp))
  case faultEdge head held tick => cases e; exact (hat tick).of_drains ((State.Drains.refl _).faultActive head held)
  case faultRelease head held tick =>
    cases e
    exact (hat tick).of_drains ((State.Drains.refl _).of_same (by simp) (by simp))
  case stepDoneRelease head held tick =>
    cases e
    exact (hat tick).of_drains ((State.Drains.refl _).of_same (by simp) (by simp))

/-- Every step keeps them, a step with no command waiting too. -/
theorem of_step (hs : s.queuesFit) (e : step s = .next t) : t.queuesFit := by
  unfold Machine.step at e
  split at e
  · next i rest _ =>
    have hrest : ({ s with pending := rest } : State).queuesFit := hs
    exact hrest.of_exec i e
  · cases e
    obtain ⟨r, hreading, hadvance⟩ | ⟨-, hadvance⟩ := s.advance_cases
    · rw [hadvance]
      exact hs.readEvent (hs.reading_room hreading) r
    · rw [hadvance]
      exact hs.dispatchHead

end State.queuesFit

/-! ## The routing actions due (R150) -/

namespace State.actionsTaken

theorem takeSoftReset (s : State) (tag : Byte) (h : s.actionsTaken) : (s.takeSoftReset tag).actionsTaken := by
  unfold State.takeSoftReset
  split
  · simpa [State.actionsTaken] using h
  · simp [State.actionsTaken, Events.reset]

theorem takeCommand (s : State) (tag code a : Byte) (b c : Item) (h : s.actionsTaken) :
    (s.takeCommand tag code a b c).actionsTaken := by
  have hreset : (s.softReset tag).actionsTaken := by
    have htaken := takeSoftReset s tag h
    unfold State.softReset
    split
    · simpa [State.actionsTaken] using htaken
    · exact htaken
  have hsame {t : State} (ht : t.evr.due = s.evr.due) : t.actionsTaken := ht.trans h
  unfold State.takeCommand
  split
  case h_6 => exact hreset
  case h_14 => split <;> exact hsame (by simp)
  all_goals exact hsame (by simp)

theorem takeInbound (s : State) (i : Inbound) (h : s.actionsTaken) : (s.takeInbound i).actionsTaken := by
  have hsame {t : State} (ht : t.evr.due = s.evr.due) : t.actionsTaken := ht.trans h
  cases i
  case command => exact takeCommand s _ _ _ _ _ h
  all_goals exact hsame (by simp [State.takeInbound])

/-- Every kind of event takes the actions that its occurrences call for, so none is left due. -/
theorem closed : State.Closed State.actionsTaken := by
  have hsame {s t : State} (ht : t.evr.due = s.evr.due) (h : s.actionsTaken) : t.actionsTaken := ht.trans h
  exact {
    queue := fun _ _ h => h
    tick := fun _ _ h => h
    powerOn := fun _ _ _ _ => rfl
    offer := fun _ _ => hsame (by simp)
    pop := fun _ => hsame (by simp)
    inbound := takeInbound
    crc := fun _ _ _ => hsame (by simp)
    reception := fun _ _ h => h
    symbol := fun _ _ h => h
    linkState := fun _ _ h => h
    enterUp := fun _ => hsame (by simp)
    loseLink := fun _ => hsame (by simp)
    endSending := fun _ => hsame (by simp)
    read := fun _ _ _ => hsame (by simp)
    expiry := fun _ => hsame (by simp)
    levels := fun _ _ _ h => h
    index := fun _ => hsame (by simp)
    timeout := fun _ => hsame (by simp)
    strobe := fun _ _ => hsame (by simp)
    stepDone := fun _ _ _ => hsame (by simp)
    stepDoneRelease := fun _ _ _ => hsame (by simp)
    fault := fun _ _ _ => hsame (by simp)
    faultRelease := fun _ _ _ => hsame (by simp) }

end State.actionsTaken

/-- Settles O56: frames are stored where they fit and taken with room for their answer, nothing else adds to the queues, and
each part of an event takes its own actions. -/
theorem stepKeepsQueuesWithinCapacity : Obligations.StepKeepsQueuesWithinCapacity := by
  unfold Obligations.StepKeepsQueuesWithinCapacity
  exact ⟨fun _ _ hs e => hs.of_step e, State.actionsTaken.closed.step⟩

end Sys2Proof.Machine

/-! COMMIT, taken at once: outside RUNNING and HALTING no action moves the job, so COMMIT_APPLIED is recorded and nothing more;
in them the marks are set (R159, R160). -/

namespace Sys2Proof.Machine

/-- Setting the due actions that a state has changes nothing. -/
theorem State.setDue_of_due {s : State} {d : List DueAction} (h : s.evr.due = d) : s.setDue d = s := by
  rw [State.setDue, ← h]

/-- With the due actions put back, an occurrence is what EVR records of it. -/
theorem State.raise_setDue (s : State) (d : List DueAction) (k : EventKind) (w : Word32) (m : BitVec 8) :
    ((s.setDue d).raise k w m).setDue s.evr.due = s.recordEvent k w m := by
  have hrecord : (s.setDue d).recordEvent k w m = (s.recordEvent k w m).setDue d := by
    refine (s.recordEvent_withJobDue s.jcu d k w m).trans ?_
    rw [← (s.recordEvent_keeps k w m).1]
    rfl
  have hback : ((s.recordEvent k w m).setDue d).setDue s.evr.due = s.recordEvent k w m :=
    State.setDue_of_due (s := s.recordEvent k w m) (by simp)
  unfold State.raise
  rw [hrecord]
  split <;> exact hback

/-- Shadows copied at once while the job is not in motion: none for two empty masks, and otherwise the copy and the record of
its COMMIT_APPLIED. -/
theorem State.within_applyCommit_of_not_inMotion {s : State} (h : s.jcu.state.inMotion = false) (grad cal : BitVec 8)
    (o : Occasion) :
    (s.within fun u => u.applyCommit grad cal o) =
      if grad = 0 ∧ cal = 0 then s
      else ({ s with tlm := s.tlm.copyShadows grad cal }).recordEvent .commitApplied (commitDetail grad cal o) cal := by
  have hjob : ((s.setDue []).applyCommit grad cal o).jcu.state.inMotion = false := by simpa using h
  rw [State.within_of_not_inMotion _ _ hjob]
  unfold State.applyCommit
  split
  · rfl
  · exact State.raise_setDue { s with tlm := s.tlm.copyShadows grad cal } [] .commitApplied (commitDetail grad cal o) cal

/-- A COMMIT that is taken at once goes to TLM. -/
theorem exec_commit_of_takes {s : State} {tag grad cal : Byte} (tick : Nat)
    (h : s.takes (commandFrame tag 0x20 grad (cal.setWidth 16) 0)) :
    exec (.commit tag grad cal tick) s = .next ((s.taken tick).takeCommit tag grad cal) :=
  congrArg Host.Outcome.next (State.present_of_takes s tick _ _ h)

/-- Settles O24: the reply is queued, and then the job state as it stood decides between the marks and the copy. -/
theorem commitCopiesOrMarks : Obligations.CommitCopiesOrMarks := by
  unfold Obligations.CommitCopiesOrMarks
  constructor
  · intro s tag grad cal tick htakes hmotion
    have hmoves : (s.taken tick).jcu.state.inMotion = true := by
      rw [(s.taken_keeps tick).1]
      simpa [JobState.inMotion] using hmotion
    rw [exec_commit_of_takes tick htakes, State.takeCommit, if_pos hmoves]
    simp [State.markPending]
  · intro s tag grad cal tick htakes hrun hhalt u
    have hrests : s.jcu.state.inMotion = false := by simp [JobState.inMotion, hrun, hhalt]
    have htlm : u.tlm = s.tlm := by simp [u]
    have hexec : exec (.commit tag grad cal tick) s = .next (u.within fun v => v.applyCommit grad cal .command) := by
      rw [exec_commit_of_takes tick htakes, State.takeCommit, if_neg (by simp [hrests])]
    rw [State.within_applyCommit_of_not_inMotion (by simpa [u] using hrests), htlm] at hexec
    refine ⟨fun hnone => ?_, fun hsome => ⟨s.tlm.copyShadows grad cal, ?_, fun n => ?_, rfl⟩⟩
    · rw [hexec, if_pos hnone]
    · rw [hexec, if_neg hsome]
    · simp [Tables.copyShadows]

end Sys2Proof.Machine

/-! A ROUTE write, taken at once: its entries with their levels, and the records of the kinds it silences (R156, R176,
R178). -/

namespace Sys2Proof.Machine

/-- The records after a ROUTE write of `n` entries from `i` on: the record of each written kind at level 0 is clear. -/
theorem State.clearSilenced_eq (n : Nat) : ∀ (s : State) (i : Nat),
    ∃ records, s.clearSilenced i n = { s with evr := { s.evr with records := records } } ∧
      ∀ k : Fin 23, records[k] =
        if i ≤ k.val ∧ k.val < i + n ∧ item s.tlm.route k.val % 256 = 0 then none else s.evr.records[k] := by
  induction n with
  | zero => intro s i; exact ⟨_, rfl, fun k => (if_neg (by omega)).symm⟩
  | succ n ih =>
    intro s i
    unfold State.clearSilenced
    by_cases hclear : ∃ hi : i < 23, item s.tlm.route i % 256 = 0
    · obtain ⟨hi, hlevel⟩ := hclear
      obtain ⟨records, heq, hrecords⟩ :=
        ih { s with evr := { s.evr with records := s.evr.records.set i none } } (i + 1)
      refine ⟨records, by simp only [dif_pos hi, if_pos hlevel, heq], fun k => ?_⟩
      rw [hrecords]
      by_cases hk : i = k.val
      · rw [if_neg (by omega), if_pos (by rw [← hk]; omega)]
        simp [hk]
      · simp only [show (i + 1 ≤ k.val ∧ k.val < i + 1 + n ∧ item s.tlm.route k.val % 256 = 0) ↔
          (i ≤ k.val ∧ k.val < i + (n + 1) ∧ item s.tlm.route k.val % 256 = 0) by omega]
        simp [hk]
    · obtain ⟨records, heq, hrecords⟩ := ih s (i + 1)
      refine ⟨records, ?_, fun k => ?_⟩
      · rw [← heq]
        by_cases hi : i < 23
        · simp only [dif_pos hi, if_neg fun h => hclear ⟨hi, h⟩]
        · simp only [dif_neg hi]
      · have hk : i = k.val → item s.tlm.route k.val % 256 ≠ 0 := by
          rintro rfl h
          exact hclear ⟨k.isLt, h⟩
        rw [hrecords]
        exact if_congr (by omega) rfl rfl

/-- A routing entry that a write has stored: its action byte as written, and its level brought to at most 7. -/
theorem WriteStores.route_entry {old o items : Items} {start i : Nat} {changed : Bool}
    (h : WriteStores .route old start items o changed) (hi : i < items.length) (hend : start + i < 23) :
    item o (start + i) =
      (items.getD i 0).toNat / 256 * 256 + min ((items.getD i 0).toNat % 256) 7 := by
  obtain ⟨-, hput, -⟩ := h
  have hrule : ObjKind.route.rule (start + i) = .route := List.getD_replicate _ hend
  have hlt : (items.getD i 0).toNat < 65536 := (items.getD i 0).isLt
  rw [item, hput _ (by simp [ObjKind.wideField]) (by simp [ObjKind.ordered]), putItem,
    if_pos ⟨by omega, by omega, hend⟩, hrule, Nat.add_sub_cancel_left]
  exact toItem_toNat (by omega)

/-- Settles O29: the effect of the taken write is on the records alone, by the levels that it has stored. -/
theorem routeWriteSetsEntry : Obligations.RouteWriteSetsEntry := by
  unfold Obligations.RouteWriteSetsEntry
  intro s tag start items tick htakes hr hw
  obtain ⟨-, htlm, -, -, -, -, -, -, hevr, -⟩ := s.taken_keeps tick
  obtain ⟨o, changed, hstores, htaken⟩ := tableWrite_taken tag tick hr (by decide) hw
  obtain ⟨records, hclear, hrecords⟩ :=
    State.clearSilenced_eq (withinObject .route start.toNat items).length
      { s.taken tick with tlm := { s.tlm with route := o } } start.toNat
  have hexec := (exec_tableWrite_of_takes tick htakes).2.2.2 rfl
  rw [htaken] at hexec
  refine ⟨_, o, changed, hstores, hexec, ?_⟩
  have hstate : ({ s.taken tick with tlm := s.tlm.store .route (0 : Byte).toNat o } : State).writeEffect .route
      (0 : Byte).toNat start.toNat (withinObject .route start.toNat items).length =
      { s.taken tick with
        tlm := { s.tlm with route := o }
        evr := { s.evr with records := records } } := by
    rw [State.writeEffect, ← hevr]
    exact hclear
  rw [hstate]
  refine ⟨rfl, fun k => ?_, rfl, ?_, ?_⟩
  · have hlen := withinObject_length .route start.toNat items
    have hk : k.num.val < ObjKind.route.length := k.num.isLt
    refine (hrecords k.num).trans (if_congr ?_ rfl (by rw [← hevr]))
    simp only [State.level]
    omega
  · rintro i w hi hend rfl
    exact hstores.route_entry hi hend
  · rw [← htlm, ← hevr]

end Sys2Proof.Machine

/-! A TABLE_READ, taken at once: its tests, and the events of its own in which the rest of its items are taken (R158). -/

namespace Sys2Proof.Machine

/-! ## The items taken together -/

/-- A 32-bit field of the object begins at item `i` (Table 12.6). -/
def ObjKind.wideAt (k : ObjKind) (i : Nat) : Prop :=
  (k = .layout ∧ i = 7) ∨ (k = .headCal ∧ i = 8) ∨ (k = .headCalActive ∧ i = 8) ∨ (k = .wear ∧ i = 0) ∨
  (k = .counters ∧ i % 2 = 0) ∨ (k = .status ∧ i = 4)

/-- A 32-bit field is taken whole. -/
theorem ObjKind.together_of_wide {k : ObjKind} {i : Nat} (h : k.wideAt i) : k.together i = 2 := by
  obtain ⟨rfl, h⟩ | ⟨rfl, h⟩ | ⟨rfl, h⟩ | ⟨rfl, h⟩ | ⟨rfl, h⟩ | ⟨rfl, h⟩ := h <;> simp [ObjKind.together, h]

/-- The three slot counts of STATUS are taken together. -/
theorem ObjKind.together_of_counts {k : ObjKind} {i : Nat} (h : k = .status ∧ i = 8) : k.together i = 3 := by
  obtain ⟨rfl, rfl⟩ := h
  rfl

/-- Every other item is taken alone. -/
theorem ObjKind.together_of_single {k : ObjKind} {i : Nat} (hwide : ¬k.wideAt i) (hcounts : ¬(k = .status ∧ i ∈ [8, 9])) :
    k.together i = 1 := by
  cases k with
  | lane | tile | expand | headSetup | grad | gradActive | route | defect => rfl
  | layout | headCal | headCalActive | wear | counters => exact if_neg (by simpa [ObjKind.wideAt] using hwide)
  | status =>
    have hi : i ≠ 4 ∧ i ≠ 8 ∧ i ≠ 9 := by simpa [ObjKind.wideAt] using And.intro hwide hcounts
    simp [ObjKind.together, hi]

/-- Every event of a read takes an item at least. -/
theorem ObjKind.together_pos (k : ObjKind) (i : Nat) : 0 < k.together i := by
  unfold ObjKind.together
  cases k <;> dsimp only <;> repeat' split
  all_goals decide

/-! ## The items of an object -/

/-- The state with that read in progress, or with none. -/
def State.withReading (s : State) (r : Option Reading) : State := { s with tlm := { s.tlm with reading := r } }

/-- With no read in progress, that is the state itself. -/
theorem State.withReading_none {s : State} (h : s.tlm.reading = none) : s.withReading none = s := by
  rw [State.withReading, ← h]

/-- The items of an object do not depend on the read in progress. -/
@[simp] theorem State.objItems_withReading (s : State) (r : Option Reading) (k : ObjKind) (n : Nat) :
    (s.withReading r).objItems k n = s.objItems k n := by
  cases k <;> rfl

@[simp] theorem State.itemsFrom_withReading (s : State) (r : Option Reading) (k : ObjKind) (n i count : Nat) :
    (s.withReading r).itemsFrom k n i count = s.itemsFrom k n i count := by
  simp [State.itemsFrom]

@[simp] theorem State.itemsFrom_length (s : State) (k : ObjKind) (n i count : Nat) :
    (s.itemsFrom k n i count).length = count := by
  simp [State.itemsFrom]

/-- A run of items is its first part and the rest. -/
theorem State.itemsFrom_add (s : State) (k : ObjKind) (n i a b : Nat) :
    s.itemsFrom k n i (a + b) = s.itemsFrom k n i a ++ s.itemsFrom k n (i + a) b := by
  simp [State.itemsFrom, List.range_add, Nat.add_assoc, Function.comp_def]

/-! ## The events of a read -/

/-- The read with the first `m` of its items taken, as they stand in a state. -/
def Reading.upTo (r : Reading) (s : State) (m : Nat) : Reading :=
  { r with data := { r.data with items := s.itemsFrom r.object r.data.copy.toNat r.data.start.toNat m } }

/-- The number of items taken after the next event, with `m` taken before it. -/
def Reading.next (r : Reading) (m : Nat) : Nat := m + min (r.object.together (r.data.start.toNat + m)) (r.total - m)

/-- Each event takes an item at least, and none past the last that the read asks for. -/
theorem Reading.next_mem (r : Reading) {m : Nat} (h : m < r.total) : m < r.next m ∧ r.next m ≤ r.total := by
  have := r.object.together_pos (r.data.start.toNat + m)
  unfold Reading.next
  omega

/-- The next event takes up the read where it stands. -/
theorem State.takeItems_upTo (s : State) (x : Option Reading) (r : Reading) (m : Nat) :
    (s.withReading x).takeItems (r.upTo s m) = r.upTo s (r.next m) := by
  simp [State.takeItems, Reading.upTo, Reading.next, State.itemsFrom_add]

/-- One event of a read: it goes on with the next items taken, or its TABLE_DATA carries all of them. -/
theorem State.readEvent_upTo (s : State) (x : Option Reading) (r : Reading) (m : Nat) :
    (s.withReading x).readEvent (r.upTo s m) =
      if r.next m < r.total then s.withReading (some (r.upTo s (r.next m)))
      else (s.withReading none).queueData (r.upTo s (r.next m)).data := by
  have hlen : (r.upTo s (r.next m)).data.items.length = r.next m := by simp [Reading.upTo]
  have htotal : (r.upTo s m).total = r.total := rfl
  simp only [State.readEvent, State.takeItems_upTo, hlen, htotal]
  rfl

/-- A read that goes on by itself takes all of its items, one event for each at most. -/
theorem State.goOn_readEvent (s : State) (r : Reading) {d m : Nat} (hm : m < r.total) (hd : r.total ≤ m + d)
    (x : Option Reading) :
    ∃ n < d, State.goOn n ((s.withReading x).readEvent (r.upTo s m)) =
      (s.withReading none).queueData (r.upTo s r.total).data := by
  induction d generalizing m x with
  | zero => omega
  | succ d ih =>
    obtain ⟨hmore, hle⟩ := r.next_mem hm
    rw [State.readEvent_upTo]
    by_cases hlast : r.next m < r.total
    · obtain ⟨n, hn, hgo⟩ := ih hlast (by omega) (some (r.upTo s (r.next m)))
      refine ⟨n + 1, by omega, ?_⟩
      rw [if_pos hlast]
      exact hgo
    · refine ⟨0, by omega, ?_⟩
      rw [if_neg hlast, show r.next m = r.total by omega]
      rfl

/-! ## A TABLE_READ that is taken at once -/

/-- A TABLE_READ that is taken at once goes to TLM. -/
theorem exec_tableRead_of_takes {s : State} {tag kind copy : Byte} {start count : Item} (tick : Nat)
    (h : s.takes (tableReadFrame tag kind copy start count)) :
    exec (.tableRead tag kind copy start count tick) s = .next ((s.taken tick).tableRead tag kind copy start count) :=
  congrArg Host.Outcome.next (State.present_of_takes s tick _ _ h)

/-- No read is in progress where a frame is taken at once (R169). -/
theorem State.takes.no_reading {s : State} {f : Frame} (h : s.takes f) : s.tlm.reading = none := by
  obtain ⟨-, hblocked, -⟩ := h
  obtain ⟨hreading, -⟩ := State.blocked_eq_false.1 hblocked
  simpa using hreading

/-- The read that a TABLE_READ of an object begins, with no item taken yet: it ends with the object, and its answer says
PARTIAL where the run asked for goes on past that (R158). -/
def ObjKind.newRead (k : ObjKind) (tag kind copy : Byte) (start count : Item) : Reading :=
  { data :=
      { tag, result := if k.length < start.toNat + count.toNat then .partialWrite else .accepted, kind, copy, start,
        items := [] }
    object := k
    total := min count.toNat (k.length - start.toNat) }

/-- A TABLE_READ of an object that exists: refused with RANGE, or the first event of its read. -/
theorem State.tableRead_of_kind (s : State) (tag : Byte) {kind : Byte} {k : ObjKind} (hk : objOfCode kind = some k)
    (copy : Byte) (start count : Item) :
    s.tableRead tag kind copy start count =
      if k.copies ≤ copy.toNat ∨ k.length ≤ start.toNat ∨ count = 0 ∨ 512 < count.toNat then
        s.queueData { tag, result := .range, kind, copy, start, items := [] }
      else
        s.readEvent (k.newRead tag kind copy start count) := by
  have hzero : count.toNat = 0 ↔ count = 0 := by simp [← BitVec.toNat_inj]
  simp only [State.tableRead, hk, hzero, ObjKind.newRead]

/-- Settles O30: the first event of the read is its own, and as long as items are left the read goes on by itself. -/
theorem tableReadAnswersItems : Obligations.TableReadAnswersItems := by
  unfold Obligations.TableReadAnswersItems
  intro s tag kind copy start count tick htakes u data
  have hexec := exec_tableRead_of_takes tick htakes
  have hnone : u.withReading none = u := State.withReading_none (by rw [(s.taken_keeps tick).2.1]; exact htakes.no_reading)
  refine ⟨fun hk => by rw [hexec, State.tableRead, hk], fun k hk => ?_⟩
  rw [State.tableRead_of_kind _ _ hk] at hexec
  refine ⟨fun hout => by rw [hexec, if_pos hout], fun hcopy hstart hcount hlarge => ?_⟩
  have hin : ¬(k.copies ≤ copy.toNat ∨ k.length ≤ start.toNat ∨ count = 0 ∨ 512 < count.toNat) := by
    simp only [not_or, Nat.not_le, Nat.not_lt]
    exact ⟨hcopy, hstart, hcount, hlarge⟩
  rw [if_neg hin] at hexec
  intro total result run wide counts
  have hpos : 0 < (k.newRead tag kind copy start count).total := by
    have : count.toNat ≠ 0 := fun h => hcount (BitVec.eq_of_toNat_eq h)
    simp only [ObjKind.newRead]
    omega
  have hsize : (k.newRead tag kind copy start count).total ≤ 0 + 512 := by
    simp only [ObjKind.newRead]
    omega
  have hread : exec (.tableRead tag kind copy start count tick) s =
      .next ((u.withReading none).readEvent ((k.newRead tag kind copy start count).upTo u 0)) := by
    rw [hnone, hexec]
    rfl
  refine ⟨ObjKind.together_of_wide, ObjKind.together_of_counts, ObjKind.together_of_single, fun hmore => ?_, ?_⟩
  · have hfirst : (k.newRead tag kind copy start count).next 0 = k.together start.toNat := by
      simp only [Reading.next, ObjKind.newRead, Nat.zero_add, Nat.add_zero, Nat.sub_zero]
      exact Nat.min_eq_left hmore.le
    rw [hread, State.readEvent_upTo, hfirst, if_pos (show _ < (k.newRead tag kind copy start count).total from hmore)]
    rfl
  · obtain ⟨n, hn, hgo⟩ := u.goOn_readEvent (k.newRead tag kind copy start count) hpos hsize none
    refine ⟨_, n, hn, hread, hgo.trans ?_⟩
    rw [hnone]
    rfl

end Sys2Proof.Machine

/-! The receiver reads back every frame from its bytes, and what the link makes of a reception: the frame is offered to the
buffer, or a failed test raises CRC_ERROR (R167, R168, R182, R183). -/

namespace Sys2Proof

/-! ## The bytes of a frame (R182, R183) -/

/-- The two bytes of a 16-bit field read back (R182). -/
theorem itemOfBytes_loByte_hiByte (w : Item) : itemOfBytes (loByte w) (hiByte w) = w := by
  apply BitVec.eq_of_getLsbD_eq
  intro i hi
  simp only [itemOfBytes, loByte, hiByte, BitVec.getLsbD_append, BitVec.getLsbD_setWidth, BitVec.getLsbD_ushiftRight]
  by_cases hlow : i < 8
  · simp [hlow]
  · have hhigh : i - 8 < 8 := by omega
    have hback : 8 + (i - 8) = i := by omega
    simp [hlow, hhigh, hback]

/-- The header of a frame takes six bytes; its payload and its CRC follow (Table 12.1). -/
theorem Frame.bytes_eq (f : Frame) :
    f.bytes = f.kind :: f.flags :: f.tag :: loByte (BitVec.ofNat 16 f.payload.length) ::
      hiByte (BitVec.ofNat 16 f.payload.length) :: f.zero :: (f.payload ++ bytesOfWord32 (crc32 f.covered)) := by
  simp [Frame.bytes, Frame.covered, bytesOfItem]

/-- A frame of no greater payload than the largest is read back from its bytes, and the bytes that follow its CRC belong to
no frame (R167). -/
theorem receive_bytes {f : Frame} (after : List Byte) (hlen : f.payload.length ≤ 1056) :
    receive (f.bytes ++ after) = .valid f := by
  have hcount : (itemOfBytes (loByte (BitVec.ofNat 16 f.payload.length))
      (hiByte (BitVec.ofNat 16 f.payload.length))).toNat = f.payload.length := by
    rw [itemOfBytes_loByte_hiByte, BitVec.toNat_ofNat]
    exact Nat.mod_eq_of_lt (by omega)
  have hcrc (c : Word32) : (bytesOfWord32 c ++ after).take 4 = bytesOfWord32 c := rfl
  have hcrcLen (c : Word32) : (bytesOfWord32 c).length = 4 := rfl
  have hoversize : ¬Config.oversizeLength < f.payload.length := by simp only [Config.oversizeLength]; omega
  have hlargest : ¬Config.largestPayload < f.payload.length := by simp only [Config.largestPayload]; omega
  simp only [Frame.bytes_eq, List.cons_append, List.append_assoc, receive, hcount, List.take_left, List.drop_left]
  simp [hoversize, hlargest, hcrc, hcrcLen]

/-- Settles O52: the length field counts the payload, so the payload and the CRC are found where the frame put them. -/
theorem receiverReadsFrameBytes : Obligations.ReceiverReadsFrameBytes := by
  unfold Obligations.ReceiverReadsFrameBytes
  exact fun _ after hlen => receive_bytes after hlen

end Sys2Proof

namespace Sys2Proof.Machine

/-! ## A reception in UP -/

/-- What comes after a start symbol in UP with no frame in reception is left to the receiver's tests. -/
theorem State.receiveFrame_of_no_reception {s : State} (hup : s.lnk.state = .up) (hnone : s.lnk.reception = none)
    (bytes : List Byte) : s.receiveFrame bytes = (s.seeSymbol s.now).takeReception bytes := by
  have hcut : (s.seeSymbol s.now).cutReception = s.seeSymbol s.now := by simp [State.cutReception, hnone]
  simp only [State.receiveFrame, hup, hcut]

/-- A start symbol in UP drops the frame in reception with CRC_ERROR, cause CUT (R167). -/
theorem State.receiveFrame_of_reception {s : State} {old : List Byte} (hup : s.lnk.state = .up)
    (hold : s.lnk.reception = some old) (bytes : List Byte) :
    s.receiveFrame bytes =
      ((((s.seeSymbol s.now).setReception none).crcError old.length .cut)).takeReception bytes := by
  have hcut : (s.seeSymbol s.now).cutReception = ((s.seeSymbol s.now).setReception none).crcError old.length .cut := by
    simp [State.cutReception, hold]
  simp only [State.receiveFrame, hup, hcut]

/-- What the receiver does for each outcome of its tests (R167, R168). -/
theorem State.takeReception_of_receive (s : State) (bytes : List Byte) :
    (receive bytes = .incomplete → s.takeReception bytes = s.setReception (some bytes)) ∧
    (receive bytes = .oversize → s.takeReception bytes = s.crcError 6 .oversize) ∧
    (∀ n, receive bytes = .badCrc n → s.takeReception bytes = s.crcError n .crc) ∧
    (∀ n, receive bytes = .badLength n → s.takeReception bytes = s.crcError n .length) ∧
    (∀ f, receive bytes = .valid f → s.takeReception bytes = s.offer f) := by
  unfold State.takeReception
  refine ⟨fun h => ?_, fun h => ?_, fun n h => ?_, fun n h => ?_, fun f h => ?_⟩ <;> rw [h]

/-- Bytes in reception that are dropped again leave nothing. -/
theorem State.setReception_none_of_none {s : State} (h : s.lnk.reception = none) (r : Option (List Byte)) :
    (s.setReception r).setReception none = s :=
  calc (s.setReception r).setReception none
      = s.setReception s.lnk.reception := by rw [h]; rfl
    _ = s := rfl

/-- A frame that is offered is stored when it fits, and discarded with RX_OVERRUN when it does not (R168). -/
theorem State.offer_of_fits {s : State} {f : Frame} (h : s.occupancy + f.size ≤ 32768) :
    s.offer f = (s.store f).watermarkCheck := if_pos (decide_eq_true h)

theorem State.offer_of_overrun {s : State} {f : Frame} (h : 32768 < s.occupancy + f.size) :
    s.offer f = s.within fun u => u.raisePlain .rxOverrun (rxOverrunDetail s.occupancy f.size f.kind.toNat) :=
  if_neg (mt of_decide_eq_true (Nat.not_le.2 h))

/-- In DOWN and TRAINING the bytes are valid symbols and no frame (R165). -/
theorem State.receiveFrame_of_down {s : State} (h : s.lnk.state = .down) (bytes : List Byte) :
    s.receiveFrame bytes = s.train := by
  simp only [State.receiveFrame, h]

theorem State.receiveFrame_of_training {s : State} (h : s.lnk.state = .training) (bytes : List Byte) :
    s.receiveFrame bytes = s.train := by
  simp only [State.receiveFrame, h]

/-- Symbols in DOWN begin training, and in the other states they are only seen (R165). -/
theorem State.train_of_down {s : State} (h : s.lnk.state = .down) :
    s.train = { s.seeSymbol s.now with lnk := { (s.seeSymbol s.now).lnk with state := .training } } := by
  simp only [State.train, h]

theorem State.train_of_not_down {s : State} (h : s.lnk.state ≠ .down) : s.train = s.seeSymbol s.now := by
  unfold State.train
  cases hs : s.lnk.state with
  | down => exact absurd hs h
  | training => rfl
  | up => rfl

/-- Settles O37: a valid frame is read back from its bytes and offered, and each failed test has its own outcome; a start
symbol drops the frame in reception before the tests of the bytes after it. -/
theorem receivedFramesStoredOrDropped : Obligations.ReceivedFramesStoredOrDropped := by
  unfold Obligations.ReceivedFramesStoredOrDropped
  constructor
  · intro s f tick hup hnone hlen u
    have hoffer : exec (.frameReceived f.bytes tick) s = .next (u.offer f) := by
      have hvalid : receive f.bytes = .valid f := by simpa using receive_bytes [] hlen
      obtain ⟨-, -, -, -, hread⟩ := u.takeReception_of_receive f.bytes
      exact congrArg Host.Outcome.next
        ((State.receiveFrame_of_no_reception (s := s.at tick) hup hnone _).trans (hread f hvalid))
    exact ⟨fun hfits => hoffer.trans (congrArg _ (State.offer_of_fits hfits)),
      fun hover => hoffer.trans (congrArg _ (State.offer_of_overrun hover))⟩
  · intro s bytes tick u failed
    refine ⟨fun hdown => ?_, fun htraining => ?_, fun hup hnone => ?_, fun old hup hold hmore => ?_⟩
    · exact congrArg Host.Outcome.next
        ((State.receiveFrame_of_down (s := s.at tick) hdown bytes).trans (State.train_of_down hdown))
    · exact congrArg Host.Outcome.next ((State.receiveFrame_of_training (s := s.at tick) htraining bytes).trans
        (State.train_of_not_down (by simp [htraining])))
    · have hexec : exec (.frameReceived bytes tick) s = .next (u.takeReception bytes) :=
        congrArg Host.Outcome.next (State.receiveFrame_of_no_reception (s := s.at tick) hup hnone bytes)
      obtain ⟨hmore, hover, hcrc, hlength, -⟩ := u.takeReception_of_receive bytes
      exact ⟨fun h => hexec.trans (congrArg _ (hover h)), fun n h => hexec.trans (congrArg _ (hcrc n h)),
        fun n h => hexec.trans (congrArg _ (hlength n h)), fun h => hexec.trans (congrArg _ (hmore h))⟩
    · exact ⟨_, congrArg Host.Outcome.next ((State.receiveFrame_of_reception (s := s.at tick) hup hold bytes).trans
          ((State.takeReception_of_receive _ bytes).1 hmore)), rfl, State.setReception_none_of_none (by simp) _⟩

end Sys2Proof.Machine

/-! The states of the link, and the end of a transmission: what a loss leaves, and the class that the arbiter serves
(R165, R166, R171 to R174, R179). -/

namespace Sys2Proof.Machine

/-! ## The link states (R165, R166) -/

/-- Framing does nothing but in TRAINING, where the link enters UP. -/
theorem State.acquireFraming_of_not_training {s : State} (h : s.lnk.state ≠ .training) : s.acquireFraming = s := by
  unfold State.acquireFraming
  cases hs : s.lnk.state with
  | training => exact absurd hs h
  | down => rfl
  | up => rfl

theorem State.acquireFraming_of_training {s : State} (h : s.lnk.state = .training) :
    s.acquireFraming = s.freeing State.enterUp := by
  simp only [State.acquireFraming, h]

/-- The link has been silent when more than 50,000 ticks have passed since the last symbol (R165). -/
theorem State.silent_iff (s : State) : s.silent = true ↔ s.lnk.lastSymbol + 50000 < s.now := by
  rw [State.silent, decide_eq_true_iff, Config.linkLossTicks]
  omega

/-- An interval that is not silent loses nothing. -/
theorem State.linkLoss_of_not_silent {s : State} {lastIdle : Nat} (h : (s.seeSymbol (min lastIdle s.now)).silent = false) :
    s.linkLoss lastIdle = s.seeSymbol (min lastIdle s.now) := by
  simp [State.linkLoss, h]

/-- From TRAINING a loss changes the state alone. -/
theorem State.linkLoss_of_training {s : State} {lastIdle : Nat} (h : (s.seeSymbol (min lastIdle s.now)).silent = true)
    (hstate : s.lnk.state = .training) :
    s.linkLoss lastIdle =
      { s.seeSymbol (min lastIdle s.now) with
        lnk := { (s.seeSymbol (min lastIdle s.now)).lnk with state := .down } } := by
  simp [State.linkLoss, h, hstate]

/-- From UP a loss frees the places of the frames it discards. -/
theorem State.linkLoss_of_up {s : State} {lastIdle : Nat} (h : (s.seeSymbol (min lastIdle s.now)).silent = true)
    (hstate : s.lnk.state = .up) : s.linkLoss lastIdle = (s.seeSymbol (min lastIdle s.now)).freeing State.loseLink := by
  simp [State.linkLoss, h, hstate]

/-- Settles O38: each link state has its own equation, and the interval is silent on one side of its boundary alone. -/
theorem linkComesUpAndIsLost : Obligations.LinkComesUpAndIsLost := by
  unfold Obligations.LinkComesUpAndIsLost
  constructor
  · intro s lastIdle tick u seen
    refine ⟨fun hdown => ?_, fun hnot => ?_, fun hnot => ?_, fun htraining => ?_, fun hshort => ?_⟩
    · exact congrArg Host.Outcome.next (State.train_of_down (s := u) hdown)
    · exact congrArg Host.Outcome.next (State.train_of_not_down (s := u) hnot)
    · exact congrArg Host.Outcome.next (State.acquireFraming_of_not_training (s := u) hnot)
    · exact congrArg Host.Outcome.next (State.acquireFraming_of_training (s := u) htraining)
    · have hheard : (u.seeSymbol (min lastIdle u.now)).silent = false :=
        Bool.eq_false_iff.2 fun h => Nat.not_lt.2 hshort ((State.silent_iff _).1 h)
      exact congrArg Host.Outcome.next (State.linkLoss_of_not_silent hheard)
  · intro s lastIdle tick hlong seen discarded
    have hsilent : ((s.at tick).seeSymbol (min lastIdle (s.at tick).now)).silent = true := (State.silent_iff _).2 hlong
    exact ⟨fun htraining => congrArg Host.Outcome.next (State.linkLoss_of_training hsilent htraining),
      fun hup => congrArg Host.Outcome.next (State.linkLoss_of_up hsilent hup)⟩

/-! ## The choice of a report (R179) -/

/-- The record of a kind may be reported: it is pending, and the kind has a level (R176, R179). -/
def State.reportable (s : State) (k : EventKind) : Prop := s.evr.records[k.num] ≠ none ∧ s.level k ≠ 0

/-- How one more kind changes the choice. -/
theorem State.better_of_not_reportable {s : State} {k : EventKind} (h : ¬s.reportable k) (best : Option EventKind) :
    s.better best k = best :=
  if_pos (by simpa only [State.reportable, ne_eq, not_and_or, not_not] using h)

theorem State.better_none {s : State} {k : EventKind} (h : s.reportable k) : s.better none k = some k :=
  if_neg (not_or.2 h)

theorem State.better_some {s : State} {k : EventKind} (h : s.reportable k) (b : EventKind) :
    s.better (some b) k = if s.level b < s.level k then some k else some b :=
  if_neg (not_or.2 h)

/-- A choice that no kind of the list betters stands. -/
theorem State.foldl_better_of_top {s : State} {k : EventKind} {l : List EventKind}
    (htop : ∀ j ∈ l, s.reportable j → s.level j ≤ s.level k) : l.foldl s.better (some k) = some k := by
  induction l with
  | nil => rfl
  | cons j l ih =>
    have hkeep : s.better (some k) j = some k := by
      by_cases hj : s.reportable j
      · rw [State.better_some hj, if_neg (Nat.not_lt.2 (htop j List.mem_cons_self hj))]
      · exact State.better_of_not_reportable hj _
    rw [List.foldl_cons, hkeep]
    exact ih fun i hi => htop i (List.mem_cons_of_mem _ hi)

/-- Kinds of lower levels than `n` give a choice of a lower level. -/
theorem State.foldl_better_below {s : State} {n : Nat} {l : List EventKind}
    (hlow : ∀ j ∈ l, s.reportable j → s.level j < n) {best : Option EventKind} (hbest : ∀ b ∈ best, s.level b < n) :
    ∀ b ∈ l.foldl s.better best, s.level b < n := by
  induction l generalizing best with
  | nil => exact hbest
  | cons j l ih =>
    refine ih (fun i hi => hlow i (List.mem_cons_of_mem _ hi)) fun b hb => ?_
    by_cases hj : s.reportable j
    · have hjlow := hlow j List.mem_cons_self hj
      cases best with
      | none =>
        rw [State.better_none hj] at hb
        cases hb
        exact hjlow
      | some c =>
        rw [State.better_some hj] at hb
        split at hb <;> cases hb
        · exact hjlow
        · exact hbest _ rfl
    · rw [State.better_of_not_reportable hj] at hb
      exact hbest b hb

/-- Every kind stands in the list of kinds, behind kinds of lower numbers alone. -/
theorem eventKinds_split (k : EventKind) : ∃ before after, eventKinds = before ++ k :: after ∧ ∀ j ∈ before, j.num < k.num := by
  refine ⟨eventKinds.take k.num, eventKinds.drop (k.num + 1), ?_, ?_⟩ <;> cases k <;> decide

/-- With no kind to report none is chosen. -/
theorem State.chooseReport_eq_none {s : State} (h : ∀ k, ¬s.reportable k) : s.chooseReport = none := by
  have hfold (l : List EventKind) : l.foldl s.better none = none := by
    induction l with
    | nil => rfl
    | cons k l ih => rw [List.foldl_cons, State.better_of_not_reportable (h k), ih]
  exact hfold eventKinds

/-- The kind chosen is the one of the highest level, and of the lowest number among those (R179). -/
theorem State.chooseReport_eq_some {s : State} {k : EventKind} (hk : s.reportable k)
    (htop : ∀ j, s.reportable j → s.level j ≤ s.level k)
    (hfirst : ∀ j, s.reportable j → s.level j = s.level k → k.num ≤ j.num) : s.chooseReport = some k := by
  obtain ⟨before, after, hsplit, hbefore⟩ := eventKinds_split k
  have hlow : ∀ j ∈ before, s.reportable j → s.level j < s.level k := fun j hj hr =>
    lt_of_le_of_ne (htop j hr) fun heq => absurd (hbefore j hj) (not_lt.2 (hfirst j hr heq))
  have htake : s.better (before.foldl s.better none) k = some k := by
    cases hb : before.foldl s.better none with
    | none => exact State.better_none hk
    | some b => rw [State.better_some hk, if_pos (State.foldl_better_below hlow (by simp) b hb)]
  rw [State.chooseReport, hsplit, List.foldl_append, List.foldl_cons, htake]
  exact State.foldl_better_of_top fun j _ hr => htop j hr

/-! ## The arbiter's choice, class by class (R174) -/

section
variable {s : State}

/-- A waiting FLOW frame goes first. -/
theorem State.arbitrate_flow (hfree : s.laneFree = true) {b : Bool} (hflow : s.lnk.flowQueue = some b) :
    s.arbitrate = { s with lnk := { s.lnk with flowQueue := none, sending := some ⟨.flow b, s.lnk.hold⟩ } } := by
  simp only [State.arbitrate, hfree, if_true, hflow]
  rfl

theorem State.arbitrate_request (hfree : s.laneFree = true) (hflow : s.lnk.flowQueue = none) {r : ColumnRequest}
    {rs : List ColumnRequest} (hrequest : s.lnk.requestQueue = r :: rs) :
    s.arbitrate =
      { s with lnk := { s.lnk with requestQueue := rs, sending := some ⟨.columnRequest r, s.lnk.hold⟩ } } := by
  simp only [State.arbitrate, hfree, if_true, hflow, hrequest]
  rfl

theorem State.arbitrate_reply (hfree : s.laneFree = true) (hflow : s.lnk.flowQueue = none)
    (hrequest : s.lnk.requestQueue = []) {r : CommandReply} {rs : List CommandReply} (hreply : s.lnk.replyQueue = r :: rs) :
    s.arbitrate =
      { s with lnk := { s.lnk with
          replyQueue := rs, sending := some ⟨.commandReply r, s.lnk.hold⟩,
          resetReply := if s.lnk.resetReply = .waiting then .sending else s.lnk.resetReply } } := by
  simp only [State.arbitrate, hfree, if_true, hflow, hrequest, hreply]
  rfl

theorem State.arbitrate_data (hfree : s.laneFree = true) (hflow : s.lnk.flowQueue = none)
    (hrequest : s.lnk.requestQueue = []) (hreply : s.lnk.replyQueue = []) {d : TableData} {ds : List TableData}
    (hdata : s.lnk.dataQueue = d :: ds) :
    s.arbitrate = { s with lnk := { s.lnk with dataQueue := ds, sending := some ⟨.tableData d, s.lnk.hold⟩ } } := by
  simp only [State.arbitrate, hfree, if_true, hflow, hrequest, hreply, hdata]
  rfl

/-- With the four queues empty the arbiter begins the REPORT that EVR chooses, if there is one. -/
theorem State.arbitrate_report (hfree : s.laneFree = true) (hflow : s.lnk.flowQueue = none)
    (hrequest : s.lnk.requestQueue = []) (hreply : s.lnk.replyQueue = []) (hdata : s.lnk.dataQueue = []) :
    s.arbitrate = s.chooseReport.elim s s.beginReport := by
  simp only [State.arbitrate, hfree, if_true, hflow, hrequest, hreply, hdata]
  cases s.chooseReport <;> rfl

/-- A REPORT carries the record of its kind, which is cleared (R179). -/
theorem State.beginReport_of_pending {k : EventKind} {p : Pending} (hp : s.evr.records[k.num] = some p) :
    s.beginReport k =
      { s with
        lnk := { s.lnk with
          sending := some ⟨.report { kind := k, level := s.level k, count := p.count, mask := p.mask, detail := p.detail },
            s.lnk.hold⟩ }
        evr := { s.evr with records := s.evr.records.set k.num none } } := by
  simp only [State.beginReport, hp]
  rfl

end

/-! ## The end of a transmission (R172, R174) -/

theorem State.endTransmission_of_idle {s : State} (h : s.lnk.sending = none) : s.endTransmission = s := by
  simp [State.endTransmission, h]

theorem State.endTransmission_of_sending {s : State} {x : Sending} (h : s.lnk.sending = some x) :
    s.endTransmission = s.freeing State.endSending := by
  simp [State.endTransmission, h]

/-- The end of a SOFT_RESET reply makes the watermark check that waited for it (R172). -/
theorem State.endSending_of_resetReply {s : State} (h : s.lnk.resetReply = .sending) :
    s.endSending = ({ s with lnk := { s.lnk with sending := none, resetReply := .none } }).watermarkCheck.arbitrate := by
  simp [State.endSending, h]

/-- The frame in transmission has been sent, and the arbiter has not chosen yet. -/
def State.sent (s : State) : State := { s with lnk := { s.lnk with sending := none } }

theorem State.endSending_of_other {s : State} (h : s.lnk.resetReply ≠ .sending) : s.endSending = s.sent.arbitrate := by
  simp [State.endSending, State.sent, h]

theorem State.sent_laneFree {s : State} (hup : s.lnk.state = .up) : s.sent.laneFree = true := by
  simp [State.sent, State.laneFree, hup]

/-- Settles O39: the lane is free once the frame has been sent, and each class that holds a frame has its own equation of
the arbiter. -/
theorem transmissionEndServesClassesInOrder : Obligations.TransmissionEndServesClassesInOrder := by
  unfold Obligations.TransmissionEndServesClassesInOrder
  intro s x tick u goes
  have hends {v : State} (hsending : s.lnk.sending = some x) (h : u.endSending = v) :
      exec (.transmissionEnd tick) s = goes v :=
    (congrArg Host.Outcome.next (State.endTransmission_of_sending (s := u) hsending)).trans (congrArg goes h)
  refine ⟨fun hidle => congrArg Host.Outcome.next (State.endTransmission_of_idle (s := u) hidle),
    fun hsending hreset => hends hsending (State.endSending_of_resetReply hreset), fun hup hsending hother => ?_⟩
  have hfree : u.sent.laneFree = true := State.sent_laneFree hup
  have hserves {v : State} (h : u.sent.arbitrate = v) : exec (.transmissionEnd tick) s = goes v :=
    hends hsending ((State.endSending_of_other (s := u) hother).trans h)
  refine ⟨fun b hflow => hserves (State.arbitrate_flow hfree hflow), fun hflow =>
    ⟨fun r rs hrequest => hserves (State.arbitrate_request hfree hflow hrequest),
      fun r rs hrequest hreply => hserves (State.arbitrate_reply hfree hflow hrequest hreply),
      fun d ds hrequest hreply hdata => hserves (State.arbitrate_data hfree hflow hrequest hreply hdata),
      fun hrequest hreply hdata => ?_⟩⟩
  have hreport := State.arbitrate_report hfree hflow hrequest hreply hdata
  refine ⟨fun hclear => hserves ?_, fun k p hp hlevel htop hfirst => hserves ?_⟩
  · have hnone : u.sent.chooseReport = none :=
      State.chooseReport_eq_none fun k ⟨hpending, hk⟩ => (hclear k).elim hpending hk
    rw [hreport, hnone]
    rfl
  · have hpending : u.sent.evr.records[k.num] = some p := hp
    have hsome : u.sent.chooseReport = some k :=
      State.chooseReport_eq_some ⟨by simp [hpending], hlevel⟩ (fun j hj => htop j hj.1) fun j hj => hfirst j hj.1
    rw [hreport, hsome]
    exact State.beginReport_of_pending hpending

end Sys2Proof.Machine

/-! Frames that LNK answers itself with UNKNOWN, and malformed frames (R169, R184). -/

namespace Sys2Proof

/-! ## What LNK makes of such a frame -/

/-- A frame of no downstream kind is unknown (R169). -/
theorem Frame.unknown_of_kind {f : Frame} (hkind : f.kind ≠ 0x01 ∧ f.kind ≠ 0x02 ∧ f.kind ≠ 0x03 ∧ f.kind ≠ 0x04) :
    f.unknown = true := by
  obtain ⟨h1, h2, h3, h4⟩ := hkind
  have hnone : f.expectedLength = none := by
    rw [Frame.expectedLength, if_neg h1, if_neg h2, if_neg h3, if_neg h4]
  simp [Frame.unknown, hnone]

/-- A COMMAND of good layout and of no command code is unknown (R169). -/
theorem Frame.unknown_of_code {f : Frame} {code a b0 b1 c0 c1 : Byte} (hkind : f.kind = 0x04) (hflags : f.flags = 0)
    (hzero : f.zero = 0) (hpayload : f.payload = [code, a, b0, b1, c0, c1]) (hcode : knownCode code = false) :
    f.unknown = true := by
  simp [Frame.unknown, Frame.malformed, Frame.expectedLength, Frame.byte, hkind, hflags, hzero, hpayload, hcode]

/-- LNK answers an unknown frame itself. -/
theorem decodeFrame_of_unknown {f : Frame} (h : f.unknown = true) :
    decodeFrame f = .unknown f.kind f.tag f.answeredCode := if_pos h

/-- A malformed COLUMN_DATA frame is dropped, and any other malformed frame answered (R184). -/
theorem decodeFrame_of_malformed {f : Frame} (hmalformed : f.malformed = true) (hknown : f.unknown = false) :
    decodeFrame f = if f.kind = 0x01 then .badSegment f.size else .unknown f.kind f.tag f.answeredCode := by
  simp [decodeFrame, hmalformed, hknown]

/-- The code echoed is 0 for the other kinds, and the first byte of a COMMAND that has one (Table 12.5). -/
theorem Frame.answeredCode_of_not_command {f : Frame} (h : f.kind ≠ 0x04) : f.answeredCode = some 0 := if_neg h

theorem Frame.answeredCode_of_payload {f : Frame} (hkind : f.kind = 0x04) (hpayload : f.payload ≠ []) :
    f.answeredCode = some (f.payload.headD 0) := by
  obtain ⟨code, rest, hcons⟩ := List.exists_cons_of_ne_nil hpayload
  simp [Frame.answeredCode, hkind, hcons]

/-- The code that the answer to an unknown frame echoes. -/
theorem Frame.answeredCode_of_answerable {f : Frame} (h : f.kind = 0x04 → f.payload ≠ []) :
    f.answeredCode = some (if f.kind = 0x04 then f.payload.headD 0 else 0) := by
  split
  · next hkind => exact Frame.answeredCode_of_payload hkind (h hkind)
  · next hkind => exact Frame.answeredCode_of_not_command hkind

end Sys2Proof

namespace Sys2Proof.Machine

/-! ## Frames that are taken at once -/

/-- The free values drawn are no part of what the taking of a frame changes. -/
theorem State.taken_draws (s : State) (tick : Nat) : (s.taken tick).lnk.draws = s.lnk.draws := by
  unfold State.taken
  split <;> rfl

theorem exec_unknownFrame_of_takes {s : State} {f : Frame} (tick : Nat) (h : s.takes f) :
    exec (.unknownFrame f tick) s = .next ((s.taken tick).takeInbound (decodeFrame f)) :=
  congrArg Host.Outcome.next (State.present_of_takes s tick _ _ h)

theorem exec_malformedFrame_of_takes {s : State} {f : Frame} (tick : Nat) (h : s.takes f) :
    exec (.malformedFrame f tick) s = .next ((s.taken tick).takeInbound (decodeFrame f)) :=
  congrArg Host.Outcome.next (State.present_of_takes s tick _ _ h)

/-- Every answer UNKNOWN carries a code, and the number of free values drawn is all else that it may change. -/
theorem State.takeUnknown_eq (s : State) (kind tag : Byte) (c : Option Byte) :
    ∃ (code : Byte) (draws : Nat),
      s.takeUnknown kind tag c =
        { s with lnk := { s.lnk with draws := draws } }.queueReply
          { tag, kind, code, result := .unknown, mark := false, data := .none } ∧
      ∀ x, c = some x → code = x ∧ draws = s.lnk.draws := by
  cases c with
  | some x => exact ⟨x, s.lnk.draws, rfl, by rintro y ⟨⟩; exact ⟨rfl, rfl⟩⟩
  | none => exact ⟨_, _, rfl, by rintro y ⟨⟩⟩

/-- Settles O36: what LNK makes of the frame says who answers it, and the frame is taken at once. -/
theorem unknownAndMalformedFramesAnswered : Obligations.UnknownAndMalformedFramesAnswered := by
  unfold Obligations.UnknownAndMalformedFramesAnswered
  refine ⟨fun s f tick htakes hcase => ?_, fun s f tick htakes hmalformed hknown => ⟨fun hsegment => ?_, fun hother => ?_⟩⟩
  · have hanswered : f.unknown = true ∧ (f.kind = 0x04 → f.payload ≠ []) := by
      obtain hkind | ⟨code, a, b0, b1, c0, c1, hkind, hflags, hzero, hpayload, hcode⟩ := hcase
      · have ⟨_, _, _, hnot⟩ := hkind
        exact ⟨Frame.unknown_of_kind hkind, fun h => absurd h hnot⟩
      · exact ⟨Frame.unknown_of_code hkind hflags hzero hpayload hcode, fun _ => by simp [hpayload]⟩
    obtain ⟨hunknown, hpayload⟩ := hanswered
    rw [exec_unknownFrame_of_takes tick htakes, decodeFrame_of_unknown hunknown,
      Frame.answeredCode_of_answerable hpayload]
    rfl
  · rw [exec_malformedFrame_of_takes tick htakes, decodeFrame_of_malformed hmalformed hknown, if_pos hsegment]
    rfl
  · obtain ⟨code, draws, hanswer, hcode⟩ := (s.taken tick).takeUnknown_eq f.kind f.tag f.answeredCode
    rw [State.taken_draws] at hcode
    refine ⟨code, draws, ?_, fun hkind => hcode 0 (Frame.answeredCode_of_not_command hkind),
      fun hkind hpayload => hcode _ (Frame.answeredCode_of_payload hkind hpayload)⟩
    rw [exec_malformedFrame_of_takes tick htakes, decodeFrame_of_malformed hmalformed hknown, if_neg hother]
    exact congrArg Host.Outcome.next hanswer

end Sys2Proof.Machine

/-! Decoding at dispatch reads back the frames of the commands: each is of good layout, and its fields stand in the payload
where Table 12.3 puts them (R182, R184). -/

namespace Sys2Proof

/-! ## The fields of a payload -/

theorem length_bytesOfItems (ws : Items) : (bytesOfItems ws).length = 2 * ws.length := by
  induction ws with
  | nil => rfl
  | cons w ws ih => simp only [bytesOfItems, List.length_cons, ih]; omega

/-- A run of 16-bit fields is read back from its bytes (R182). -/
theorem itemsOfBytes_bytesOfItems (ws : Items) : itemsOfBytes (bytesOfItems ws) = ws := by
  induction ws with
  | nil => rfl
  | cons w ws ih => simp only [bytesOfItems, itemsOfBytes, itemOfBytes_loByte_hiByte, ih]

/-! ## What LNK makes of a frame of good layout (R169, R184) -/

/-- The layout tests that a frame of a downstream kind passes (R184). -/
theorem Frame.malformed_eq_false {f : Frame} (hlen : f.expectedLength = some f.payload.length) (hzero : f.zero = 0)
    (hflags : f.flags = 0)
    (hsegment : f.kind = 0x01 → ((f.payload.drop 10).take 22).any (· != 0) = false ∧ f.byte 1 &&& 0xFE = 0)
    (hwrite : f.kind = 0x02 → ((f.payload.drop 6).take 2).any (· != 0) = false) : f.malformed = false := by
  have hfirst : (f.kind == 0x01 && (((f.payload.drop 10).take 22).any (· != 0) || f.byte 1 &&& 0xFE != 0)) = false := by
    by_cases h : f.kind = 0x01
    · obtain ⟨hreserved, hbits⟩ := hsegment h
      simp only [hreserved, hbits, bne_self_eq_false, Bool.or_self, Bool.and_false]
    · rw [beq_eq_false_iff_ne.mpr h, Bool.false_and]
  have hsecond : (f.kind == 0x02 && ((f.payload.drop 6).take 2).any (· != 0)) = false := by
    by_cases h : f.kind = 0x02
    · rw [hwrite h, Bool.and_false]
    · rw [beq_eq_false_iff_ne.mpr h, Bool.false_and]
  simp only [Frame.malformed, hlen, hzero, hflags, hfirst, hsecond, bne_self_eq_false, Bool.or_self]

/-- A COLUMN_DATA frame of good layout goes to CFU with its fields, and likewise the three kinds below. -/
theorem decodeFrame_of_columnData {f : Frame} (hkind : f.kind = 0x01) (hlayout : f.malformed = false) :
    decodeFrame f = .segment
      { id := f.byte 0, lock := (f.byte 1).getLsbD 0, tile := f.field 2, column := f.field 4, offset := f.field 6,
        words := itemsOfBytes (f.payload.drop 32) } := by
  simp [decodeFrame, Frame.unknown, Frame.expectedLength, hlayout, hkind]

theorem decodeFrame_of_tableWrite {f : Frame} (hkind : f.kind = 0x02) (hlayout : f.malformed = false) :
    decodeFrame f = .tableWrite f.tag (f.byte 0) (f.byte 1) (f.field 2) (itemsOfBytes (f.payload.drop 8)) := by
  simp [decodeFrame, Frame.unknown, Frame.expectedLength, hlayout, hkind]

theorem decodeFrame_of_tableRead {f : Frame} (hkind : f.kind = 0x03) (hlayout : f.malformed = false) :
    decodeFrame f = .tableRead f.tag (f.byte 0) (f.byte 1) (f.field 2) (f.field 4) := by
  simp [decodeFrame, Frame.unknown, Frame.expectedLength, hlayout, hkind]

theorem decodeFrame_of_command {f : Frame} (hkind : f.kind = 0x04) (hlayout : f.malformed = false)
    (hcode : knownCode (f.byte 0) = true) :
    decodeFrame f = .command f.tag (f.byte 0) (argA (f.byte 0) (f.byte 1)) (argB (f.byte 0) (f.byte 1) (f.field 2))
      (argC (f.byte 0) (f.byte 1) (f.field 4)) := by
  simp [decodeFrame, Frame.unknown, Frame.expectedLength, hlayout, hkind, hcode]

/-! ## COLUMN_DATA -/

/-- The word count stands at byte 8 (Table 12.3). -/
theorem columnDataFrame_count (sg : Segment) : (columnDataFrame sg).field 8 = BitVec.ofNat 16 sg.words.length :=
  itemOfBytes_loByte_hiByte _

theorem columnDataFrame_length (sg : Segment) : (columnDataFrame sg).payload.length = 32 + 2 * sg.words.length := by
  simp only [columnDataFrame, bytesOfItem, List.length_append, List.length_cons, List.length_nil, List.length_replicate,
    length_bytesOfItems]

/-- The flags other than LOCK are 0 (Table 12.3). -/
theorem columnDataFrame_flags (sg : Segment) : (columnDataFrame sg).byte 1 &&& 0xFE = 0 := by
  have hflag : (columnDataFrame sg).byte 1 = if sg.lock then 1 else 0 := rfl
  rw [hflag]
  cases sg.lock <;> rfl

/-- The LOCK flag is bit 0 of byte 1 (Table 12.3). -/
theorem columnDataFrame_lock (sg : Segment) : ((columnDataFrame sg).byte 1).getLsbD 0 = sg.lock := by
  have hflag : (columnDataFrame sg).byte 1 = if sg.lock then 1 else 0 := rfl
  rw [hflag]
  cases sg.lock <;> rfl

/-- The words stand after the 22 reserved bytes, from byte 32 on (Table 12.3). -/
theorem columnDataFrame_words (sg : Segment) : itemsOfBytes ((columnDataFrame sg).payload.drop 32) = sg.words :=
  itemsOfBytes_bytesOfItems sg.words

theorem columnDataFrame_wellFormed {sg : Segment} (hwords : sg.words.length < 2 ^ 16) :
    (columnDataFrame sg).malformed = false := by
  have hlen : (columnDataFrame sg).expectedLength = some (columnDataFrame sg).payload.length := by
    rw [Frame.expectedLength, if_pos (by rfl), columnDataFrame_count, BitVec.toNat_ofNat, Nat.mod_eq_of_lt hwords,
      columnDataFrame_length]
  exact Frame.malformed_eq_false hlen rfl rfl (fun _ => ⟨rfl, columnDataFrame_flags sg⟩)
    fun h => absurd h (by simp [columnDataFrame])

/-- A segment is read back from its COLUMN_DATA frame. -/
theorem decodeFrame_columnDataFrame {sg : Segment} (hwords : sg.words.length < 2 ^ 16) :
    decodeFrame (columnDataFrame sg) = .segment sg := by
  have hid : (columnDataFrame sg).byte 0 = sg.id := rfl
  have htile : (columnDataFrame sg).field 2 = sg.tile := itemOfBytes_loByte_hiByte _
  have hcolumn : (columnDataFrame sg).field 4 = sg.column := itemOfBytes_loByte_hiByte _
  have hoffset : (columnDataFrame sg).field 6 = sg.offset := itemOfBytes_loByte_hiByte _
  rw [decodeFrame_of_columnData (by rfl) (columnDataFrame_wellFormed hwords), hid, columnDataFrame_lock, htile, hcolumn,
    hoffset, columnDataFrame_words]

/-! ## TABLE_WRITE -/

theorem tableWriteFrame_length (tag kind copy : Byte) (start : Item) (items : Items) :
    (tableWriteFrame tag kind copy start items).payload.length = 8 + 2 * items.length := by
  simp only [tableWriteFrame, bytesOfItem, List.length_append, List.length_cons, List.length_nil, length_bytesOfItems]

theorem tableWriteFrame_wellFormed {items : Items} (tag kind copy : Byte) (start : Item)
    (hitems : items.length < 2 ^ 16) : (tableWriteFrame tag kind copy start items).malformed = false := by
  have hcount : (tableWriteFrame tag kind copy start items).field 4 = BitVec.ofNat 16 items.length :=
    itemOfBytes_loByte_hiByte _
  have hlen : (tableWriteFrame tag kind copy start items).expectedLength =
      some (tableWriteFrame tag kind copy start items).payload.length := by
    rw [Frame.expectedLength, if_neg (by simp [tableWriteFrame]), if_pos (by rfl), hcount, BitVec.toNat_ofNat,
      Nat.mod_eq_of_lt hitems, tableWriteFrame_length]
  exact Frame.malformed_eq_false hlen rfl rfl (fun h => absurd h (by simp [tableWriteFrame])) (fun _ => rfl)

/-- A table write is read back from its TABLE_WRITE frame. -/
theorem decodeFrame_tableWriteFrame {items : Items} (tag kind copy : Byte) (start : Item)
    (hitems : items.length < 2 ^ 16) :
    decodeFrame (tableWriteFrame tag kind copy start items) = .tableWrite tag kind copy start items := by
  have hstart : (tableWriteFrame tag kind copy start items).field 2 = start := itemOfBytes_loByte_hiByte _
  have hrun : itemsOfBytes ((tableWriteFrame tag kind copy start items).payload.drop 8) = items :=
    itemsOfBytes_bytesOfItems items
  rw [decodeFrame_of_tableWrite (by rfl) (tableWriteFrame_wellFormed tag kind copy start hitems), hstart, hrun]
  rfl

/-! ## TABLE_READ and COMMAND: payloads of six bytes -/

/-- A frame of a kind whose payload is six bytes is of good layout with six bytes and a clear header (R184). -/
theorem Frame.wellFormed_of_six {f : Frame} (hkind : f.kind = 0x03 ∨ f.kind = 0x04) (hzero : f.zero = 0)
    (hflags : f.flags = 0) (hlen : f.payload.length = 6) : f.malformed = false := by
  obtain hkind | hkind := hkind <;> simp [Frame.malformed, Frame.expectedLength, hkind, hzero, hflags, hlen]

/-- A table read is read back from its TABLE_READ frame. -/
theorem decodeFrame_tableReadFrame (tag kind copy : Byte) (start count : Item) :
    decodeFrame (tableReadFrame tag kind copy start count) = .tableRead tag kind copy start count := by
  have hlayout : (tableReadFrame tag kind copy start count).malformed = false :=
    Frame.wellFormed_of_six (.inl rfl) rfl rfl rfl
  have hstart : (tableReadFrame tag kind copy start count).field 2 = start := itemOfBytes_loByte_hiByte _
  have hcount : (tableReadFrame tag kind copy start count).field 4 = count := itemOfBytes_loByte_hiByte _
  rw [decodeFrame_of_tableRead (by rfl) hlayout, hstart, hcount]
  rfl

/-- A command of a known code is read back from its COMMAND frame, with the arguments that Table 12.4 has it read. -/
theorem decodeFrame_commandFrame {code : Byte} (tag a : Byte) (b c : Item) (hcode : knownCode code = true) :
    decodeFrame (commandFrame tag code a b c) = .command tag code (argA code a) (argB code a b) (argC code a c) := by
  have hlayout : (commandFrame tag code a b c).malformed = false := Frame.wellFormed_of_six (.inr rfl) rfl rfl rfl
  have hb : (commandFrame tag code a b c).field 2 = b := itemOfBytes_loByte_hiByte _
  have hc : (commandFrame tag code a b c).field 4 = c := itemOfBytes_loByte_hiByte _
  rw [decodeFrame_of_command (by rfl) hlayout hcode, hb, hc]
  rfl

/-- Settles O53, kind by kind: the largest payload keeps the counts of a segment and of a write within their 16-bit
fields. -/
theorem dispatchReadsBackFrames : Obligations.DispatchReadsBackFrames := by
  unfold Obligations.DispatchReadsBackFrames
  have hsegment : largestSegment < 2 ^ 16 := by decide
  have hwrite : largestWrite < 2 ^ 16 := by decide
  exact ⟨fun _ hwords => decodeFrame_columnDataFrame (hwords.trans_lt hsegment),
    fun tag kind copy start _ hitems => decodeFrame_tableWriteFrame tag kind copy start (hitems.trans_lt hwrite),
    decodeFrame_tableReadFrame, fun tag _ a b c hcode => decodeFrame_commandFrame tag a b c hcode⟩

end Sys2Proof

/-! Every step keeps the sample words in canonical form: a segment writes its words in one run, which keeps the form, a power-on
reset leaves no word written, and nothing else touches the words (R47, R57, assumptions 6 and 22). -/

namespace Sys2Proof.Machine

/-! ## What a segment makes of the sample words (R57, R77) -/

/-- An accepted segment writes its words at its offset in its entry's slot, whether or not it completes the fill. -/
theorem State.acceptSegment_samples (s : State) (r : Request) (sg : Segment) :
    (s.acceptSegment r sg).cca.samples =
      sampleWriteAll s.cca.samples (sampleAddress r.slot sg.offset.toNat) sg.words := by
  unfold State.acceptSegment
  dsimp only
  split <;> simp [State.within]

/-- The sample words stay, or the words of the segment are written to them in one run at its offset in a slot. -/
def State.SamplesAfter (s : State) (sg : Segment) (t : State) : Prop :=
  t.cca.samples = s.cca.samples ∨
    ∃ n : Fin 64, t.cca.samples = sampleWriteAll s.cca.samples (sampleAddress n sg.offset.toNat) sg.words

/-- A segment that is dropped raises one event, which leaves the sample words. -/
theorem State.SamplesAfter.of_raise (s : State) (sg : Segment) (k : EventKind) (d : Word32) :
    s.SamplesAfter sg (s.within fun u => u.raisePlain k d) := .inl (by simp [State.within])

theorem State.matchedSegment_samples (s : State) (r : Request) (sg : Segment) :
    s.SamplesAfter sg (s.matchedSegment r sg) := by
  unfold State.matchedSegment
  split
  · exact .of_raise ..
  · exact .inr ⟨r.slot, s.acceptSegment_samples r sg⟩

/-- The first segment of a preload is dropped by one of the tests, or accepted in the slot that it is given (R82). -/
theorem State.preloadSegment_samples (s : State) (sg : Segment) : s.SamplesAfter sg (s.preloadSegment sg) := by
  unfold State.preloadSegment
  split
  · exact .of_raise ..
  · dsimp only
    repeat' split
    any_goals exact .of_raise ..
    next n _ => exact .inr ⟨n, State.acceptSegment_samples ..⟩

theorem State.takeSegment_samples (s : State) (sg : Segment) : s.SamplesAfter sg (s.takeSegment sg) := by
  unfold State.takeSegment
  split
  · exact s.matchedSegment_samples _ sg
  · split
    · exact s.preloadSegment_samples sg
    · exact .of_raise ..

/-! ## What every event keeps -/

namespace State.samplesCanonical

/-- What leaves the sample words keeps their form. -/
theorem of_same {s t : State} (h : s.samplesCanonical) (hsame : t.cca.samples = s.cca.samples) : t.samplesCanonical := by
  unfold State.samplesCanonical
  rw [hsame]
  exact h

theorem takeSegment (s : State) (sg : Segment) (h : s.samplesCanonical) : (s.takeSegment sg).samplesCanonical := by
  rcases s.takeSegment_samples sg with hsame | ⟨n, hwritten⟩
  · exact h.of_same hsame
  · unfold State.samplesCanonical
    rw [hwritten]
    exact sampleWriteAll_wf _ _ _ h

/-- Of the frames that an owner takes, only a segment touches the sample words. -/
theorem takeInbound (s : State) (i : Inbound) (h : s.samplesCanonical) : (s.takeInbound i).samplesCanonical := by
  cases i with
  | segment sg => exact takeSegment s sg h
  | tableWrite tag kind copy start items => exact h.of_same (by simp [State.takeInbound])
  | tableRead tag kind copy start count => exact h.of_same (by simp [State.takeInbound])
  | command tag code a b c => exact h.of_same (by simp [State.takeInbound])
  | unknown kind tag code => exact h.of_same (by simp [State.takeInbound])
  | badSegment size => exact h.of_same (by simp [State.takeInbound])

/-- Every kind of event keeps the form. -/
theorem closed : State.Closed State.samplesCanonical where
  queue _ _ h := h
  tick _ _ h := h
  powerOn _ _ _ _ := rfl
  offer _ _ h := h.of_same (by simp)
  pop _ h := h.of_same (by simp)
  inbound := takeInbound
  crc _ _ _ h := h.of_same (by simp)
  reception _ _ h := h
  symbol _ _ h := h
  linkState _ _ h := h
  enterUp _ h := h.of_same (by simp)
  loseLink _ h := h.of_same (by simp)
  endSending _ h := h.of_same (by simp)
  read _ _ _ h := h.of_same (by simp)
  expiry _ h := h.of_same (by simp)
  levels _ _ _ h := h
  index _ h := h.of_same (by simp)
  timeout _ h := h.of_same (by simp)
  strobe _ _ h := h.of_same (by simp)
  stepDone _ _ _ h := h.of_same (by simp)
  stepDoneRelease _ _ _ h := h
  fault _ _ _ h := h.of_same (by simp)
  faultRelease _ _ _ h := h

end State.samplesCanonical

/-- Settles O54: every kind of event keeps the form. -/
theorem stepKeepsSamplesCanonical : Obligations.StepKeepsSamplesCanonical := by
  unfold Obligations.StepKeepsSamplesCanonical
  exact State.samplesCanonical.closed.step

end Sys2Proof.Machine

/-! A step with a command in front and with none waiting, where the part goes on with its read or its head frame (R158, R169,
R170, assumption 1), and the state that a power-on reset leaves (R163, assumption 8). -/

namespace Sys2Proof.Machine

/-- Settles O1: `step` hands the front command the state without it. -/
theorem stepTakesFrontCommand : Obligations.StepTakesFrontCommand := by
  unfold Obligations.StepTakesFrontCommand
  exact fun _ _ => rfl

/-! ## With no command waiting -/

theorem step_of_no_command {s : State} (h : s.pending = []) : step s = .next s.advance := by
  unfold step
  rw [h]

theorem State.advance_of_reading {s : State} {r : Reading} (h : s.tlm.reading = some r) : s.advance = s.readEvent r := by
  unfold State.advance
  rw [h]

theorem State.advance_of_no_reading {s : State} (h : s.tlm.reading = none) : s.advance = s.dispatchHead := by
  unfold State.advance
  rw [h]

theorem State.dispatchHead_of_empty {s : State} (h : s.lnk.inbound = []) : s.dispatchHead = s := by
  unfold State.dispatchHead
  rw [h]

/-- A head frame that is blocked stays, and one that is not leaves the buffer for its owner (R169, R170). -/
theorem State.dispatchHead_of_head {s : State} {f : Frame} {rest : List Frame} (h : s.lnk.inbound = f :: rest) :
    s.dispatchHead = if s.blocked (decodeFrame f) then s else
      (({ s with lnk := { s.lnk with inbound := rest } }).watermarkCheck).takeInbound (decodeFrame f) := by
  unfold State.dispatchHead State.popInbound
  rw [h]
  rfl

/-- The items of a read after one more event of its own. -/
theorem State.takeItems_length (s : State) (r : Reading) :
    (s.takeItems r).data.items.length = r.data.items.length +
      min (r.object.together (r.data.start.toNat + r.data.items.length)) (r.total - r.data.items.length) := by
  simp [State.takeItems, State.itemsFrom]

/-- Settles O2: with no command waiting the part goes on with its read or with the head of its buffer. -/
theorem emptyQueueDispatchesHeadFrame : Obligations.EmptyQueueDispatchesHeadFrame := by
  unfold Obligations.EmptyQueueDispatchesHeadFrame
  refine ⟨fun s hpending hreading => ?_, fun s r hpending hreading => ?_⟩
  · rw [step_of_no_command hpending, State.advance_of_no_reading hreading]
    refine ⟨fun hempty => by rw [State.dispatchHead_of_empty hempty], fun f rest hhead => ?_⟩
    rw [State.dispatchHead_of_head hhead]
    exact ⟨fun hblocked => by rw [if_pos hblocked], fun hfree => by rw [if_neg (Bool.eq_false_iff.1 hfree)]⟩
  · intro i count more d
    have hlength : (s.takeItems r).data.items.length = r.data.items.length + count := s.takeItems_length r
    rw [step_of_no_command hpending, State.advance_of_reading hreading]
    refine ⟨fun hmore => ?_, fun hlast => ?_⟩
    · exact congrArg Host.Outcome.next (if_pos (hlength ▸ hmore))
    · exact congrArg Host.Outcome.next (if_neg (hlength ▸ Nat.not_lt.2 hlast))

/-! ## Power-on reset -/

/-- Settles O4: the state of RESET_N, part by part. -/
theorem powerOnResetRestoresEveryBlock : Obligations.PowerOnResetRestoresEveryBlock := by
  unfold Obligations.PowerOnResetRestoresEveryBlock
  intro faultPins stepDonePins indexPin tick s
  refine ⟨(s.at tick).powerOn ⟨faultPins, stepDonePins⟩ indexPin, rfl, rfl, rfl, rfl,
    ⟨rfl, rfl, rfl, rfl, rfl, rfl, rfl, rfl, fun i => ?_⟩, fun n => ?_, fun i => ?_, rfl, rfl, fun h => ?_, fun k => ?_,
    rfl, rfl, rfl, rfl, rfl, rfl, rfl, rfl, rfl, rfl, rfl⟩
  · simp [State.powerOn, Spindle.reset]
  · simp [State.powerOn, State.reset, Cache.reset, Slot.empty]
  · simp [State.powerOn, State.reset, Cache.reset]
  · simp [State.powerOn, State.reset, Port.reset]
  · simp [State.powerOn, State.reset, Events.reset]

end Sys2Proof.Machine

/-! A frame that a command row presents and that is not taken at once: symbols alone outside UP, stored or discarded in UP, and
kept where it stands at the head and is blocked (R165, R168 to R171, assumption 4). -/

namespace Sys2Proof.Machine

/-! ## What a presented frame and the head of the buffer say -/

theorem State.headSays_of_head {s : State} {g : Frame} {rest : List Frame} (h : s.lnk.inbound = g :: rest) (f : Frame) :
    s.headSays f = (decodeFrame g == decodeFrame f) := by
  unfold State.headSays
  rw [h]

theorem State.headWaits_of_head {s : State} {g : Frame} {rest : List Frame} (h : s.lnk.inbound = g :: rest) :
    s.headWaits = s.blocked (decodeFrame g) := by
  unfold State.headWaits
  rw [h]

/-- What the head says is read from the buffer alone. -/
theorem State.headSays_of_inbound {s t : State} (h : t.lnk.inbound = s.lnk.inbound) (f : Frame) :
    t.headSays f = s.headSays f := by
  unfold State.headSays
  rw [h]

/-- The frame does not stand at the head of the buffer. -/
theorem State.headSays_eq_false {s : State} {f : Frame}
    (h : ∀ g rest, s.lnk.inbound = g :: rest → decodeFrame g ≠ decodeFrame f) : s.headSays f = false := by
  cases hin : s.lnk.inbound with
  | nil => simp [State.headSays, hin]
  | cons g rest =>
    rw [State.headSays_of_head hin]
    exact beq_eq_false_iff_ne.2 (h g rest hin)

/-- A frame that has arrived is left in the buffer when another stands before it. -/
theorem State.present_of_behind {s : State} {f : Frame} (take : State → State) (h : (s.arrive f).headSays f = false) :
    s.present f take = s.arrive f := by
  simp [State.present, h]

/-- A frame that has arrived is left in the buffer when the head frame waits for room. -/
theorem State.present_of_headWaits {s : State} {f : Frame} (take : State → State) (h : (s.arrive f).headWaits = true) :
    s.present f take = s.arrive f := by
  simp [State.present, h]

/-! ## The watermark check and the answers -/

/-- A FLOW frame that is queued goes before every answer, and one that is withdrawn frees no lane (R172, R174). -/
theorem State.queueFlow_answers (s : State) (hold : Bool) :
    (s.queueFlow hold).lnk.replyQueue = s.lnk.replyQueue ∧ (s.queueFlow hold).lnk.dataQueue = s.lnk.dataQueue := by
  unfold State.queueFlow
  split
  · generalize hu : ({ s with lnk := { s.lnk with hold := hold, flowQueue := some hold } } : State) = u
    have hflow : u.lnk.flowQueue = some hold := by rw [← hu]
    have hsame : u.lnk.replyQueue = s.lnk.replyQueue ∧ u.lnk.dataQueue = s.lnk.dataQueue := by rw [← hu]; exact ⟨rfl, rfl⟩
    cases hfree : u.laneFree with
    | true => rwa [State.arbitrate_flow hfree hflow]
    | false => rwa [State.arbitrate_of_lane_busy hfree]
  · exact ⟨rfl, rfl⟩

theorem State.watermarkCheck_answers (s : State) :
    s.watermarkCheck.lnk.replyQueue = s.lnk.replyQueue ∧ s.watermarkCheck.lnk.dataQueue = s.lnk.dataQueue := by
  unfold State.watermarkCheck
  split
  · exact ⟨rfl, rfl⟩
  · split
    · exact s.queueFlow_answers true
    · split
      · exact s.queueFlow_answers false
      · exact ⟨rfl, rfl⟩

/-- Whether a frame is blocked is read from the read in progress and the queues of answers (R169, R170). -/
theorem State.blocked_of_answers {s t : State} (hreading : t.tlm.reading = s.tlm.reading)
    (hanswers : t.lnk.replyQueue = s.lnk.replyQueue ∧ t.lnk.dataQueue = s.lnk.dataQueue) (i : Inbound) :
    t.blocked i = s.blocked i := by
  obtain ⟨hreplies, hdata⟩ := hanswers
  unfold State.blocked
  rw [hreading]
  cases i <;> simp [State.answerFull, hreplies, hdata]

/-! ## The cases of a frame that is not taken -/

section
variable {s : State} {f : Frame} (take : State → State)

/-- Outside UP a frame that does not stand at the head is symbols alone (R165). -/
theorem State.present_of_symbols (hnot : s.headSays f = false) (hstate : s.lnk.state ≠ .up) :
    s.present f take = s.train := by
  have harrive : s.arrive f = s.train := by
    rw [State.arrive, hnot, if_neg Bool.false_ne_true, State.receiveWhole]
    cases hs : s.lnk.state with
    | down => rfl
    | training => rfl
    | up => exact absurd hs hstate
  have hinbound : s.train.lnk.inbound = s.lnk.inbound :=
    State.train_inv (P := fun t => t.lnk.inbound = s.lnk.inbound) s (fun _ _ ht => ht) (fun _ _ ht => ht) rfl
  rw [State.present_of_behind take (by rw [harrive, State.headSays_of_inbound hinbound, hnot]), harrive]

/-- In UP it is offered to the buffer (R168). -/
theorem State.arrive_up (hnot : s.headSays f = false) (hup : s.lnk.state = .up) (hnone : s.lnk.reception = none)
    (hlen : f.payload.length ≤ 1056) : s.arrive f = (s.seeSymbol s.now).offer f := by
  rw [State.arrive, hnot, if_neg Bool.false_ne_true, State.receiveWhole_up s f hup hnone hlen]

/-- A frame that fits is stored, and stays behind another frame or for want of room for its answer (R168 to R171). -/
theorem State.present_of_stored (hnot : s.headSays f = false) (hup : s.lnk.state = .up) (hnone : s.lnk.reception = none)
    (hlen : f.payload.length ≤ 1056) (hstays : s.lnk.inbound ≠ [] ∨ s.blocked (decodeFrame f) = true)
    (hfits : s.occupancy + f.size ≤ 32768) :
    s.present f take = ((s.seeSymbol s.now).store f).watermarkCheck := by
  have harrive : s.arrive f = ((s.seeSymbol s.now).store f).watermarkCheck :=
    (State.arrive_up hnot hup hnone hlen).trans (State.offer_of_fits hfits)
  have hinbound : (s.arrive f).lnk.inbound = s.lnk.inbound ++ [f] := by simp [harrive]
  rw [← harrive]
  cases hin : s.lnk.inbound with
  | nil =>
    have hblocked : s.blocked (decodeFrame f) = true := hstays.resolve_left (· hin)
    rw [hin, List.nil_append] at hinbound
    refine State.present_of_headWaits take ?_
    rw [State.headWaits_of_head hinbound, State.blocked_of_answers (s := s) (by simp [harrive]) ?_, hblocked]
    rw [harrive]
    exact State.watermarkCheck_answers _
  | cons g rest =>
    rw [hin, List.cons_append] at hinbound
    refine State.present_of_behind take ?_
    rw [State.headSays_of_head hinbound, ← State.headSays_of_head hin, hnot]

/-- A frame that does not fit is discarded with RX_OVERRUN (R168). -/
theorem State.present_of_overrun (hnot : s.headSays f = false) (hup : s.lnk.state = .up) (hnone : s.lnk.reception = none)
    (hlen : f.payload.length ≤ 1056) (hover : 32768 < s.occupancy + f.size) :
    s.present f take = (s.seeSymbol s.now).within fun v =>
      v.raisePlain .rxOverrun (rxOverrunDetail s.occupancy f.size f.kind.toNat) := by
  have harrive : s.arrive f = _ := (State.arrive_up hnot hup hnone hlen).trans (State.offer_of_overrun hover)
  have hinbound : (s.arrive f).lnk.inbound = s.lnk.inbound := by simp [harrive, State.within]
  rw [State.present_of_behind take (by rw [State.headSays_of_inbound hinbound, hnot]), harrive]
  rfl

/-- A frame that stands at the head and is blocked stays there (R170). -/
theorem State.present_of_blocked_head {g : Frame} {rest : List Frame} (hin : s.lnk.inbound = g :: rest)
    (hsays : decodeFrame g = decodeFrame f) (hblocked : s.blocked (decodeFrame f) = true) : s.present f take = s := by
  have harrive : s.arrive f = s := if_pos (by rw [State.headSays_of_head hin, hsays, beq_self_eq_true])
  rw [State.present_of_headWaits take (by rw [harrive, State.headWaits_of_head hin, hsays, hblocked]), harrive]

end

/-- Settles O3: the four rows present their frames, and the cases are those of a presented frame, whatever its owner. -/
theorem framesWaitTheirTurn : Obligations.FramesWaitTheirTurn := by
  unfold Obligations.FramesWaitTheirTurn
  intro s tag kind copy start count items sg tick u notHead waits
  have hwaits {i : Instr} {f : Frame} {take : State → State} (hexec : exec i s = .next ((s.at tick).present f take)) :
      waits i f := by
    have hstep {v : State} (h : (s.at tick).present f take = v) : exec i s = .next v :=
      hexec.trans (congrArg Host.Outcome.next h)
    refine ⟨fun hnotHead => ?_, fun g rest hin hsays hblocked =>
      hstep (State.present_of_blocked_head take hin hsays hblocked)⟩
    have hnot : (s.at tick).headSays f = false := State.headSays_eq_false hnotHead
    exact ⟨fun hdown => hstep ((State.present_of_symbols take hnot (by simp [hdown])).trans (State.train_of_down hdown)),
      fun htraining => hstep ((State.present_of_symbols take hnot (by simp [htraining])).trans
        (State.train_of_not_down (by simp [htraining]))),
      fun hup hnone hlen hstays => ⟨fun hfits => hstep (State.present_of_stored take hnot hup hnone hlen hstays hfits),
        fun hover => hstep (State.present_of_overrun take hnot hup hnone hlen hover)⟩⟩
  exact ⟨hwaits rfl, hwaits rfl, hwaits rfl, hwaits rfl⟩

end Sys2Proof.Machine

/-! The expiry of a fill: its slot and the records that named it, and the event that it raises, which the arbiter and EVR take
from the link, the records and the tables alone (R59, R79, R80, R174, R177, assumption 9). -/

namespace Sys2Proof.Machine

/-! ## What the arbiter and EVR read -/

/-- The link, the event records and the tables are the same in two states. -/
def State.SameLane (s t : State) : Prop := t.lnk = s.lnk ∧ t.evr.records = s.evr.records ∧ t.tlm = s.tlm

namespace State.SameLane

variable {s t : State}

theorem beginReport (h : SameLane s t) (k : EventKind) : SameLane (s.beginReport k) (t.beginReport k) := by
  obtain ⟨hlnk, hrecords, htlm⟩ := h
  have hlevel : t.level k = s.level k := by rw [State.level, htlm]; rfl
  unfold State.beginReport
  rw [hrecords, hlevel]
  split
  · exact ⟨hlnk, hrecords, htlm⟩
  · simp only [SameLane, State.beginFrame, hlnk, htlm, and_self]

/-- The arbiter chooses alike in both (R174). -/
theorem arbitrate (h : SameLane s t) : SameLane s.arbitrate t.arbitrate := by
  have hreport := h.beginReport
  obtain ⟨hlnk, hrecords, htlm⟩ := h
  have hfree : t.laneFree = s.laneFree := by rw [State.laneFree, hlnk]; rfl
  have hlevel : t.level = s.level := by funext k; rw [State.level, htlm]; rfl
  have hchoose : t.chooseReport = s.chooseReport := by
    have hbetter : t.better = s.better := by
      funext best k
      simp only [State.better, hrecords, hlevel]
    rw [State.chooseReport, hbetter]
    rfl
  unfold State.arbitrate
  rw [hfree, hlnk, hchoose]
  split
  · split
    · exact ⟨rfl, hrecords, htlm⟩
    · exact ⟨rfl, hrecords, htlm⟩
    · exact ⟨rfl, hrecords, htlm⟩
    · exact ⟨rfl, hrecords, htlm⟩
    · split
      · exact hreport _
      · exact ⟨hlnk, hrecords, htlm⟩
  · exact ⟨hlnk, hrecords, htlm⟩

/-- An occurrence is gathered alike in both (R177). -/
theorem raise (h : SameLane s t) (k : EventKind) (d : Word32) (m : BitVec 8) : SameLane (s.raise k d m) (t.raise k d m) := by
  have hrecord : SameLane (s.recordEvent k d m) (t.recordEvent k d m) := by
    obtain ⟨hlnk, hrecords, htlm⟩ := h
    have hlevel : t.level k = s.level k := by rw [State.level, htlm]; rfl
    have hset (v : Vector (Option Pending) 23) :
        SameLane { s with evr := { s.evr with records := v } } { t with evr := { t.evr with records := v } } :=
      ⟨hlnk, rfl, htlm⟩
    unfold State.recordEvent
    rw [hlevel, hrecords]
    split
    · exact ⟨hlnk, hrecords, htlm⟩
    · dsimp only
      split
      · exact (hset _).arbitrate
      · exact hset _
  obtain ⟨-, -, htlm⟩ := h
  have haction : t.routeAction k = s.routeAction k := by rw [State.routeAction, htlm]; rfl
  unfold State.raise
  rw [haction]
  dsimp only
  split <;> exact hrecord

end State.SameLane

/-! ## The records that name a slot (R59) -/

/-- Each queue has its records of the slot reverted. -/
theorem State.revertRecords_heads (s : State) (n : Fin 64) (h : Head) :
    (s.revertRecords n).heads[h] = { s.heads[h] with queue := s.heads[h].queue.map (TrackRecord.revert n) } := by
  obtain ⟨u, ⟨hhead, -, -⟩, -, ⟨hafter, -, -⟩⟩ :=
    State.eachHead_only (fun g t => State.Only.modHead t g fun c => { c with queue := c.queue.map (TrackRecord.revert n) })
      (fun _ _ => rfl) h s
  rw [State.revertRecords, hafter, State.modHead_heads, hhead]
  simp

/-! ## One expiry (R79, R80) -/

/-- With no routing action the event of an expiry leaves no action due. -/
theorem State.within_expireFill {s : State} (hno : s.noActions) (r : Request) :
    (s.within fun u => u.expireFill r) = ((s.setDue []).expireFill r).setDue s.evr.due := by
  refine State.within_of_no_due _ _ ?_
  have hno' : (((((s.setDue []).removeRequest r).emptySlot r.slot).revertRecords r.slot)).noActions :=
    State.noActions_of_route (by simp) hno
  exact (State.raise_due hno' _ _ _).trans (by simp)

/-- What an expiry makes of the cache, the entries and the heads, and what it leaves. -/
theorem State.expireFill_reads (s : State) (r : Request) :
    (s.expireFill r).cca = { s.cca with slots := s.cca.slots.set r.slot Slot.empty } ∧
    (s.expireFill r).cfu = { s.cfu with requests := s.cfu.requests.filter fun q => q.key != r.key } ∧
    ∀ h : Head, (s.expireFill r).heads[h] =
      { s.heads[h] with queue := s.heads[h].queue.map (TrackRecord.revert r.slot) } := by
  refine ⟨?_, by simp [State.expireFill], fun h => ?_⟩
  · simp only [State.expireFill, State.raisePlain_keeps, State.revertRecords_keeps]
    rfl
  · simp only [State.expireFill, State.raisePlain_keeps, State.revertRecords_heads]
    rfl

/-- The event of an expiry, as the link and EVR take it: a waiting request of the fill is withdrawn before it. -/
theorem State.expireFill_lane {s t : State} (h : State.SameLane s t) (r : Request) :
    State.SameLane
      ({ s with lnk := { s.lnk with requestQueue := s.lnk.requestQueue.filter fun q => r.id == 0 || q.id != r.id } }.raisePlain
        .fillTimeout (fillTimeoutDetail r.key.tile.val r.key.column.val r.received))
      (t.expireFill r) := by
  obtain ⟨hlnk, hrecords, htlm⟩ := h
  refine State.SameLane.raise ⟨?_, ?_, ?_⟩ _ _ _ <;> simp [hlnk, hrecords, htlm]

theorem State.fillExpiry_of_none {s : State} (h : s.cfu.requests.find? s.expired = none) : s.fillExpiry = s := by
  unfold State.fillExpiry
  rw [h]

/-- The oldest entry that has expired is taken, and a planning pass follows (R80). -/
theorem State.fillExpiry_of_some {s : State} {r : Request} (h : s.cfu.requests.find? s.expired = some r)
    (hno : s.noActions) :
    s.fillExpiry = (((s.setDue []).expireFill r).setDue s.evr.due).within State.planningPass := by
  unfold State.fillExpiry
  rw [h, ← State.within_expireFill hno]

/-- Settles O35: the oldest entry that has expired is the one found, and its expiry leaves no action due. -/
theorem expiryEmptiesSlot : Obligations.ExpiryEmptiesSlot := by
  unfold Obligations.ExpiryEmptiesSlot
  intro s tick late
  have hlate : (s.at tick).expired = late := by
    funext r
    simp only [late, State.expired, State.fillTimeout, Config.ticksPerMs, State.at_keeps, State.at_now, Nat.mul_comm]
  refine ⟨fun hnone => ?_, fun r hr hno => ?_⟩
  · exact congrArg Host.Outcome.next (State.fillExpiry_of_none (s := s.at tick) (hlate ▸ hnone))
  · intro u
    have hexpiry := State.fillExpiry_of_some (s := s.at tick) (hlate ▸ hr) hno
    obtain ⟨hcca, hcfu, hheads⟩ := ((s.at tick).setDue []).expireFill_reads r
    obtain ⟨hlnk, hrecords, -⟩ := State.expireFill_lane (s := s.at tick) (t := (s.at tick).setDue []) ⟨rfl, rfl, rfl⟩ r
    refine ⟨_, congrArg Host.Outcome.next hexpiry, hcca, hcfu, hheads, hlnk, hrecords, ?_⟩
    simp

end Sys2Proof.Machine

/-! SOFT_RESET outside RUNNING and HALTING: the reply takes the lane or the lane was taken before it, so that JOB_STATE is
gathered and stays, and no job is in motion for an action to move (R142, R152, R153, R170, R172, R177). -/

namespace Sys2Proof.Machine

/-! ## The reply, and the event after it -/

/-- With the queues emptied, a reply that does not wait has begun transmission: the lane is not free after it (R174). -/
theorem State.answer_lane_busy {s : State} (hflow : s.lnk.flowQueue = none) (hrequest : s.lnk.requestQueue = [])
    (hreply : s.lnk.replyQueue = []) (tag code : Byte) (r : Result) : (s.answer tag code r).laneFree = false := by
  unfold State.answer State.queueReply
  generalize hu : ({ s with lnk := { s.lnk with replyQueue := s.lnk.replyQueue ++ [commandReply tag code r] } } : State) = u
  cases hfree : u.laneFree with
  | true =>
    have hqueued : u.lnk.flowQueue = none ∧ u.lnk.requestQueue = [] ∧ u.lnk.replyQueue = [commandReply tag code r] := by
      subst hu
      exact ⟨hflow, hrequest, by rw [hreply]; rfl⟩
    obtain ⟨hflow', hrequest', hreply'⟩ := hqueued
    rw [State.arbitrate_reply hfree hflow' hrequest' hreply']
    simp [State.laneFree]
  | false => rw [State.arbitrate_of_lane_busy hfree, hfree]

/-- JOB_STATE with cause RESET moves neither the job nor the heads, the cache or the tables: no job is in motion. -/
theorem State.raiseReset_blocks {s : State} (hjob : s.jcu.state.inMotion = false) (before : JobState) :
    (s.raiseReset before).jcu = s.jcu ∧ (s.raiseReset before).heads = s.heads ∧ (s.raiseReset before).pipes = s.pipes ∧
    (s.raiseReset before).cca = s.cca ∧ (s.raiseReset before).tlm = s.tlm := by
  unfold State.raiseReset
  split
  · simp
  · rw [State.within_of_not_inMotion _ _ (by simpa using hjob)]
    simp

/-- On a lane that is not free it is gathered, when the job was not IDLE, and the link stays as it is (R177). -/
theorem State.raiseReset_lane {s : State} (hjob : s.jcu.state.inMotion = false) (hbusy : s.laneFree = false)
    (before : JobState) :
    (s.raiseReset before).lnk = s.lnk ∧
    (s.raiseReset before).evr.records =
      if before = .idle then s.evr.records else s.gathered .jobState (jobStateDetail before .idle .reset) 0 := by
  unfold State.raiseReset
  split
  · exact ⟨rfl, rfl⟩
  · rw [State.within_of_not_inMotion _ _ (by simpa using hjob)]
    exact State.raise_gathers (s := s.setDue []) hbusy .jobState _ 0

/-- An occurrence that is gathered with no record pending is the one record, when its kind has a level. -/
theorem State.gathered_of_clear {s : State} (hclear : ∀ k : EventKind, s.evr.records[k.num] = none) (j k : EventKind)
    (d : Word32) : (s.gathered j d 0)[k.num] =
      if k = j ∧ s.level j ≠ 0 then some { count := 1, mask := 0, detail := d } else none := by
  by_cases hk : k = j
  · subst hk
    rw [State.gathered_self, hclear]
    by_cases hlevel : s.level k = 0 <;> simp [hlevel, gather]
  · rw [State.gathered_other s (Ne.symm hk), hclear, if_neg fun ⟨hself, _⟩ => hk hself]

/-! ## The blocks after SOFT_RESET (R152, R153) -/

/-- JCU takes SOFT_RESET with no job in motion. -/
theorem State.takeSoftReset_of_not_inMotion {s : State} (tag : Byte) (h : s.jcu.state.inMotion = false) :
    s.takeSoftReset tag =
      ((({ s with lnk := s.lnk.emptyQueues }).answer tag 0x06 .accepted).resetBlocks).raiseReset s.jcu.state :=
  if_neg (Bool.eq_false_iff.1 h)

/-- Each port returns to its reset values, with its filters at the levels of its inputs (R134). -/
theorem State.resetBlocks_port (s : State) (h : Head) :
    s.resetBlocks.ports[h] = Port.reset s.ports[h].faultPin s.ports[h].stepDonePin := by
  simp [State.resetBlocks]

/-- The blocks that SOFT_RESET returns to their reset values, and those it leaves. -/
theorem State.takeSoftReset_reads {s : State} (tag : Byte) (h : s.jcu.state.inMotion = false) :
    let t := s.takeSoftReset tag
    t.jcu = Job.reset ∧ t.stu = Spindle.reset s.stu.indexPin ∧ t.cfu = Fetch.reset ∧
    t.cca = { Cache.reset with samples := s.cca.samples } ∧ t.tlm = s.tlm ∧
    t.heads = Vector.replicate 8 Channel.reset ∧ t.pipes = Vector.replicate 8 Pipe.reset ∧
    ∀ g : Head, t.ports[g] = Port.reset s.ports[g].faultPin s.ports[g].stepDonePin := by
  intro t
  have ht : t = _ := State.takeSoftReset_of_not_inMotion tag h
  have hanswer := ({ s with lnk := s.lnk.emptyQueues }).answer_keeps tag 0x06 .accepted
  generalize ({ s with lnk := s.lnk.emptyQueues }).answer tag 0x06 .accepted = u at ht hanswer
  obtain ⟨-, hustu, -, -, -, -, -, huports, hucca, hutlm, -⟩ := hanswer
  obtain ⟨hjcu, hheads, hpipes, hcca, htlm⟩ := State.raiseReset_blocks (s := u.resetBlocks) rfl s.jcu.state
  rw [ht]
  refine ⟨hjcu, by simp [hustu], by simp, by simp [hcca, hucca], htlm.trans hutlm, hheads, hpipes, fun g => ?_⟩
  simp only [State.raiseReset_keeps, State.resetBlocks_port, huports]

/-- The link and the records after SOFT_RESET: the reply, and JOB_STATE when the job was not IDLE. -/
theorem State.takeSoftReset_lane {s : State} (tag : Byte) (h : s.jcu.state.inMotion = false) :
    (s.takeSoftReset tag).lnk = (({ s with lnk := s.lnk.emptyQueues }).answer tag 0x06 .accepted).lnk ∧
    ∀ k : EventKind, (s.takeSoftReset tag).evr.records[k.num] =
      if k = .jobState ∧ s.jcu.state ≠ .idle ∧ s.level .jobState ≠ 0
      then some { count := 1, mask := 0, detail := jobStateDetail s.jcu.state .idle .reset } else none := by
  have hbusy : (({ s with lnk := s.lnk.emptyQueues }).answer tag 0x06 .accepted).laneFree = false :=
    State.answer_lane_busy rfl rfl rfl _ _ _
  generalize hu : ({ s with lnk := s.lnk.emptyQueues }).answer tag 0x06 .accepted = u at hbusy
  have htlm : u.tlm = s.tlm := by subst hu; simp
  have hclear (k : EventKind) : u.resetBlocks.evr.records[k.num] = none := by simp [Events.reset]
  have hlevel : u.resetBlocks.level .jobState = s.level .jobState := by rw [State.level, State.level, ← htlm]; rfl
  obtain ⟨hlnk, hrecords⟩ := State.raiseReset_lane (s := u.resetBlocks) rfl hbusy s.jcu.state
  rw [State.takeSoftReset_of_not_inMotion tag h, hu, hrecords]
  refine ⟨hlnk, fun k => ?_⟩
  by_cases hidle : s.jcu.state = .idle
  · rw [if_pos hidle, hclear, if_neg fun ⟨_, hmoved, _⟩ => hmoved hidle]
  · rw [if_neg hidle, State.gathered_of_clear hclear, hlevel]
    simp [hidle]

/-! ## The TABLE_READ behind it (R153, R170) -/

theorem State.readWaits_iff (s : State) :
    s.readWaits = true ↔ 2 ≤ s.lnk.dataQueue.length ∧
      ∃ f rest tag kind copy start count, s.lnk.inbound = f :: rest ∧
        decodeFrame f = .tableRead tag kind copy start count := by
  have hfull (tag kind copy : Byte) (start count : Item) :
      s.answerFull (.tableRead tag kind copy start count) = true ↔ 2 ≤ s.lnk.dataQueue.length := decide_eq_true_iff
  unfold State.readWaits
  cases s.lnk.inbound with
  | nil => simp
  | cons f rest => cases hf : decodeFrame f <;> simp [hf, hfull]

/-- A TABLE_READ at the head is dispatched as any head frame is (R169). -/
theorem State.dispatchRead_of_read {s : State} {f : Frame} {rest : List Frame} {tag kind copy : Byte} {start count : Item}
    (hin : s.lnk.inbound = f :: rest) (hf : decodeFrame f = .tableRead tag kind copy start count) :
    s.dispatchRead = s.dispatchHead := by
  simp only [State.dispatchRead, State.dispatchHead, hin, List.head?_cons, Option.map_some, hf, State.takeInbound]

/-- The queues towards the server are as they were when a frame is taken. -/
theorem State.taken_queues (s : State) (tick : Nat) :
    (s.taken tick).lnk.flowQueue = s.lnk.flowQueue ∧ (s.taken tick).lnk.hold = s.lnk.hold ∧
    (s.taken tick).lnk.dataQueue = s.lnk.dataQueue := by
  unfold State.taken
  split <;> exact ⟨rfl, rfl, rfl⟩

/-- Settles O13: JCU takes the frame at once, and the state that it leaves has every block at its reset values before a
TABLE_READ behind it is dispatched. -/
theorem softResetRestoresBlocks : Obligations.SoftResetRestoresBlocks := by
  unfold Obligations.SoftResetRestoresBlocks
  intro s tag tick htakes hrunning hhalting l u readWaits
  obtain ⟨hjcu, htlm, hstu, hcca, -, -, -, hports, -⟩ := s.taken_keeps tick
  obtain ⟨hflow, hhold, hdata⟩ := s.taken_queues tick
  have hjob : (s.taken tick).jcu.state.inMotion = false := by
    rw [hjcu]
    simpa [JobState.inMotion] using And.intro hrunning hhalting
  have hl : (s.taken tick).lnk.emptyQueues = l := by
    simp only [Link.emptyQueues, hflow, hhold]
    rfl
  have hwaits : (s.taken tick).readWaits = true ↔ readWaits := by rw [State.readWaits_iff, hdata]
  have hexec : exec (.softReset tag tick) s = .next ((s.taken tick).softReset tag) := exec_softReset_of_takes tick htakes
  obtain ⟨htjcu, htstu, htcfu, htcca, httlm, htheads, htpipes, htports⟩ := State.takeSoftReset_reads tag hjob
  obtain ⟨htlnk, htrecords⟩ := State.takeSoftReset_lane tag hjob
  rw [hl] at htlnk
  refine ⟨(s.taken tick).takeSoftReset tag, fun hnot => ?_, fun hread => ?_, htjcu, ?_, htcfu, htlnk, fun n => ?_,
    fun i => ?_, ?_, fun h => ⟨?_, ?_, ?_⟩, ?_, fun k => ?_⟩
  · rw [hexec, State.softReset, if_neg (mt hwaits.1 hnot)]
  · have ⟨_, f, rest, _, _, _, _, _, hin, hf⟩ := hread
    have hinbound : ((s.taken tick).takeSoftReset tag).lnk.inbound = f :: rest := by simpa using hin
    rw [hexec, State.softReset, if_pos (hwaits.2 hread), State.dispatchRead_of_read hinbound hf]
  · rw [htstu, hstu]
  · simp [htcca, Cache.reset]
  · simp [htcca, Cache.reset]
  · rw [htcca, hcca]
  · simp [htheads]
  · simp [htpipes]
  · rw [htports, hports]
  · rw [httlm, htlm]
  · rw [htrecords, hjcu, State.level, htlm]
    rfl

end Sys2Proof.Machine

/-! A planning pass: how far each queue is extended and with which tracks, and what it makes of each record that it serves
(R51 to R55, R71, R72, R106 to R108). -/

namespace Sys2Proof.Machine

/-! ## One channel changed -/

/-- A change that is the same on the channel is the same change. -/
theorem State.modHead_congr {s : State} {h : Head} {f g : Channel → Channel} (hfg : f s.heads[h] = g s.heads[h]) :
    s.modHead h f = s.modHead h g := by
  unfold State.modHead
  rw [hfg]

/-- A change that leaves the channel changes nothing. -/
theorem State.modHead_of_eq {s : State} {h : Head} {f : Channel → Channel} (hf : f s.heads[h] = s.heads[h]) :
    s.modHead h f = s := by
  unfold State.modHead
  rw [hf]
  simp

/-- Two changes of one channel are one. -/
theorem State.modHead_modHead (s : State) (h : Head) (f g : Channel → Channel) :
    (s.modHead h f).modHead h g = s.modHead h fun c => g (f c) := by
  simp [State.modHead]

/-! ## The first stage (R107) -/

/-- A queue with records of `m` tracks more at its tail, from its plan track on. -/
def Channel.withPlans (c : Channel) (record : Nat → TrackRecord) (m : Nat) : Channel :=
  { c with queue := c.queue ++ (List.range m).map fun i => record (c.planTrack + i) }

theorem Channel.withPlans_zero (c : Channel) (record : Nat → TrackRecord) : c.withPlans record 0 = c := by
  simp [Channel.withPlans]

/-- One record appended, and then `m` more. -/
theorem Channel.withPlans_succ (c : Channel) {record : Nat → TrackRecord} (hrecord : ∀ k, (record k).track = k) (m : Nat) :
    ({ c with queue := c.queue ++ [record c.planTrack] } : Channel).withPlans record m = c.withPlans record (m + 1) := by
  have htrack : ({ c with queue := c.queue ++ [record c.planTrack] } : Channel).planTrack = c.planTrack + 1 := by
    simp [Channel.planTrack, hrecord]
  simp only [Channel.withPlans, htrack, List.range_succ_eq_map, List.map_cons, List.map_map, List.append_assoc]
  have hmore : ((fun i => record (c.planTrack + i)) ∘ Nat.succ) = fun i => record (c.planTrack + 1 + i) := by
    funext i
    exact congrArg record (by omega)
  rw [hmore]
  rfl

/-- The number of records that a queue is short of, within its head's range (R107). -/
def State.planRoom (s : State) (h : Head) (c : Channel) : Nat :=
  min (1 + s.lookahead - c.queue.length) (s.lastTrack h + 1 - c.planTrack)

/-- A queue is extended until it is full, the range ends or the steps are used up. -/
theorem State.extendQueue_eq (h : Head) (n : Nat) : ∀ s : State, State.extendQueue h n s =
    s.modHead h fun c => c.withPlans s.newRecord (min n (s.planRoom h s.heads[h])) := by
  have hkeep (s : State) (m : Nat) (hm : m = 0) : s = s.modHead h fun c => c.withPlans s.newRecord m := by
    simp [hm, Channel.withPlans_zero, State.modHead]
  induction n with
  | zero => exact fun s => hkeep s _ (Nat.zero_min _)
  | succ n ih =>
    intro s
    unfold State.extendQueue
    split
    · next hroom =>
      obtain ⟨hlookahead, hlast⟩ := hroom
      have hself : (s.appendRecord h).heads[h] =
          { s.heads[h] with queue := s.heads[h].queue ++ [s.newRecord s.heads[h].planTrack] } := by
        simp [State.appendRecord]
      have htrack : (s.appendRecord h).heads[h].planTrack = s.heads[h].planTrack + 1 := by
        rw [hself]
        simp [Channel.planTrack, State.newRecord]
      have hlength : (s.appendRecord h).heads[h].queue.length = s.heads[h].queue.length + 1 := by simp [hself]
      have hmore : min (n + 1) (s.planRoom h s.heads[h]) =
          min n ((s.appendRecord h).planRoom h (s.appendRecord h).heads[h]) + 1 := by
        have hsame : (s.appendRecord h).lookahead = s.lookahead ∧ (s.appendRecord h).lastTrack h = s.lastTrack h :=
          ⟨rfl, rfl⟩
        simp only [State.planRoom, htrack, hlength, hsame]
        omega
      have hrecord : (s.appendRecord h).newRecord = s.newRecord := rfl
      rw [ih, hmore, hrecord, State.appendRecord, State.modHead_modHead]
      exact State.modHead_congr (Channel.withPlans_succ _ (fun _ => rfl) _)
    · next hfull =>
      refine hkeep s _ ?_
      unfold State.planRoom
      omega

/-- The channel of a head after the first stage of a pass. -/
def State.extended (s : State) (h : Head) (c : Channel) : Channel :=
  if c.state.moving then c.withPlans s.newRecord (s.planRoom h c) else c

/-- Its queue alone is another. -/
theorem State.extended_eq (s : State) (h : Head) (c : Channel) : s.extended h c = { c with queue :=
    if c.state == .waiting || c.state == .engraving then
      c.queue ++ ((List.range (s.planRoom h c)).map fun i => s.newRecord (c.planTrack + i))
    else c.queue } := by
  unfold State.extended HeadState.moving
  split <;> rfl

theorem State.extendHead_eq (h : Head) (s : State) : State.extendHead h s = s.modHead h (s.extended h) := by
  have hmin : min (1 + s.lookahead) (s.planRoom h s.heads[h]) = s.planRoom h s.heads[h] := by
    unfold State.planRoom
    omega
  unfold State.extendHead
  split
  · next hmoving =>
    rw [State.extendQueue_eq, hmin]
    exact State.modHead_congr (if_pos hmoving).symm
  · next hrest => exact (State.modHead_of_eq (if_neg hrest)).symm

/-- The eight heads in order, each of which changes its own channel alone, by the tables of the first state. -/
theorem State.eachHead_eq_ofFn {s : State} {f : Head → State → State} {g : Head → Channel → Channel}
    (hf : ∀ h t, t.tlm = s.tlm → f h t = t.modHead h (g h)) :
    s.eachHead f = { s with heads := Vector.ofFn fun h : Head => g h s.heads[h] } := by
  have hlist (hs : List Head) : hs.Nodup → ∀ t : State, t.tlm = s.tlm → ∃ v : Vector Channel 8,
      hs.foldl (fun t h => f h t) t = { t with heads := v } ∧
        ∀ h : Head, v[h] = if h ∈ hs then g h t.heads[h] else t.heads[h] := by
    induction hs with
    | nil => exact fun _ t _ => ⟨t.heads, rfl, fun h => by simp⟩
    | cons k ks ih =>
      intro hnodup t ht
      obtain ⟨hk, hks⟩ := List.nodup_cons.1 hnodup
      obtain ⟨v, hfold, hv⟩ := ih hks (t.modHead k (g k)) ht
      refine ⟨v, ?_, fun h => ?_⟩
      · rw [List.foldl_cons, hf k t ht, hfold]
        rfl
      · rw [hv h]
        by_cases he : h = k
        · subst he
          simp [hk]
        · have hother := (State.Only.modHead t k (g k) h he).1
          simp only [List.mem_cons, he, false_or, hother]
  obtain ⟨v, hfold, hv⟩ := hlist headOrder (by decide) s rfl
  have hall : v = Vector.ofFn fun h : Head => g h s.heads[h] := by
    ext1 i hi
    have hi' := hv ⟨i, hi⟩
    rw [if_pos (mem_headOrder _)] at hi'
    rw [Vector.getElem_ofFn]
    exact hi'
  exact hall ▸ hfold

/-- After the first stage each queue is extended and nothing else changed. -/
theorem State.extendHeads_eq (s : State) :
    s.eachHead State.extendHead = { s with heads := Vector.ofFn fun h : Head => s.extended h s.heads[h] } := by
  refine State.eachHead_eq_ofFn fun h t ht => ?_
  rw [State.extendHead_eq]
  have hrecord : t.newRecord = s.newRecord := by
    funext k
    simp only [State.newRecord, State.trackBody, State.laneOfTrack, State.laneOn, State.tileOfLane, State.defaultTone, ht]
  have hroom : t.planRoom h = s.planRoom h := by
    funext c
    simp only [State.planRoom, State.lookahead, State.lastTrack, ht]
  congr 1
  funext c
  simp only [State.extended, hrecord, hroom]

/-! ## The second stage (R108) -/

/-- The search for a free id takes the first one (R71). -/
theorem freeId_first (held : List Byte) (n : Nat) : ∀ c, ∃ m ≤ n, freeId held n c = nextId^[m] c ∧
    (∀ i < m, nextId^[i] c ∈ held) ∧ (m < n → freeId held n c ∉ held) := by
  induction n with
  | zero => exact fun c => ⟨0, le_rfl, rfl, nofun, nofun⟩
  | succ n ih =>
    intro c
    rw [freeId]
    split
    · next hc =>
      obtain ⟨m, hm, hid, hheld, hfree⟩ := ih (nextId c)
      refine ⟨m + 1, Nat.succ_le_succ hm, hid, fun i hi => ?_, fun hlt => hfree (Nat.lt_of_succ_lt_succ hlt)⟩
      cases i with
      | zero => simpa using hc
      | succ i => exact hheld i (Nat.lt_of_succ_lt_succ hi)
    · next hc => exact ⟨0, Nat.zero_le _, rfl, nofun, fun _ => by simpa using hc⟩

/-- A record that a head's queue does not hold, a MARGIN record and one that names a slot are left (R108). -/
theorem State.resolveRecord_left {h : Head} {s : State} {j : Nat}
    (hleft : ∀ k, s.heads[h].queue[j]?.map TrackRecord.body ≠ some (.image k none)) : State.resolveRecord h s j = s := by
  unfold State.resolveRecord
  split
  · next hbody => exact absurd hbody (hleft _)
  all_goals rfl

section
variable {h : Head} {s : State} {j : Nat} {k : Key}
  (hbody : s.heads[h].queue[j]?.map TrackRecord.body = some (.image k none))
include hbody

/-- A hit (R51, R53). -/
theorem State.resolveRecord_hit {n : Fin 64} (hhit : s.lookup k = some n) :
    State.resolveRecord h s j = (s.pin n).setRecordSlot h j k n := by
  simp only [State.resolveRecord, hbody, hhit]

/-- A miss with no entry free. -/
theorem State.resolveRecord_full (hmiss : s.lookup k = none) (hfull : Config.requestEntries ≤ s.cfu.requests.length) :
    State.resolveRecord h s j = s := by
  simp only [State.resolveRecord, hbody, hmiss, if_neg (Nat.not_lt.2 hfull)]

/-- A miss with no victim. -/
theorem State.resolveRecord_conflict (hmiss : s.lookup k = none) (hroom : s.cfu.requests.length < Config.requestEntries)
    (hnone : s.victim (keySet k) = none) :
    State.resolveRecord h s j =
      s.raiseHead h .cacheConflict (conflictDetail (keySet k).val k.tile.val k.column.val) := by
  simp only [State.resolveRecord, hbody, hmiss, if_pos hroom, hnone]

/-- A miss that begins a fill (R55, R71, R72). -/
theorem State.resolveRecord_fill (hmiss : s.lookup k = none) (hroom : s.cfu.requests.length < Config.requestEntries)
    {n : Fin 64} (hvictim : s.victim (keySet k) = some n) :
    State.resolveRecord h s j = ((s.allocate n k 1).createRequest k n).setRecordSlot h j k n := by
  simp only [State.resolveRecord, hbody, hmiss, if_pos hroom, hvictim]

end

/-- Serving a record changes nothing, raises a conflict, pins the slot of a hit or begins a fill. -/
theorem State.resolveRecord_cases {P : State → Prop} {h : Head} {s : State} {j : Nat} (left : P s)
    (conflict : ∀ d, P (s.raiseHead h .cacheConflict d))
    (hit : ∀ k n, s.heads[h].queue[j]?.map TrackRecord.body = some (.image k none) →
      P ((s.pin n).setRecordSlot h j k n))
    (fill : ∀ k n, s.heads[h].queue[j]?.map TrackRecord.body = some (.image k none) → s.victim (keySet k) = some n →
      P (((s.allocate n k 1).createRequest k n).setRecordSlot h j k n)) : P (State.resolveRecord h s j) := by
  by_cases hleft : ∃ k, s.heads[h].queue[j]?.map TrackRecord.body = some (.image k none)
  · obtain ⟨k, hbody⟩ := hleft
    cases hlookup : s.lookup k with
    | some n => exact State.resolveRecord_hit hbody hlookup ▸ hit k n hbody
    | none =>
      by_cases hroom : s.cfu.requests.length < Config.requestEntries
      · cases hvictim : s.victim (keySet k) with
        | none => exact State.resolveRecord_conflict hbody hlookup hroom hvictim ▸ conflict _
        | some n => exact State.resolveRecord_fill hbody hlookup hroom hvictim ▸ fill k n hbody hvictim
      · exact (State.resolveRecord_full hbody hlookup (Nat.le_of_not_lt hroom)).symm ▸ left
  · exact (State.resolveRecord_left fun k hk => hleft ⟨k, hk⟩).symm ▸ left

/-- What the second stage makes of a record is what R108 says of it. -/
theorem State.resolveRecord_served (h : Head) (s : State) (j : Nat) : s.Served h j (State.resolveRecord h s j) := by
  intro r hr
  have hrbody : s.heads[h].queue[j]?.map TrackRecord.body = some r.body := by rw [hr]; rfl
  refine ⟨fun tone hb => ?_, fun k n hb => ?_, fun k hb => ?_⟩
  · exact State.resolveRecord_left fun k => by rw [hrbody, hb]; nofun
  · exact State.resolveRecord_left fun k => by rw [hrbody, hb]; nofun
  · rw [hb] at hrbody
    refine ⟨fun n hhit => ?_, State.resolveRecord_full hrbody, fun hmiss hroom =>
      ⟨State.resolveRecord_conflict hrbody hmiss hroom, fun n hvictim => ?_⟩⟩
    · rw [State.resolveRecord_hit hrbody hhit]
      rfl
    · rw [State.resolveRecord_fill hrbody hmiss hroom hvictim]
      exact ⟨_, freeId_first _ _ _, rfl⟩

/-- Records served, and then others. -/
theorem State.ServedInOrder.append {l₁ l₂ : List (Head × Nat)} : ∀ {s t u : State}, State.ServedInOrder l₁ s t →
    State.ServedInOrder l₂ t u → State.ServedInOrder (l₁ ++ l₂) s u := by
  induction l₁ with
  | nil => rintro s t u rfl hu; exact hu
  | cons p ps ih =>
    rintro s t u ⟨v, hv, ht⟩ hu
    exact ⟨v, hv, ih ht hu⟩

theorem State.foldl_resolveRecord_served (h : Head) (js : List Nat) : ∀ s : State,
    State.ServedInOrder (js.map fun j => (h, j)) s (js.foldl (State.resolveRecord h) s) := by
  induction js with
  | nil => exact fun _ => rfl
  | cons j js ih => exact fun s => ⟨_, State.resolveRecord_served h s j, ih _⟩

/-- What decides which records of a channel are served: its state and the length of its queue. -/
def Channel.extent (c : Channel) : HeadState × Nat := (c.state, c.queue.length)

/-- Serving a record moves neither. -/
theorem State.resolveRecord_extent (h : Head) (s : State) (j : Nat) (g : Head) :
    (State.resolveRecord h s j).heads[g].extent = s.heads[g].extent := by
  have hslot (t : State) (ht : t.heads = s.heads) (k : Key) (n : Fin 64) :
      (t.setRecordSlot h j k n).heads[g].extent = s.heads[g].extent := by
    rw [← ht]
    exact State.modHead_leaves Channel.extent t h (by simp [Channel.extent]) g
  exact State.resolveRecord_cases (P := fun t => t.heads[g].extent = s.heads[g].extent) rfl (fun d => by simp)
    (fun k n _ => hslot _ (by simp) k n) fun k n _ _ => hslot _ (by simp) k n

theorem State.resolveHead_extent (h : Head) (s : State) (g : Head) :
    (State.resolveHead h s).heads[g].extent = s.heads[g].extent := by
  have hlist (js : List Nat) : ∀ t : State,
      (js.foldl (State.resolveRecord h) t).heads[g].extent = t.heads[g].extent := by
    induction js with
    | nil => exact fun _ => rfl
    | cons j js ih => exact fun t => (ih _).trans (State.resolveRecord_extent h t j g)
  unfold State.resolveHead
  split
  · exact hlist _ s
  · rfl

/-- The records that the second stage serves of a channel. -/
def Channel.toServe (h : Head) (c : Channel) : List (Head × Nat) :=
  if c.state.moving then (List.range c.queue.length).map fun j => (h, j) else []

/-- They are those of its state and the length of its queue. -/
theorem Channel.toServe_congr {c d : Channel} (hcd : d.extent = c.extent) (h : Head) : d.toServe h = c.toServe h := by
  obtain ⟨hstate, hlength⟩ := Prod.mk.inj hcd
  unfold Channel.toServe
  rw [hstate, hlength]

theorem State.resolveHead_served (h : Head) (s : State) :
    State.ServedInOrder (s.heads[h].toServe h) s (State.resolveHead h s) := by
  unfold State.resolveHead Channel.toServe
  split
  · exact State.foldl_resolveRecord_served h _ s
  · rfl

/-- The second stage serves the records of the heads in order. -/
theorem State.resolveHeads_served (s : State) :
    State.ServedInOrder (headOrder.flatMap fun h => s.heads[h].toServe h) s (s.eachHead State.resolveHead) := by
  have hlist (hs : List Head) : ∀ t : State, (∀ g : Head, t.heads[g].extent = s.heads[g].extent) →
      State.ServedInOrder (hs.flatMap fun h => s.heads[h].toServe h) t (hs.foldl (fun t h => State.resolveHead h t) t) := by
    induction hs with
    | nil => exact fun _ _ => rfl
    | cons h hs ih =>
      intro t ht
      have hfirst := State.resolveHead_served h t
      rw [Channel.toServe_congr (ht h)] at hfirst
      exact hfirst.append (ih _ fun g => (State.resolveHead_extent h t g).trans (ht g))
  exact hlist headOrder s fun _ => rfl

/-- A pass serves the records of the queues as the first stage has left them. -/
theorem State.planningPass_served {s t : State} (ht : s.eachHead State.extendHead = t) {records : List (Head × Nat)}
    (hrecords : (headOrder.flatMap fun h => t.heads[h].toServe h) = records) :
    State.ServedInOrder records t s.planningPass := by
  rw [← hrecords, State.planningPass, ht]
  exact State.resolveHeads_served t

/-- Settles O23: the first stage by the length that each queue is extended to, the second record by record. -/
theorem planningPassServesRecordsInOrder : Obligations.PlanningPassServesRecordsInOrder := by
  unfold Obligations.PlanningPassServesRecordsInOrder
  intro s
  dsimp only
  refine State.planningPass_served ?_ ?_
  · simp only [State.extendHeads_eq, State.extended_eq]
    rfl
  · simp only [Channel.toServe, Fin.getElem_fin, Vector.getElem_ofFn, Fin.eta]
    rfl

end Sys2Proof.Machine

/-! What the events of a head make of its track records and of the pins: records leave the queue, each unpins its slot once,
and the other heads keep their channels (R52, R103, R117, R122). -/

namespace Sys2Proof.Machine

/-! ## The slots that a queue names -/

/-- Whether a record names a slot is read off its body. -/
theorem countP_names_of_body {q r : List TrackRecord} (h : q.map TrackRecord.body = r.map TrackRecord.body) (n : Fin 64) :
    q.countP (TrackRecord.names n) = r.countP (TrackRecord.names n) := by
  have hbody (l : List TrackRecord) : l.countP (TrackRecord.names n) = (l.map TrackRecord.body).countP fun b =>
      TrackRecord.names n { track := 0, body := b, active := false, suppressed := false } := by
    rw [List.countP_map]
    rfl
  rw [hbody, hbody, h]

/-- Head `h` loses no more than records of its queue, and each slot one pin for every record lost that names it (R52). -/
structure State.Sheds (h : Head) (s t : State) : Prop where
  other : ∀ g ≠ h, t.heads[g] = s.heads[g]
  length : t.heads[h].queue.length ≤ s.heads[h].queue.length
  unpins : ∃ rs, State.Unpins rs s t ∧ ∀ n, s.heads[h].queue.countP (TrackRecord.names n) =
    rs.countP (TrackRecord.names n) + t.heads[h].queue.countP (TrackRecord.names n)

namespace State.Sheds

variable {h : Head} {s t u : State}

theorem of_same (hheads : t.heads = s.heads) (hcca : t.cca = s.cca) : Sheds h s t := by
  refine ⟨fun g _ => by rw [hheads], by rw [hheads], [], .of_same hcca, fun n => ?_⟩
  rw [hheads]
  exact (Nat.zero_add _).symm

theorem refl (s : State) : Sheds h s s := of_same rfl rfl

theorem trans (hst : Sheds h s t) (htu : Sheds h t u) : Sheds h s u := by
  obtain ⟨hother, hlength, rs, hrs, hnames⟩ := hst
  obtain ⟨hother', hlength', qs, hqs, hnames'⟩ := htu
  refine ⟨fun g hg => (hother' g hg).trans (hother g hg), hlength'.trans hlength, rs ++ qs, hrs.trans hqs, fun n => ?_⟩
  rw [hnames n, hnames' n, List.countP_append, Nat.add_assoc]

/-- A further change that leaves channels and cache. -/
theorem keep (hst : Sheds h s t) (hheads : u.heads = t.heads) (hcca : u.cca = t.cca) : Sheds h s u :=
  hst.trans (of_same hheads hcca)

/-- A change of the channel that keeps what its records name. -/
theorem modHead (s : State) (h : Head) {f : Channel → Channel}
    (hf : (f s.heads[h]).queue.map TrackRecord.body = s.heads[h].queue.map TrackRecord.body) :
    Sheds h s (s.modHead h f) := by
  have hself : (s.modHead h f).heads[h] = f s.heads[h] := by simp
  have hlength : (f s.heads[h]).queue.length = s.heads[h].queue.length := by simpa using congrArg List.length hf
  refine ⟨fun g hg => ((State.Only.modHead s h f) g hg).1, ?_, [], .of_same rfl, fun n => ?_⟩
  · rw [hself, hlength]
  · rw [hself, countP_names_of_body hf n]
    exact (Nat.zero_add _).symm

theorem dropPlanned (s : State) (h : Head) : Sheds h s (s.dropPlanned h) := by
  have hself : (s.dropPlanned h).heads[h] = s.heads[h].onlyActive := by simp [State.dropPlanned_heads]
  refine ⟨fun g hg => ((State.Only.dropPlanned s h) g hg).1, ?_, _, .dropPlanned s h, fun n => ?_⟩
  · rw [hself]
    exact List.length_filter_le _ _
  · have hsplit := List.countP_eq_countP_filter_add s.heads[h].queue (TrackRecord.names n) (fun r => !r.active)
    simpa [hself, Channel.onlyActive] using hsplit

/-- A head set to a state that drops its PLANNED records. -/
theorem dropPlanned_state (s : State) (h : Head) (x : HeadState) : Sheds h s ((s.setHeadState h x).dropPlanned h) :=
  (modHead s h rfl).trans (dropPlanned _ h)

theorem stopNow (s : State) (h : Head) : Sheds h s (s.stopNow h) := dropPlanned_state s h .stopped

/-- A further event of the head. -/
theorem raiseHead (hst : Sheds h s t) (k : EventKind) (d : Word32) : Sheds h s (t.raiseHead h k d) :=
  hst.keep (by simp) (by simp)

theorem park (s : State) (h : Head) (track : Nat) : Sheds h s (s.park h track) :=
  (dropPlanned_state s h .finished).raiseHead _ _

/-- The queue of a channel with an ACTIVE record. -/
theorem queue_of_active {c : Channel} {r : TrackRecord} (hr : c.activeRecord = some r) :
    ∃ rest, c.queue = r :: rest := by
  unfold Channel.activeRecord at hr
  split at hr
  · cases hr
  · next q rest hq =>
    split at hr
    · cases hr
      exact ⟨rest, hq⟩
    · cases hr

theorem endTrack (s : State) (h : Head) (o : Option DefectCause) : Sheds h s (s.endTrack h o) := by
  cases hr : s.heads[h].activeRecord with
  | none => rw [State.endTrack_of_none hr]; exact refl s
  | some r =>
    obtain ⟨rest, hqueue⟩ := queue_of_active hr
    have hself : (s.endTrack h o).heads[h].queue = rest := by
      rw [State.endTrack_head hr]
      cases o <;> exact congrArg List.tail hqueue
    refine ⟨fun g hg => (State.Only.endTrack s h o g hg).1, ?_, [r], .endTrack hr o, fun n => ?_⟩
    · rw [hself, hqueue]
      exact Nat.le_succ _
    · rw [hself, hqueue, List.countP_cons, List.countP_singleton, Nat.add_comm]

theorem waitAfterEnd (s : State) (h : Head) (owed : Bool) : Sheds h s (s.waitAfterEnd h owed) := by
  have hwait : Sheds h s (s.modHead h fun c => { c with state := .waiting, wait := 0 }) := modHead s h rfl
  unfold State.waitAfterEnd
  dsimp only
  split
  · exact hwait.keep rfl rfl
  · exact hwait

theorem afterEnd (s : State) (h : Head) (track : Nat) (stopping owed : Bool) :
    Sheds h s (s.afterEnd h track stopping owed) := by
  unfold State.afterEnd
  split
  · exact park s h track
  · split
    · exact stopNow s h
    · exact waitAfterEnd s h owed

theorem tripHead (s : State) (h : Head) : Sheds h s (s.tripHead h) :=
  (endTrack s h _).trans (dropPlanned_state _ h .tripped)

/-- A trip with its event. -/
theorem raiseTrip (s : State) (h : Head) (c : Channel) (x : TripCause) : Sheds h s ((s.tripHead h).raiseTrip h c x) :=
  (tripHead s h).raiseHead _ _

theorem testStart (s : State) (h : Head) : Sheds h s (s.testStart h) := by
  unfold State.testStart
  split
  · have hstart : Sheds h s
        (s.modHead h fun c => { c with state := .engraving, wait := 0, queue := activateFirst c.queue }) := by
      refine modHead s h ?_
      dsimp only
      cases s.heads[h].queue <;> rfl
    exact hstart.keep rfl rfl
  · have hidle (d : Word32) : Sheds h s
        ((s.modHead h fun c => { c with wait := c.wait + 1, idleRevs := satInc c.idleRevs }).raiseHead h .idleRev d) :=
      (modHead s h (f := fun c => { c with wait := c.wait + 1, idleRevs := satInc c.idleRevs }) rfl).raiseHead
        _ _
    unfold State.idleRevolution
    dsimp only
    split
    · exact ((hidle _).trans (dropPlanned_state _ h .stalled)).raiseHead _ _
    · exact hidle _

/-! ## What each event makes of a head -/

theorem indexHead (h : Head) (s : State) : Sheds h s (State.indexHead h s) := by
  unfold State.indexHead
  split
  · split
    · exact refl s
    · next r _ =>
      have hended := (endTrack s h r.indexOutcome).trans
        (afterEnd _ h r.track (s.heads[h].state == .stopping) (s.owesStep h))
      dsimp only
      split
      · exact hended.trans (testStart _ h)
      · exact hended
  · split
    · exact testStart s h
    · exact refl s

theorem shortRevHead (a b : Bool) (h : Head) (s : State) : Sheds h s (State.shortRevHead a b h s) := by
  unfold State.shortRevHead
  dsimp only
  split
  all_goals
    split
    · split
      · exact refl s
      · exact (endTrack s h _).trans (afterEnd _ h _ _ _)
    · exact refl s

theorem stopHead (h : Head) (s : State) : Sheds h s (State.stopHead h s) := by
  unfold State.stopHead
  cases s.heads[h].state
  case engraving => exact modHead s h rfl
  case waiting | stalled => exact stopNow s h
  all_goals exact refl s

theorem haltHead (c : DefectCause) (h : Head) (s : State) : Sheds h s (State.haltHead c h s) := by
  unfold State.haltHead
  cases s.heads[h].state
  case engraving | stopping => exact (endTrack s h _).trans (stopNow _ h)
  case waiting | stalled => exact stopNow s h
  all_goals exact refl s

theorem resumeHead (h : Head) (s : State) : Sheds h s (State.resumeHead h s) := by
  have hwait : Sheds h s (s.waitAgain h) := by
    have hset : Sheds h s (s.modHead h fun c => { c with state := .waiting, wait := 0 }) := modHead s h rfl
    unfold State.waitAgain
    dsimp only
    split
    · exact hset.keep rfl rfl
    · exact hset
  unfold State.resumeHead
  split
  · exact park s h _
  · rw [State.setWaiting_eq]
    split
    · exact hwait.trans (raiseTrip _ h _ _)
    · exact hwait

theorem startHead (h : Head) (s : State) : Sheds h s (State.startHead h s) := by
  unfold State.startHead
  cases s.heads[h].state
  case ready | stopped => exact resumeHead h s
  all_goals exact refl s

theorem armHead (h : Head) (s : State) : Sheds h s (State.armHead h s) := by
  have hset {f : Channel → Channel} (p : Pipe → Pipe)
      (hf : (f s.heads[h]).queue.map TrackRecord.body = s.heads[h].queue.map TrackRecord.body) :
      Sheds h s ((s.modHead h f).modPipe h p) := (modHead s h hf).keep rfl rfl
  unfold State.armHead
  refine hset _ ?_
  dsimp only
  split <;> rfl

theorem clearHead (h : Head) (s : State) : Sheds h s (State.clearHead h s) := by
  have hclear (t : State) : Sheds h t (t.clearQueue h) := by
    have hself : (t.clearQueue h).heads = t.heads.set h { t.heads[h] with queue := [] } := by simp [State.clearQueue]
    refine ⟨fun g hg => ?_, by simp [hself], t.heads[h].queue,
      (State.Unpins.foldl_unpinRecord t.heads[h].queue t).keep rfl, fun n => by simp [hself]⟩
    have hval : h.val ≠ g.val := fun he => hg (Fin.ext he.symm)
    simp [hself, hval]
  exact (modHead s h rfl).trans (hclear _)

/-- A strobe marks the first record at most. -/
theorem strobeHead (ph : Phase) (c : Nat) (h : Head) (s : State) : Sheds h s (State.strobeHead ph c h s) := by
  have hcell (r : TrackRecord) : Sheds h s (s.strobeCell h ph r c) := by
    have hmark : Sheds h s ((s.modPipe h fun p => { p with suppressed := satInc p.suppressed }).modHead h fun x =>
        { x with queue := markSuppressed x.queue }) := by
      refine trans (t := s.modPipe h fun p => { p with suppressed := satInc p.suppressed }) (of_same rfl rfl)
        (modHead _ h ?_)
      dsimp only
      cases (s.modPipe h fun p => { p with suppressed := satInc p.suppressed }).heads[h].queue <;> rfl
    unfold State.strobeCell
    split
    · exact of_same rfl rfl
    · exact hmark.keep (by simp [State.suppressCell]) (by simp [State.suppressCell])
    · dsimp only
      split
      · exact of_same rfl rfl
      · exact of_same (by simp [State.engraveCell, State.saturateCell]) (by simp [State.engraveCell, State.saturateCell])
  unfold State.strobeHead
  split
  · exact refl s
  · split
    · unfold State.strobeEngaged
      split
      · exact of_same rfl rfl
      · split
        · exact hcell _
        · dsimp only
          split
          · unfold State.windowStart
            split
            · exact trans (t := (s.deliver h (s.restWord h ph c)).raiseStep h) (of_same rfl rfl) (modHead _ h rfl)
            · exact of_same rfl rfl
          · exact of_same rfl rfl
    · exact of_same rfl rfl

end State.Sheds

end Sys2Proof.Machine

/-! What every kind of event keeps of the locks, the pins and the track queues: each event changes them by a few kinds of
change, so a property that those keep is kept by every step (R47, R52, R61, R103, R112). -/

namespace Sys2Proof.Machine

/-! ## One lock in a set (R61) -/

/-- The other slot of a slot's set has it for its own other slot. -/
theorem otherSlot_otherSlot (n : Fin 64) : otherSlot (otherSlot n) = n ∧ otherSlot n ≠ n := by
  revert n
  decide

namespace State.oneLock

variable {s t : State}

/-- Locks taken away, and locked slots that stay RESIDENT. -/
theorem of_fewer (hs : s.oneLock) (h : ∀ n : Fin 64, t.cca.slots[n].lock = true →
    s.cca.slots[n].lock = true ∧ (s.cca.slots[n].state = .resident → t.cca.slots[n].state = .resident)) : t.oneLock := by
  intro n hn
  obtain ⟨hlock, hkeeps⟩ := h n hn
  obtain ⟨hresident, hother⟩ := hs n hlock
  refine ⟨hkeeps hresident, Bool.eq_false_iff.2 fun hon => ?_⟩
  rw [(h _ hon).1] at hother
  cases hother

/-- What touches pin counts alone. -/
theorem of_unpinned (hs : s.oneLock) (h : t.cca.slots.map Slot.unpinned = s.cca.slots.map Slot.unpinned) : t.oneLock := by
  have hslot (n : Fin 64) : t.cca.slots[n].unpinned = s.cca.slots[n].unpinned := by
    have hn := congrArg (fun v : Vector Slot 64 => v[n]) h
    simpa using hn
  refine hs.of_fewer fun n hn => ?_
  have hlock := congrArg Slot.lock (hslot n)
  have hstate := congrArg Slot.state (hslot n)
  exact ⟨hlock.symm.trans hn, fun hr => hstate.trans hr⟩

/-- One slot changed: its lock is off, or stays on and the slot RESIDENT. -/
theorem of_set {n : Fin 64} {sl : Slot} (hs : s.oneLock) (h : t.cca.slots = s.cca.slots.set n sl)
    (hsl : sl.lock = true → s.cca.slots[n].lock = true ∧ (s.cca.slots[n].state = .resident → sl.state = .resident)) :
    t.oneLock := by
  refine hs.of_fewer fun m hm => ?_
  by_cases hn : n = m
  · subst hn
    rw [h] at hm ⊢
    simp only [Fin.getElem_fin, Vector.getElem_set_self] at hm ⊢
    exact hsl hm
  · have hval : n.val ≠ m.val := fun he => hn (Fin.ext he)
    rw [h] at hm ⊢
    simp only [Fin.getElem_fin, Vector.getElem_set_ne _ _ hval] at hm ⊢
    exact ⟨hm, id⟩

/-- One slot locked, in a set with no other lock. -/
theorem of_locked {n : Fin 64} {sl : Slot} (hs : s.oneLock) (h : t.cca.slots = s.cca.slots.set n sl)
    (hsl : sl.state = .resident) (hother : s.cca.slots[otherSlot n].lock = false) : t.oneLock := by
  have hself : t.cca.slots[n] = sl := by simp [h]
  have hrest (m : Fin 64) (hm : n ≠ m) : t.cca.slots[m] = s.cca.slots[m] := by
    have hval : n.val ≠ m.val := fun he => hm (Fin.ext he)
    simp [h, Vector.getElem_set_ne _ _ hval]
  intro m hm
  by_cases hn : n = m
  · subst hn
    rw [hself, hrest _ (otherSlot_otherSlot n).2.symm]
    exact ⟨hsl, hother⟩
  · rw [hrest m hn] at hm ⊢
    obtain ⟨hresident, hoff⟩ := hs m hm
    have hne : n ≠ otherSlot m := by
      intro he
      have hback : otherSlot n = m := by rw [he, (otherSlot_otherSlot m).1]
      subst hback
      rw [hm] at hother
      cases hother
    rw [hrest _ hne]
    exact ⟨hresident, hoff⟩

end State.oneLock

/-! ## What a victim and a RESIDENT key are -/

/-- A victim holds no pin (R54). -/
theorem State.pins_of_victim {s : State} {set : Fin 32} {n : Fin 64} (hvictim : s.victim set = some n) :
    s.cca.slots[n].pins = 0 := by
  obtain ⟨-, hfree⟩ := State.victim_some hvictim
  unfold slotExcluded at hfree
  simp only [Bool.or_eq_false_iff, decide_eq_false_iff_not] at hfree
  omega

/-- The slot in which a key is RESIDENT is RESIDENT (R61). -/
theorem State.resident_of_residentSlot {s : State} {k : Key} {n : Fin 64} (h : s.residentSlot k = some n) :
    s.cca.slots[n].state = .resident := by
  unfold State.residentSlot at h
  split at h
  · cases h
  · split at h
    · next hresident => cases h; exact hresident
    · cases h

/-! ## The kinds of change -/

/-- The job has not become IDLE, and the lookahead is the same but for a change while the job is IDLE. -/
structure State.GoesOn (s t : State) : Prop where
  job : t.jcu.state = .idle → s.jcu.state = .idle
  lookahead : t.lookahead = s.lookahead ∨ s.jcu.state = .idle

theorem State.GoesOn.of_same {s t : State} (hjob : t.jcu.state = s.jcu.state) (hlayout : t.tlm.layout = s.tlm.layout) :
    State.GoesOn s t := by
  refine ⟨fun h => hjob ▸ h, .inl ?_⟩
  unfold State.lookahead
  rw [hlayout]

/-- A property of slots and queues that every kind of change of either keeps. -/
structure QueueLaw (P : State → Prop) : Prop where
  reset : ∀ s : State, s.cca.slots = Cache.reset.slots → s.heads = Vector.replicate 8 Channel.reset → P s
  slots : ∀ s t : State, P s → t.heads = s.heads → State.GoesOn s t →
    (∀ n : Fin 64, t.cca.slots[n].pins = s.cca.slots[n].pins) → (s.oneLock → t.oneLock) → P t
  head : ∀ (s t : State) (h : Head), P s → State.Sheds h s t →
    t.cca.slots.map Slot.unpinned = s.cca.slots.map Slot.unpinned → State.GoesOn s t →
    (t.jcu.state = .idle → s.heads[h].state = .idle → t.heads[h].state = .idle) → P t
  clear : ∀ s t : State, P s → t.cca = s.cca → t.heads = s.heads → P (t.eachHead State.clearHead)
  append : ∀ (s : State) (h : Head), P s → s.heads[h].state.moving = true →
    s.heads[h].queue.length < 1 + s.lookahead → P (s.appendRecord h)
  resolve : ∀ (s : State) (h : Head) (j : Nat), P s → P (State.resolveRecord h s j)
  revert : ∀ (s : State) (n : Fin 64), P s → P ((s.emptySlot n).revertRecords n)

namespace QueueLaw

variable {P : State → Prop} (L : QueueLaw P) {s t : State}
include L

/-- What leaves slots, queues, job state and layout. -/
theorem of_same (hs : P s) (hcca : t.cca = s.cca) (hheads : t.heads = s.heads) (hjob : t.jcu = s.jcu)
    (hlayout : t.tlm.layout = s.tlm.layout) : P t := by
  refine L.slots s t hs hheads (.of_same (by rw [hjob]) hlayout) (fun n => by rw [hcca]) fun hlock => ?_
  unfold State.oneLock
  rw [hcca]
  exact hlock

/-- One slot changed but for its pins. -/
theorem slotSet {n : Fin 64} {sl : Slot} (hs : P s) (hslots : t.cca.slots = s.cca.slots.set n sl)
    (hheads : t.heads = s.heads) (hjob : t.jcu = s.jcu) (hlayout : t.tlm.layout = s.tlm.layout)
    (hpins : sl.pins = s.cca.slots[n].pins) (hlock : s.oneLock → t.oneLock) : P t := by
  refine L.slots s t hs hheads (.of_same (by rw [hjob]) hlayout) (fun m => ?_) hlock
  rw [hslots]
  by_cases hn : n = m
  · subst hn
    simpa using hpins
  · have hval : n.val ≠ m.val := fun he => hn (Fin.ext he)
    simp [Vector.getElem_set_ne _ _ hval]

/-- A head's change in an event of its own. -/
theorem changes {h : Head} (hs : P s) (hsheds : State.Sheds h s t) (hchanges : State.Changes h s t)
    (hslots : t.cca.slots.map Slot.unpinned = s.cca.slots.map Slot.unpinned) (hlayout : t.tlm.layout = s.tlm.layout) :
    P t := by
  obtain ⟨x, hmay, hmoves⟩ := hchanges
  refine L.head s t h hs hsheds hslots (.of_same hmoves.job hlayout) fun _ hidle => ?_
  rw [hmoves.heads.self]
  rw [hidle] at hmay
  obtain rfl | ⟨hne, -⟩ | ⟨htrips, -⟩ := hmay
  · rfl
  · exact absurd rfl hne
  · cases htrips

/-- A change of a head while the job, or the head, is not IDLE. -/
theorem moved {h : Head} (hs : P s) (hsheds : State.Sheds h s t)
    (hslots : t.cca.slots.map Slot.unpinned = s.cca.slots.map Slot.unpinned) (hjob : t.jcu = s.jcu)
    (hlayout : t.tlm.layout = s.tlm.layout) (hbusy : s.jcu.state ≠ .idle ∨ s.heads[h].state ≠ .idle) : P t := by
  refine L.head s t h hs hsheds hslots (.of_same (by rw [hjob]) hlayout) fun hidle hrest => ?_
  rw [hjob] at hidle
  exact absurd hrest (hbusy.resolve_left fun hne => hne hidle)

/-! ### Job transitions and actions -/

theorem setJob {new : JobState} (c : JobCause) (hnew : new ≠ .idle) (hs : P s) : P (s.setJob new c) := by
  refine L.slots s _ hs (by simp) ⟨fun hidle => absurd (by simpa [State.setJob_jcu] using hidle) hnew, .inl ?_⟩
    (by simp) fun hlock => hlock.of_unpinned (by simp)
  unfold State.lookahead
  simp

theorem headsCheck (s : State) (hs : P s) : P s.headsCheck := by
  unfold State.headsCheck
  split
  · split
    · exact L.setJob _ nofun hs
    · exact hs
  · split
    · split
      · exact L.setJob _ (by split <;> nofun) hs
      · exact hs
    · exact hs

/-- A job transition: the job state is set, and each head follows it. -/
theorem transition (new : JobState) (c : JobCause) (hnew : new ≠ .idle) {f : Head → State → State}
    (hf : ∀ g t, State.Sheds g t (f g t) ∧ (f g t).cca.slots.map Slot.unpinned = t.cca.slots.map Slot.unpinned ∧
      (f g t).jcu = t.jcu ∧ (f g t).tlm = t.tlm) (hs : P s) : P ((s.setJob new c).eachHead f) := by
  have hboth : P ((s.setJob new c).eachHead f) ∧ ((s.setJob new c).eachHead f).jcu.state ≠ .idle := by
    refine State.eachHead_inv (P := fun t => P t ∧ t.jcu.state ≠ .idle) _ f (fun g t ht => ?_)
      ⟨L.setJob c hnew hs, by simpa [State.setJob_jcu] using hnew⟩
    obtain ⟨hsheds, hslots, hjob, htlm⟩ := hf g t
    obtain ⟨ht, hbusy⟩ := ht
    exact ⟨L.moved ht hsheds hslots hjob (by rw [htlm]) (.inl hbusy), hjob ▸ hbusy⟩
  exact hboth.1

theorem haltJob (s : State) (c : JobCause) (hs : P s) : P (s.haltJob c) :=
  L.headsCheck _ (L.transition .halting c nofun (fun g t => ⟨.stopHead g t, by simp, by simp, by simp⟩) hs)

theorem abortJob (s : State) (c : JobCause) (hs : P s) : P (s.abortJob c) :=
  L.headsCheck _ (L.transition .halted c nofun (fun g t => ⟨.haltHead _ g t, by simp, by simp, by simp⟩) hs)

theorem faultJob (s : State) (hs : P s) : P s.faultJob :=
  L.headsCheck _ (L.transition .faulted .spindle nofun (fun g t => ⟨.haltHead _ g t, by simp, by simp, by simp⟩) hs)

theorem armJob (s : State) (hs : P s) : P s.armJob :=
  L.headsCheck _ (L.transition .ready .arm nofun (fun g t => ⟨.armHead g t, by simp, by simp, by simp⟩) hs)

theorem clearJob (s : State) (hs : P s) : P s.clearJob :=
  L.headsCheck _ (L.clear s _ hs (by simp) (by simp))

theorem routeEffect (s : State) (a : DueAction) (hs : P s) : P (s.routeEffect a) := by
  unfold State.routeEffect
  split
  · split
    · exact L.haltJob _ _ hs
    · exact hs
  · split
    · exact L.abortJob _ _ hs
    · exact hs
  · exact hs

/-- A part of an event and its actions. -/
theorem within (s : State) (f : State → State) (hf : P (f (s.setDue []))) : P (s.within f) :=
  State.within_inv s f (fun _ _ ht => L.of_same ht rfl rfl rfl rfl) L.routeEffect hf

/-- A part of an event that leaves what the property reads, and its actions. -/
theorem within_same (s : State) (f : State → State)
    (hf : ∀ t, (f t).cca = t.cca ∧ (f t).heads = t.heads ∧ (f t).jcu = t.jcu ∧ (f t).tlm.layout = t.tlm.layout)
    (hs : P s) : P (s.within f) := by
  obtain ⟨hcca, hheads, hjob, hlayout⟩ := hf (s.setDue [])
  exact L.within s f (L.of_same hs hcca hheads hjob hlayout)

/-! ### The planning pass (R107, R108) -/

theorem extendHead (h : Head) (s : State) (hs : P s) : P (State.extendHead h s) := by
  have hqueue (n : Nat) : ∀ t : State, P t → t.heads[h].state.moving = true → P (State.extendQueue h n t) := by
    induction n with
    | zero => exact fun _ ht _ => ht
    | succ n ih =>
      intro t ht hmoving
      unfold State.extendQueue
      split
      · next hroom => exact ih _ (L.append t h ht hmoving hroom.1) (by simpa [State.appendRecord] using hmoving)
      · exact ht
  unfold State.extendHead
  split
  · next hmoving => exact hqueue _ s hs hmoving
  · exact hs

theorem planningPass (s : State) (hs : P s) : P s.planningPass := by
  refine State.eachHead_inv _ _ (fun g t ht => ?_) (State.eachHead_inv _ _ L.extendHead hs)
  unfold State.resolveHead
  split
  · exact List.foldlRecOn _ _ ht fun u hu j _ => L.resolve u g j hu
  · exact ht

theorem planning (s : State) (hs : P s) : P (s.within State.planningPass) :=
  L.within _ _ (L.planningPass _ (L.of_same hs rfl rfl rfl rfl))

theorem startJob (s : State) (hs : P s) : P s.startJob :=
  L.headsCheck _ (L.planningPass _ (L.transition .running .start nofun
    (fun g t => ⟨.startHead g t, by simp, by simp, by simp⟩) hs))

/-! ### Segments and expiries (R57 to R59, R77 to R82) -/

theorem storeSegment (s : State) (n : Fin 64) (sg : Segment) (hs : P s) : P (s.storeSegment n sg) :=
  L.slotSet hs (s.storeSegment_cca_slots n sg) (by simp) (by simp) (by simp) rfl fun hlock =>
    hlock.of_set (s.storeSegment_cca_slots n sg) fun hon => ⟨hon, id⟩

theorem completeFill (s : State) (r : Request) (hs : P s) : P (s.completeFill r) := by
  have hresident : P (s.modSlot r.slot fun sl => { sl with state := .resident }) :=
    L.slotSet hs (s.modSlot_cca_slots _ _) rfl rfl rfl rfl fun hlock =>
      hlock.of_set (s.modSlot_cca_slots _ _) fun hon => ⟨hon, fun _ => rfl⟩
  have hself : (s.modSlot r.slot fun sl => { sl with state := .resident }).cca.slots[r.slot].state = .resident := by simp
  unfold State.completeFill
  generalize (s.modSlot r.slot fun sl => { sl with state := .resident }) = t at hresident hself ⊢
  have hlocked : P (t.lockAtCompletion r) := by
    unfold State.lockAtCompletion
    split
    · exact L.of_same hresident (by simp) (by simp) (by simp) (by simp)
    · next hother =>
      exact L.slotSet hresident (t.modSlot_cca_slots _ _) rfl rfl rfl rfl fun hlock =>
        hlock.of_locked (t.modSlot_cca_slots _ _) hself (Bool.eq_false_iff.2 hother)
  dsimp only
  split
  · exact L.of_same hlocked rfl rfl rfl rfl
  · exact L.of_same hresident rfl rfl rfl rfl

theorem acceptSegment (s : State) (r : Request) (sg : Segment) (hs : P s) : P (s.acceptSegment r sg) := by
  unfold State.acceptSegment
  dsimp only
  have hstored : P ((s.storeSegment r.slot sg).modRequest r.key fun _ => r.accept sg s.now) :=
    L.of_same (L.storeSegment s r.slot sg hs) rfl rfl rfl rfl
  split
  · exact L.planning _ (L.within _ _ (L.completeFill _ _ (L.of_same hstored rfl rfl rfl rfl)))
  · exact hstored

/-- A victim holds no pin, so an allocation for a preload leaves the pins (R54, R56). -/
theorem allocate (s : State) {k : Key} {n : Fin 64} (hvictim : s.victim (keySet k) = some n) (hs : P s) :
    P (s.allocate n k 0) := by
  exact L.slotSet hs (s.allocate_cca_slots n k 0) (by simp) (by simp) (by simp)
    (State.pins_of_victim hvictim).symm fun hlock => hlock.of_set (s.allocate_cca_slots n k 0) nofun

theorem preloadSegment (s : State) (sg : Segment) (hs : P s) : P (s.preloadSegment sg) := by
  unfold State.preloadSegment
  dsimp only
  repeat' split
  rotate_right
  · next hvictim =>
    exact L.acceptSegment _ _ _ (L.of_same (L.allocate s hvictim hs) rfl rfl rfl rfl)
  all_goals exact L.within_same _ _ (by simp) hs

theorem takeSegment (s : State) (sg : Segment) (hs : P s) : P (s.takeSegment sg) := by
  unfold State.takeSegment
  split
  · unfold State.matchedSegment
    split
    · exact L.within_same _ _ (by simp) hs
    · exact L.acceptSegment _ _ _ hs
  · split
    · exact L.preloadSegment _ _ hs
    · exact L.within_same _ _ (by simp) hs

theorem fillExpiry (s : State) (hs : P s) : P s.fillExpiry := by
  unfold State.fillExpiry
  split
  · exact hs
  · next r _ =>
    have hfreed : P ((s.setDue []).removeRequest r) := L.of_same hs rfl rfl rfl rfl
    exact L.planning _ (L.within _ _ (L.of_same (L.revert _ r.slot hfreed) (by simp [State.expireFill])
      (by simp [State.expireFill]) (by simp [State.expireFill]) (by simp [State.expireFill])))

/-! ### The link and the table memory -/

theorem crcError (s : State) (n : Nat) (c : CrcCause) (hs : P s) : P (s.crcError n c) := L.within_same _ _ (by simp) hs

theorem offer (s : State) (f : Frame) (hs : P s) : P (s.offer f) := by
  unfold State.offer
  split
  · exact L.of_same hs (by simp) (by simp) (by simp) (by simp)
  · exact L.within_same _ _ (by simp) hs

theorem loseLink (s : State) (hs : P s) : P s.loseLink :=
  L.within_same { s with lnk := s.lnk.lose } _ (by simp) (L.of_same hs rfl rfl rfl rfl)

theorem enterUp (s : State) (hs : P s) : P s.enterUp := by
  have hup : P { s with lnk := { s.lnk with state := .up } } := L.of_same hs rfl rfl rfl rfl
  have hevent := L.within_same _ (fun u => u.raisePlain .linkUp (linkUpDetail u.occupancy)) (by simp) hup
  exact L.of_same hevent (by simp [State.enterUp]) (by simp [State.enterUp]) (by simp [State.enterUp])
    (by simp [State.enterUp])

theorem queueReply (s : State) (r : CommandReply) (hs : P s) : P (s.queueReply r) :=
  L.of_same hs (by simp) (by simp) (by simp) (by simp)

/-- A slot with no pin that is emptied. -/
theorem emptySlot (s : State) {n : Fin 64} (hpins : s.cca.slots[n].pins = 0) (hs : P s) : P (s.emptySlot n) :=
  L.slotSet hs (s.emptySlot_cca_slots n) rfl rfl rfl hpins.symm fun hlock =>
    hlock.of_set (s.emptySlot_cca_slots n) nofun

/-- A TILE write that passes the tests finds no slot of its tile pinned (R67). -/
theorem emptyTile (s : State) (n : Fin 32) (hfree : s.tileBusy n = false) (hs : P s) : P (s.emptyTile n) := by
  have hslot (m : Fin 64) : (s.emptyTile n).cca.slots[m] = tileSlot n s.cca.slots[m] := by simp [State.emptyTile_eq]
  have hm (m : Fin 64) : tileSlot n s.cca.slots[m] = s.cca.slots[m] ∨
      tileSlot n s.cca.slots[m] = Slot.empty ∧ s.cca.slots[m].pins = 0 := by
    have hnot := List.any_eq_false.1 hfree m (List.mem_finRange m)
    unfold tileSlot
    split
    · next hempties =>
      refine .inr ⟨rfl, ?_⟩
      obtain ⟨-, hkey⟩ := Bool.and_eq_true_iff.1 hempties
      have hnone := Bool.eq_false_iff.2 hnot
      simp only [hkey, Bool.true_and, Bool.or_eq_false_iff, decide_eq_false_iff_not] at hnone
      omega
    · exact .inl rfl
  refine L.slots s _ hs (by simp) (.of_same (by simp) (by simp)) (fun m => ?_) fun hlock => hlock.of_fewer fun m hon => ?_
  · rw [hslot]
    obtain he | ⟨he, hpins⟩ := hm m
    · rw [he]
    · rw [he, hpins]
      rfl
  · rw [hslot] at hon ⊢
    obtain he | ⟨he, -⟩ := hm m
    · rw [he] at hon ⊢
      exact ⟨hon, id⟩
    · rw [he] at hon
      cases hon

theorem tableWrite (s : State) (tag kind copy : Byte) (start : Item) (items : Items) (hs : P s) :
    P (s.tableWrite tag kind copy start items) := by
  unfold State.tableWrite
  split
  · exact L.queueReply _ _ hs
  · next k hk =>
    obtain ⟨-, -, -, -, -, hnone⟩ := State.writeTests_eq_ok hk
    obtain ⟨-, hidle, hlater⟩ := s.writeRefusal_cases k copy.toNat start.toNat items
    have hpermitted := (State.writeRefusal_eq_none hnone).1
    have hjob (hp : k.permission = .idle) : s.jcu.state = .idle :=
      by_contra fun hne => by rw [hidle hp hne] at hnone; cases hnone
    have hstore (o : Items) : P { s with tlm := s.tlm.store k copy.toNat o } := by
      refine L.slots s _ hs rfl ⟨id, ?_⟩ (fun _ => rfl) id
      cases k
      case layout => exact .inr (hjob rfl)
      all_goals exact .inl rfl
    have heffect (o : Items) (i j : Nat) :
        P (({ s with tlm := s.tlm.store k copy.toNat o } : State).writeEffect k copy.toNat i j) := by
      cases k
      case tile =>
        have hfree : ¬ s.tileBusy (Fin.ofNat 32 copy.toNat) = true := fun hbusy => by
          rw [(hlater hpermitted hjob).1 (.inr ⟨rfl, hbusy⟩)] at hnone
          cases hnone
        exact L.emptyTile _ _ (Bool.eq_false_iff.2 hfree) (hstore o)
      case route =>
        exact L.of_same (t := State.writeEffect _ .route _ i j) (hstore o) (by simp [State.writeEffect])
          (by simp [State.writeEffect]) (by simp [State.writeEffect]) (by simp [State.writeEffect])
      all_goals exact hstore o
    unfold State.storeWrite
    dsimp only
    exact L.queueReply _ _ (heffect _ _ _)

theorem tableRead (s : State) (tag kind copy : Byte) (start count : Item) (hs : P s) :
    P (s.tableRead tag kind copy start count) := L.of_same hs (by simp) (by simp) (by simp) (by simp)

theorem takeCommit (s : State) (tag g c : Byte) (hs : P s) : P (s.takeCommit tag g c) := by
  have hans : P (s.answer tag 0x20 .accepted) := L.queueReply _ _ hs
  unfold State.takeCommit
  dsimp only
  split
  · exact L.of_same hans rfl rfl rfl rfl
  · exact L.within_same _ _ (by simp) hans

/-! ### The commands -/

theorem answered (s : State) (tag code : Byte) (r : Result) (hs : P s) : P (s.answer tag code r) := L.queueReply _ _ hs

/-- An accepted job command: the reply and the transition. -/
theorem jobCommand (s : State) (tag code : Byte) (f : State → State) (hf : ∀ t, P t → P (f t)) (hs : P s) :
    P ((s.answer tag code .accepted).within f) :=
  L.within _ _ (hf _ (L.of_same (L.answered s tag code .accepted hs) rfl rfl rfl rfl))

theorem takeJobArm (s : State) (tag : Byte) (hs : P s) : P (s.takeJobArm tag) := by
  have hvalid (v) : P { s with jcu := { s.jcu with validation := v } } :=
    L.slots s _ hs rfl (.of_same rfl rfl) (fun _ => rfl) id
  unfold State.takeJobArm
  split
  · split
    · exact L.queueReply _ _ (hvalid _)
    · exact L.jobCommand _ _ _ _ L.armJob (hvalid _)
  · exact L.answered _ _ _ _ hs

theorem takeJobStart (s : State) (tag : Byte) (hs : P s) : P (s.takeJobStart tag) := by
  unfold State.takeJobStart
  repeat' split
  · exact L.jobCommand _ _ _ _ L.startJob hs
  all_goals exact L.answered _ _ _ _ hs

theorem takeJobHalt (s : State) (tag : Byte) (hs : P s) : P (s.takeJobHalt tag) := by
  unfold State.takeJobHalt
  split
  · exact L.jobCommand _ _ _ _ (fun t => L.haltJob t _) hs
  · exact L.answered _ _ _ _ hs

theorem takeJobAbort (s : State) (tag : Byte) (hs : P s) : P (s.takeJobAbort tag) := by
  unfold State.takeJobAbort
  split
  · exact L.jobCommand _ _ _ _ (fun t => L.abortJob t _) hs
  · exact L.answered _ _ _ _ hs

theorem takeJobClear (s : State) (tag : Byte) (hs : P s) : P (s.takeJobClear tag) := by
  unfold State.takeJobClear
  split
  · exact L.jobCommand _ _ _ _ L.clearJob hs
  · exact L.answered _ _ _ _ hs

theorem softReset (s : State) (tag : Byte) (hs : P s) : P (s.softReset tag) := by
  have hreset : P (s.takeSoftReset tag) := by
    unfold State.takeSoftReset State.raiseReset
    split
    · exact L.answered _ _ _ _ hs
    · split
      · exact L.reset _ rfl rfl
      · exact L.within_same _ _ (by simp) (L.reset _ rfl rfl)
  unfold State.softReset
  split
  · unfold State.dispatchRead
    split
    · split
      · exact hreset
      · exact L.of_same hreset (by simp) (by simp) (by simp) (by simp)
    · exact hreset
  · exact hreset

theorem forHead (s : State) (tag code a : Byte) (f : Head → State) (hf : ∀ g, P (f g)) (hs : P s) :
    P (s.forHead tag code a f) := by
  unfold State.forHead
  split
  · exact L.answered _ _ _ _ hs
  · exact hf _

/-- An accepted head command: a change of the head passed to JCU. -/
theorem headChange (s : State) (tag code : Byte) (g : Head) (f : State → State)
    (hf : ∀ t, P t → t.heads = s.heads → P (f t)) (hs : P s) :
    P ((s.answer tag code .accepted).within fun u => u.withCheck g f) :=
  L.within _ _ (State.withCheck_inv _ g f L.headsCheck
    (hf _ (L.of_same (L.answered s tag code .accepted hs) rfl rfl rfl rfl) (by simp)))

theorem takeHeadStop (s : State) (tag a : Byte) (hs : P s) : P (s.takeHeadStop tag a) := by
  refine L.forHead _ _ _ _ _ (fun g => ?_) hs
  split
  · exact L.headChange _ _ _ g _
      (fun t ht _ => L.changes ht (.stopHead g t) (State.stopHead_changes g t) (by simp) (by simp)) hs
  · exact L.answered _ _ _ _ hs

theorem takeHeadAbort (s : State) (tag a : Byte) (hs : P s) : P (s.takeHeadAbort tag a) := by
  refine L.forHead _ _ _ _ _ (fun g => ?_) hs
  split
  · exact L.headChange _ _ _ g _
      (fun t ht _ => L.changes ht (.haltHead _ g t) (State.haltHead_changes _ g t) (by simp) (by simp)) hs
  · exact L.answered _ _ _ _ hs

theorem takeTripClear (s : State) (tag a : Byte) (hs : P s) : P (s.takeTripClear tag a) := by
  refine L.forHead _ _ _ _ _ (fun g => ?_) hs
  split
  · next htripped =>
    refine L.headChange _ _ _ g _ (fun t ht hheads => L.moved ht (.modHead t g rfl) rfl rfl rfl (.inr ?_)) hs
    rw [hheads, htripped.1]
    nofun
  · exact L.answered _ _ _ _ hs

theorem takeHeadResume (s : State) (tag a : Byte) (hs : P s) : P (s.takeHeadResume tag a) := by
  refine L.forHead _ _ _ _ _ (fun g => ?_) hs
  split
  · next hresumable =>
    have hstate : s.heads[g].state ≠ .idle := by
      obtain ⟨-, hstate⟩ := Bool.and_eq_true_iff.1 hresumable
      exact fun he => by rw [he] at hstate; cases hstate
    have hresumed := L.headChange s tag 0x12 g (State.resumeHead g) (fun t ht hheads =>
      L.moved ht (.resumeHead g t) (by simp) (by simp) (by simp) (.inr (hheads ▸ hstate))) hs
    unfold State.resumeEffect
    dsimp only
    split
    · exact hresumed
    · exact L.planning _ hresumed
  · exact L.answered _ _ _ _ hs

/-! ### The cache commands (R61 to R65) -/

/-- A lock taken away. -/
theorem unlock (s : State) (n : Fin 64) (hs : P s) : P (s.setLock n false) :=
  L.slotSet hs (s.setLock_cca_slots n false) rfl rfl rfl rfl fun hlock =>
    hlock.of_set (s.setLock_cca_slots n false) nofun

/-- A RESIDENT slot locked, with the other way of its set not locked (R61). -/
theorem lock (s : State) {n : Fin 64} (hresident : s.cca.slots[n].state = .resident)
    (hother : s.cca.slots[otherSlot n].lock = false) (hs : P s) : P (s.setLock n true) :=
  L.slotSet hs (s.setLock_cca_slots n true) rfl rfl rfl rfl fun hlock =>
    hlock.of_locked (s.setLock_cca_slots n true) hresident hother

theorem lockKey (s : State) (k : Key) (hs : P s) : P (s.lockKey k).1 := by
  unfold State.lockKey
  split
  · exact hs
  · next hn =>
    split
    · exact hs
    · split
      · exact hs
      · next hother => exact L.lock s (State.resident_of_residentSlot hn) (Bool.eq_false_iff.2 hother) hs

theorem unlockKey (s : State) (k : Key) (hs : P s) : P (s.unlockKey k).1 := by
  unfold State.unlockKey
  split
  · exact hs
  · exact L.unlock s _ hs

theorem invalidateSlot (t : State × Nat × Nat) (n : Fin 64) (ht : P t.1) : P (State.invalidateSlot t n).1 := by
  unfold State.invalidateSlot
  split
  · exact ht
  · split
    · next hinvalid =>
      obtain ⟨-, hpins⟩ := Bool.and_eq_true_iff.1 hinvalid
      exact L.emptySlot _ (by simpa using hpins) ht
    · exact ht

theorem invalidateKey (s : State) (k : Key) (hs : P s) : P (s.invalidateKey k).1 := by
  unfold State.invalidateKey
  split
  · exact hs
  · exact L.invalidateSlot (s, 0, 0) _ hs

theorem invalidateAll (s : State) (hs : P s) : P s.invalidateAll.1 :=
  List.foldlRecOn (motive := fun t => P t.1) _ _ hs fun t ht n _ => L.invalidateSlot t n ht

/-- The reply of a cache command and the planning pass that follows it (R60). -/
theorem cacheReply (s : State) (r : CommandReply) (hs : P s) : P (s.queueReply r).afterCache :=
  L.planning _ (L.queueReply _ _ hs)

theorem takeCommand (s : State) (tag code a : Byte) (b c : Item) (hs : P s) : P (s.takeCommand tag code a b c) := by
  unfold State.takeCommand
  split
  · exact L.takeJobArm _ _ hs
  · exact L.takeJobStart _ _ hs
  · exact L.takeJobHalt _ _ hs
  · exact L.takeJobAbort _ _ hs
  · exact L.takeJobClear _ _ hs
  · exact L.softReset _ _ hs
  · exact L.takeHeadStop _ _ _ hs
  · exact L.takeHeadAbort _ _ _ hs
  · exact L.takeHeadResume _ _ _ hs
  · exact L.takeTripClear _ _ _ hs
  · exact L.takeCommit _ _ _ _ hs
  · unfold State.takeCacheLock
    split
    · exact L.cacheReply _ _ hs
    · exact L.cacheReply _ _ (L.lockKey _ _ hs)
  · unfold State.takeCacheUnlock
    split
    · exact L.cacheReply _ _ hs
    · exact L.cacheReply _ _ (L.unlockKey _ _ hs)
  · split
    · exact L.cacheReply _ _ (L.invalidateAll _ hs)
    · unfold State.takeInvalidateKey
      split
      · split
        · exact L.cacheReply _ _ hs
        · exact L.cacheReply _ _ (L.invalidateKey _ _ hs)
      · exact L.cacheReply _ _ hs
  · unfold State.takeCacheQuery
    split <;> exact L.cacheReply _ _ hs
  · exact hs

theorem takeInbound (s : State) (i : Inbound) (hs : P s) : P (s.takeInbound i) := by
  cases i with
  | segment sg => exact L.takeSegment _ _ hs
  | tableWrite tag kind copy start items => exact L.tableWrite _ _ _ _ _ _ hs
  | tableRead tag kind copy start count => exact L.tableRead _ _ _ _ _ _ hs
  | command tag code a b c => exact L.takeCommand _ _ _ _ _ _ hs
  | unknown kind tag code =>
    exact L.of_same (s := s) hs (by simp [State.takeInbound]) (by simp [State.takeInbound])
      (by simp [State.takeInbound]) (by simp [State.takeInbound])
  | badSegment size => exact L.crcError _ _ _ hs

/-! ### The spindle and the head ports -/

/-- A head's change in an event of its own, passed to JCU. -/
theorem withCheck (s : State) (h : Head) (f : State → State) (hsheds : State.Sheds h s (f s))
    (hchanges : State.Changes h s (f s))
    (hslots : (f s).cca.slots.map Slot.unpinned = s.cca.slots.map Slot.unpinned)
    (hlayout : (f s).tlm.layout = s.tlm.layout) (hs : P s) : P (s.withCheck h f) :=
  State.withCheck_inv s h f L.headsCheck (L.changes hs hsheds hchanges hslots hlayout)

theorem endRevolution (s : State) (hs : P s) : P s.endRevolution := by
  unfold State.endRevolution
  split
  · exact hs
  · split
    · exact hs
    · exact State.eachHead_inv _ _ (fun g t ht => L.withCheck t g _ (.shortRevHead _ _ g t)
        (State.shortRevHead_changes _ _ g t) (by simp) (by simp) ht) (L.within_same _ _ (by simp) hs)

theorem passSpindle (x : SpindleState) (s : State) (hs : P s) : P (State.passSpindle x s) := by
  unfold State.passSpindle
  split
  · exact L.within _ _ (L.faultJob _ (L.of_same hs rfl rfl rfl rfl))
  · exact hs

theorem raiseSpindle (x : SpindleState) (p : Nat) (s : State) (hs : P s) : P (State.raiseSpindle x p s) := by
  unfold State.raiseSpindle
  repeat' split
  · exact hs
  · exact L.within_same _ _ (by simp) hs
  · exact L.within_same _ _ (by simp) hs
  · exact hs
  · exact hs

theorem serveIndex (s : State) (hs : P s) : P s.serveIndex := by
  have hcommit := L.within_same s (fun u => u.applyPending .index) (by simp) hs
  have hheads := State.eachHead_inv _ (fun g t => t.withCheck g (State.indexHead g))
    (fun g t ht => L.withCheck t g _ (.indexHead g t) (State.indexHead_changes g t) (by simp) (by simp) ht) hcommit
  exact L.planningPass _ (State.eachHead_inv _ State.setPhase
    (fun g t ht => L.of_same ht (by simp) (by simp) (by simp) (by simp)) hheads)

theorem indexArrival (s : State) (hs : P s) : P s.indexArrival := by
  refine L.within _ _ ?_
  have hend := L.endRevolution (s.setDue []) (L.of_same hs rfl rfl rfl rfl)
  exact L.serveIndex _ (L.raiseSpindle _ _ _ (L.passSpindle _ _ (L.of_same hend rfl rfl rfl rfl)))

theorem indexTimeout (s : State) (hs : P s) : P s.indexTimeout := by
  unfold State.indexTimeout
  split
  · exact L.within_same _ _ (by simp) (L.passSpindle _ _ (L.of_same hs rfl rfl rfl rfl))
  · exact hs

theorem cellStrobe (s : State) (ph : Phase) (hs : P s) : P (s.cellStrobe ph) := by
  unfold State.cellStrobe
  split
  · exact hs
  · refine L.within _ _ (State.eachHead_inv _ _ (fun g t ht => ?_) (L.of_same hs rfl rfl rfl rfl))
    refine L.changes ht (.strobeHead ph _ g t) ⟨_, .inl rfl, State.strobeHead_moves ph _ g t⟩ (by simp) ?_
    obtain ⟨w, hw⟩ := State.strobeHead_tlm ph _ g t
    rw [hw]

/-- A change of a head that leaves its state and its queue. -/
theorem positioned (s : State) (h : Head) (hs : P s) : P (s.modHead h fun c => { c with positioned := true }) :=
  L.changes hs (.modHead s h rfl) ⟨s.heads[h].state, .inl rfl, .modHead rfl⟩ rfl rfl

theorem stepDoneActive (s : State) (h : Head) (n : Nat) (hs : P s) : P (s.stepDoneActive h n) := by
  have hpin : P (s.modPort h fun p => { p with stepDonePin := true }) := L.of_same hs rfl rfl rfl rfl
  unfold State.stepDoneActive
  dsimp only
  split
  · have hlevel : P ((s.modPort h fun p => { p with stepDonePin := true }).modPort h fun p =>
        { p with stepDone := true }) := L.of_same hpin rfl rfl rfl rfl
    split
    · exact L.positioned _ h (L.of_same hlevel rfl rfl rfl rfl)
    · exact hlevel
  · exact hpin

theorem faultActive (s : State) (h : Head) (n : Nat) (hs : P s) : P (s.faultActive h n) := by
  have hpin : P (s.modPort h fun p => { p with faultPin := true }) := L.of_same hs rfl rfl rfl rfl
  unfold State.faultActive
  dsimp only
  split
  · generalize (s.modPort h fun p => { p with faultPin := true }) = u at hpin
    have hlevel : P (u.modPort h fun p => { p with fault := true }) := L.of_same hpin rfl rfl rfl rfl
    have hv : (u.modPort h fun p => { p with fault := true }).heads = u.heads := rfl
    unfold State.faultTaken
    dsimp only
    split
    · next htrips =>
      have hstate : u.heads[h].state ≠ .idle := fun he => by rw [he] at htrips; simp [HeadState.trips] at htrips
      generalize (u.modPort h fun p => { p with fault := true }) = v at hlevel hv
      have hready : P (v.setDue []) := L.of_same hlevel rfl rfl rfl rfl
      exact L.within _ _ (State.withCheck_inv _ _ _ L.headsCheck (L.moved hready (.raiseTrip _ h _ _)
        (by simp) (by simp) (by simp) (.inr (hv ▸ hstate))))
    · exact hlevel
  · exact hpin

/-- A property that every kind of change keeps is kept by every kind of event. -/
theorem closed : State.Closed P where
  queue _ _ h := L.of_same h rfl rfl rfl rfl
  tick _ _ h := L.of_same h rfl rfl rfl rfl
  powerOn _ _ _ _ := L.reset _ rfl rfl
  offer := L.offer
  pop _ h := L.of_same h (by simp) (by simp) (by simp) (by simp)
  inbound := L.takeInbound
  crc := L.crcError
  reception _ _ h := L.of_same h rfl rfl rfl rfl
  symbol _ _ h := L.of_same h rfl rfl rfl rfl
  linkState _ _ h := L.of_same h rfl rfl rfl rfl
  enterUp := L.enterUp
  loseLink := L.loseLink
  endSending _ h := L.of_same h (by simp) (by simp) (by simp) (by simp)
  read _ _ _ h := L.of_same h (by simp) (by simp) (by simp) (by simp)
  expiry := L.fillExpiry
  levels _ _ _ h := L.of_same h rfl rfl rfl rfl
  index := L.indexArrival
  timeout := L.indexTimeout
  strobe := L.cellStrobe
  stepDone := L.stepDoneActive
  stepDoneRelease _ _ _ h := L.of_same h rfl rfl rfl rfl
  fault := L.faultActive
  faultRelease _ _ _ h := L.of_same h rfl rfl rfl rfl

end QueueLaw

end Sys2Proof.Machine

/-! One lock in a set, pins counted and queues bounded: the kinds of change of slots and queues keep each of the three
(R47, R52, R61, R103, R112). -/

namespace Sys2Proof.Machine

/-! ## One lock in a set (R61) -/

/-- A slot emptied holds no lock, and the records reverted touch no slot. -/
theorem State.oneLock.revert (s : State) (n : Fin 64) (hs : s.oneLock) :
    ((s.emptySlot n).revertRecords n).oneLock := by
  have hslots : ((s.emptySlot n).revertRecords n).cca.slots = s.cca.slots.set n Slot.empty := by simp
  exact hs.of_set hslots nofun

theorem State.oneLock.resolveRecord (s : State) (h : Head) (j : Nat) (hs : s.oneLock) :
    (State.resolveRecord h s j).oneLock := by
  refine State.resolveRecord_cases hs (fun d => hs.of_unpinned (by simp))
    (fun k n _ => hs.of_unpinned (s.pin_unpinned n)) fun k n _ _ => ?_
  have hslots : (((s.allocate n k 1).createRequest k n).setRecordSlot h j k n).cca.slots =
      (s.allocate n k 1).cca.slots := by simp
  exact hs.of_set (hslots.trans (s.allocate_cca_slots n k 1)) nofun

theorem State.oneLock.law : QueueLaw State.oneLock where
  reset s hslots _ n hn := by
    have hempty : s.cca.slots[n] = Slot.empty := by simp [hslots, Cache.reset]
    rw [hempty] at hn
    cases hn
  slots _ _ hs _ _ _ hlock := hlock hs
  head _ _ _ hs _ hslots _ _ := hs.of_unpinned hslots
  clear s t hs hcca _ := State.eachHead_inv t _ (fun _ _ hu => hu.of_unpinned (by simp)) (hs.of_unpinned (by rw [hcca]))
  append _ _ hs _ _ := hs
  resolve s h j hs := hs.resolveRecord s h j
  revert s n hs := hs.revert s n

/-- Settles O55: every kind of change of the slots keeps the invariant, so every kind of event does. -/
theorem stepKeepsOneLockPerSet : Obligations.StepKeepsOneLockPerSet := by
  unfold Obligations.StepKeepsOneLockPerSet
  exact State.oneLock.law.closed.step

/-! ## Pins counted (R47, R52) -/

/-- The records of the eight queues, head by head. -/
theorem State.flatMap_queue (s : State) :
    s.heads.toList.flatMap Channel.queue = headOrder.flatMap fun h => s.heads[h].queue := by
  have horder : headOrder = List.finRange 8 := by decide
  have hlist : s.heads.toList = headOrder.map fun h => s.heads[h] := by
    rw [horder]
    refine List.ext_getElem (by simp) fun i _ _ => ?_
    rw [List.getElem_map, List.getElem_finRange, Vector.getElem_toList]
    rfl
  rw [hlist, List.flatMap_map]

/-- The number of records, of the eight queues, that name a slot. -/
def State.nameCount (s : State) (n : Fin 64) : Nat := ∑ h : Head, s.heads[h].queue.countP (TrackRecord.names n)

theorem State.pinsCounted_iff (s : State) : s.pinsCounted ↔ ∀ n : Fin 64, s.cca.slots[n].pins = s.nameCount n := by
  have hcount (n : Fin 64) :
      (s.heads.toList.flatMap Channel.queue).countP (TrackRecord.names n) = s.nameCount n := by
    rw [State.flatMap_queue, List.countP_flatMap, State.nameCount, Fin.sum_univ_def]
    rfl
  unfold State.pinsCounted
  simp only [hcount]

/-- Where one channel changes, the count changes by what its queue names. -/
theorem State.nameCount_of_other {s t : State} {h : Head} (hother : ∀ g ≠ h, t.heads[g] = s.heads[g]) (n : Fin 64) :
    t.nameCount n + s.heads[h].queue.countP (TrackRecord.names n) =
      s.nameCount n + t.heads[h].queue.countP (TrackRecord.names n) := by
  unfold State.nameCount
  rw [← Finset.add_sum_erase _ _ (Finset.mem_univ h), ← Finset.add_sum_erase _ _ (Finset.mem_univ h)]
  have hrest : ∑ g ∈ Finset.univ.erase h, t.heads[g].queue.countP (TrackRecord.names n) =
      ∑ g ∈ Finset.univ.erase h, s.heads[g].queue.countP (TrackRecord.names n) :=
    Finset.sum_congr rfl fun g hg => by rw [hother g (Finset.ne_of_mem_erase hg)]
  omega

/-- The channels are the same. -/
theorem State.nameCount_congr {s t : State} (h : t.heads = s.heads) : t.nameCount = s.nameCount := by
  unfold State.nameCount
  rw [h]

/-- One record rewritten: the count of a property moves as the record's does. -/
theorem countP_modify_add {α : Type} (p : α → Bool) (f : α → α) {q : List α} {r : α} : ∀ {j : Nat}, q[j]? = some r →
    (q.modify j f).countP p + (if p r then 1 else 0) = q.countP p + (if p (f r) then 1 else 0) := by
  induction q with
  | nil => exact fun h => by cases h
  | cons a q ih =>
    intro j hj
    cases j with
    | zero =>
      obtain rfl : a = r := by simpa using hj
      simp only [List.modify_zero_cons, List.countP_cons]
      omega
    | succ j =>
      have hq := ih (j := j) (by simpa using hj)
      simp only [List.modify_succ_cons, List.countP_cons]
      omega

/-- A record that names no slot comes to name one. -/
theorem State.nameCount_setRecordSlot {s t : State} {h : Head} {j : Nat} {k : Key} (n : Fin 64)
    (hbody : s.heads[h].queue[j]?.map TrackRecord.body = some (.image k none)) (ht : t.heads = s.heads) (m : Fin 64) :
    (t.setRecordSlot h j k n).nameCount m = s.nameCount m + if n = m then 1 else 0 := by
  obtain ⟨r, hr, hrbody⟩ := Option.map_eq_some_iff.1 hbody
  have hself : (t.setRecordSlot h j k n).heads[h].queue =
      s.heads[h].queue.modify j fun r => { r with body := .image k (some n) } := by
    rw [← ht]
    simp [State.setRecordSlot]
  have hcount := countP_modify_add (TrackRecord.names m) (fun r => { r with body := .image k (some n) }) hr
  have hunnamed : TrackRecord.names m r = false := by
    unfold TrackRecord.names
    rw [hrbody]
  have hnamed : TrackRecord.names m { r with body := .image k (some n) } = decide (n = m) := rfl
  have hmove := State.nameCount_of_other (s := t) (t := t.setRecordSlot h j k n)
    (fun g hg => (State.Only.modHead t h _ g hg).1) m
  rw [hself, State.nameCount_congr ht, ht] at hmove
  simp only [hunnamed, hnamed, decide_eq_true_eq, Bool.false_eq_true, if_false] at hcount
  omega

namespace State.pinsCounted

variable {s t : State}

/-- Pins and channels are the same. -/
theorem of_same (hs : s.pinsCounted) (hpins : ∀ n : Fin 64, t.cca.slots[n].pins = s.cca.slots[n].pins)
    (hheads : t.heads = s.heads) : t.pinsCounted := by
  rw [State.pinsCounted_iff] at hs ⊢
  intro n
  rw [hpins, hs, State.nameCount_congr hheads]

/-- Records removed, each with its pin. -/
theorem of_sheds {h : Head} (hs : s.pinsCounted) (ht : State.Sheds h s t) : t.pinsCounted := by
  rw [State.pinsCounted_iff] at hs ⊢
  obtain ⟨hother, -, rs, hunpins, hnames⟩ := ht
  intro n
  have hmove := State.nameCount_of_other hother n
  have hn := hnames n
  rw [hunpins n, hs]
  dsimp only
  omega

theorem appendRecord (s : State) (h : Head) (hs : s.pinsCounted) : (s.appendRecord h).pinsCounted := by
  rw [State.pinsCounted_iff] at hs ⊢
  intro n
  have hmove := State.nameCount_of_other (s := s) (t := s.appendRecord h)
    (fun g hg => (State.Only.modHead s h _ g hg).1) n
  have hnew : TrackRecord.names n (s.newRecord s.heads[h].planTrack) = false := by
    unfold State.newRecord State.trackBody acrossBody TrackRecord.names
    dsimp only
    split
    · next hbody =>
      split at hbody
      · cases hbody
      · split at hbody <;> cases hbody
    · rfl
    · rfl
  have hself : (s.appendRecord h).heads[h].queue = s.heads[h].queue ++ [s.newRecord s.heads[h].planTrack] := by
    simp [State.appendRecord]
  rw [hself, List.countP_append, List.countP_singleton, hnew] at hmove
  have hn := hs n
  have hslot : (s.appendRecord h).cca = s.cca := rfl
  rw [hslot]
  simp only [Bool.false_eq_true, if_false] at hmove
  omega

/-- A slot gains a pin, or is allocated with one, and a record that named none comes to name it. -/
theorem of_named {u : State} {h : Head} {j : Nat} {k : Key} {n : Fin 64} (hs : s.pinsCounted)
    (hbody : s.heads[h].queue[j]?.map TrackRecord.body = some (.image k none)) (hu : u.heads = s.heads)
    (hpins : ∀ m : Fin 64, u.cca.slots[m].pins = s.cca.slots[m].pins + if n = m then 1 else 0) :
    (u.setRecordSlot h j k n).pinsCounted := by
  rw [State.pinsCounted_iff] at hs ⊢
  intro m
  rw [State.nameCount_setRecordSlot n hbody hu, ← hs, ← hpins]
  rfl

theorem resolveRecord (s : State) (h : Head) (j : Nat) (hs : s.pinsCounted) :
    (State.resolveRecord h s j).pinsCounted := by
  have hset (v : Vector Slot 64) (n m : Fin 64) (sl : Slot) (hsl : sl.pins = v[n].pins + 1) :
      (v.set n sl)[m].pins = v[m].pins + if n = m then 1 else 0 := by
    by_cases hn : n = m
    · subst hn
      simpa using hsl
    · have hval : n.val ≠ m.val := fun he => hn (Fin.ext he)
      simp [Vector.getElem_set_ne _ _ hval, hn]
  refine State.resolveRecord_cases hs (fun d => hs.of_same (by simp) (by simp))
    (fun k n hbody => hs.of_named hbody (by simp) fun m => hset s.cca.slots n m _ rfl) fun k n hbody hvictim =>
    hs.of_named hbody (by simp) fun m => ?_
  have hcca : ((s.allocate n k 1).createRequest k n).cca = (s.allocate n k 1).cca := by simp
  rw [hcca]
  exact hset s.cca.slots n m _ (by rw [State.pins_of_victim hvictim])

/-- A slot emptied, and the records that named it reverted. -/
theorem revert (s : State) (n : Fin 64) (hs : s.pinsCounted) : ((s.emptySlot n).revertRecords n).pinsCounted := by
  rw [State.pinsCounted_iff] at hs ⊢
  intro m
  have hnames (r : TrackRecord) : TrackRecord.names m (r.revert n) = (!decide (n = m) && TrackRecord.names m r) := by
    unfold TrackRecord.revert
    split
    · next k i hbody =>
      have hr : TrackRecord.names m r = decide (i = m) := by
        unfold TrackRecord.names
        rw [hbody]
        rfl
      rw [hr]
      split
      · next hi =>
        subst hi
        unfold TrackRecord.names
        by_cases hm : i = m <;> simp [hm]
      · next hi =>
        rw [hr]
        by_cases hm : n = m
        · subst hm
          simp [hi]
        · simp [hm]
    · next hbody =>
      unfold TrackRecord.names
      simp [hbody]
    · next hbody =>
      unfold TrackRecord.names
      simp [hbody]
  have hqueue (q : List TrackRecord) : (q.map (TrackRecord.revert n)).countP (TrackRecord.names m) =
      if n = m then 0 else q.countP (TrackRecord.names m) := by
    rw [List.countP_map]
    by_cases hm : n = m
    · subst hm
      simp [Function.comp_def, hnames]
    · simp [Function.comp_def, hnames, hm]
  have hcount : ((s.emptySlot n).revertRecords n).nameCount m = if n = m then 0 else s.nameCount m := by
    unfold State.nameCount
    simp only [State.revertRecords_heads, hqueue]
    split
    · simp
    · rfl
  have hslots : ((s.emptySlot n).revertRecords n).cca.slots = s.cca.slots.set n Slot.empty := by simp
  rw [hcount, hslots]
  by_cases hm : n = m
  · subst hm
    simp [Slot.empty]
  · have hval : n.val ≠ m.val := fun he => hm (Fin.ext he)
    simpa [Vector.getElem_set_ne _ _ hval, hm] using hs m

theorem law : QueueLaw State.pinsCounted where
  reset s hslots hheads := by
    rw [State.pinsCounted_iff]
    intro n
    simp [hslots, Cache.reset, Slot.empty, State.nameCount, hheads, Channel.reset]
  slots _ _ hs hheads _ hpins _ := hs.of_same hpins hheads
  head _ _ _ hs hsheds _ _ _ := hs.of_sheds hsheds
  clear s t hs hcca hheads :=
    State.eachHead_inv t _ (fun g u hu => hu.of_sheds (.clearHead g u)) (hs.of_same (by simp [hcca]) hheads)
  append s h hs _ _ := hs.appendRecord s h
  resolve s h j hs := hs.resolveRecord s h j
  revert s n hs := hs.revert s n

end State.pinsCounted

/-! ## Queues bounded (R103, R112) -/

/-- Every queue is within its bound, and in IDLE every head is IDLE with no record. -/
def State.queuesAgree (s : State) : Prop :=
  ∀ h : Head, s.heads[h].queue.length ≤ 1 + s.lookahead ∧
    (s.jcu.state = .idle → s.heads[h].state = .idle ∧ s.heads[h].queue = [])

/-- That is the bound of the queues, of heads that agree with the job. -/
theorem State.queuesBounded.queuesAgree {s : State} (hheads : s.headsAgree) (hs : s.queuesBounded) : s.queuesAgree :=
  fun h => ⟨(hs h).1, fun hidle => ⟨(hheads h).1 hidle, (hs h).2 hidle⟩⟩

theorem State.queuesAgree.queuesBounded {s : State} (hs : s.queuesAgree) : s.queuesBounded :=
  fun h => ⟨(hs h).1, fun hidle => ((hs h).2 hidle).2⟩

namespace State.queuesAgree

variable {s t : State}

/-- The states of the heads and the lengths of their queues are the same. -/
theorem of_extent (hs : s.queuesAgree) (hgoes : State.GoesOn s t)
    (hextent : ∀ g : Head, t.heads[g].extent = s.heads[g].extent) : t.queuesAgree := by
  intro g
  obtain ⟨hstate, hlength⟩ := Prod.mk.inj (hextent g)
  obtain ⟨hbound, hrest⟩ := hs g
  have hempty (hidle : s.jcu.state = .idle) : t.heads[g].queue = [] :=
    List.eq_nil_of_length_eq_zero (by rw [hlength, (hrest hidle).2]; rfl)
  refine ⟨?_, fun hidle => ⟨hstate.trans (hrest (hgoes.job hidle)).1, hempty (hgoes.job hidle)⟩⟩
  obtain hsame | hidle := hgoes.lookahead
  · rw [hsame, hlength]
    exact hbound
  · rw [hempty hidle]
    exact Nat.zero_le _

/-- One head's queue no longer than it was, in a head that stays IDLE with the job. -/
theorem of_sheds {h : Head} (hs : s.queuesAgree) (hsheds : State.Sheds h s t) (hgoes : State.GoesOn s t)
    (hidle : t.jcu.state = .idle → s.heads[h].state = .idle → t.heads[h].state = .idle) : t.queuesAgree := by
  intro g
  obtain ⟨hbound, hrest⟩ := hs g
  have hlength : t.heads[g].queue.length ≤ s.heads[g].queue.length := by
    by_cases hg : g = h
    · subst hg
      exact hsheds.length
    · rw [hsheds.other g hg]
  have hempty (hjob : s.jcu.state = .idle) : t.heads[g].queue = [] := by
    rw [(hrest hjob).2] at hlength
    exact List.eq_nil_of_length_eq_zero (Nat.le_zero.1 hlength)
  refine ⟨?_, fun hjob => ⟨?_, hempty (hgoes.job hjob)⟩⟩
  · obtain hsame | hjob := hgoes.lookahead
    · rw [hsame]
      exact hlength.trans hbound
    · rw [hempty hjob]
      exact Nat.zero_le _
  · have hwas := (hrest (hgoes.job hjob)).1
    by_cases hg : g = h
    · subst hg
      exact hidle hjob hwas
    · rw [hsheds.other g hg]
      exact hwas

/-- JOB_CLEAR leaves every head IDLE with no record. -/
theorem clearHeads (s : State) : (s.eachHead State.clearHead).queuesAgree := by
  intro g
  obtain ⟨u, -, hafter⟩ := State.eachHead_at (R := fun s t => t.heads[g] = s.heads[g]) (fun _ => rfl)
    (fun _ _ _ hst htu => htu.trans hst) State.clearHead g
    (fun h hh t => (State.Sheds.clearHead h t).other g (Ne.symm hh)) s
  have hclear : (State.clearHead g u).heads[g] = { u.heads[g] with state := .idle, queue := [] } := by
    simp [State.clearHead, State.clearQueue]
  rw [hafter, hclear]
  exact ⟨Nat.zero_le _, fun _ => ⟨rfl, rfl⟩⟩

/-- A record goes to the queue of a moving head with room, so not while the job is IDLE. -/
theorem appendRecord (s : State) (h : Head) (hs : s.queuesAgree) (hmoving : s.heads[h].state.moving = true)
    (hroom : s.heads[h].queue.length < 1 + s.lookahead) : (s.appendRecord h).queuesAgree := by
  intro g
  have hjob : s.jcu.state ≠ .idle := fun hidle => by
    rw [((hs h).2 hidle).1] at hmoving
    cases hmoving
  refine ⟨?_, fun hidle => absurd hidle hjob⟩
  have hlookahead : (s.appendRecord h).lookahead = s.lookahead := rfl
  rw [hlookahead]
  by_cases hg : g = h
  · subst hg
    simp only [State.appendRecord, State.modHead_heads, Fin.getElem_fin, Vector.getElem_set_self, List.length_append,
      List.length_singleton]
    exact hroom
  · have hother : (s.appendRecord h).heads[g] = s.heads[g] := (State.Only.modHead s h _ g hg).1
    rw [hother]
    exact (hs g).1

theorem law : QueueLaw State.queuesAgree where
  reset s _ hheads g := by simp [hheads, Channel.reset]
  slots _ _ hs hheads hgoes _ _ := hs.of_extent hgoes fun g => by rw [hheads]
  head _ _ _ hs hsheds _ hgoes hidle := hs.of_sheds hsheds hgoes hidle
  clear _ t _ _ _ := clearHeads t
  append s h hs hmoving hroom := hs.appendRecord s h hmoving hroom
  resolve s h j hs := hs.of_extent (.of_same (by simp) (by simp)) (State.resolveRecord_extent h s j)
  revert s n hs := hs.of_extent (.of_same (by simp) (by simp)) fun g => by
    rw [State.revertRecords_heads]
    simp [Channel.extent]

end State.queuesAgree

/-- Settles O60: every kind of change of slots and queues keeps both. -/
theorem stepKeepsPinsCounted : Obligations.StepKeepsPinsCounted := by
  unfold Obligations.StepKeepsPinsCounted
  exact ⟨State.pinsCounted.law.closed.step, fun s t hheads hbounded hstep =>
    (State.queuesAgree.law.closed.step s t (hbounded.queuesAgree hheads) hstep).queuesBounded⟩

end Sys2Proof.Machine

/-! The cache commands: which slot a key names, the tests of each command in order, and the planning pass that follows every
reply (R60, R61, R63 to R66). -/

namespace Sys2Proof.Machine

/-! ## Commands taken at once -/

/-- The taking of a frame leaves the cache. -/
theorem State.taken_cca (s : State) (tick : Nat) : (s.taken tick).cca = s.cca := by simp


section
variable {s : State} {tag : Byte} (tick : Nat)

theorem exec_cacheLock_of_takes {tile column : Item} (h : s.takes (commandFrame tag 0x30 0 tile column)) :
    exec (.cacheLock tag tile column tick) s = .next ((s.taken tick).takeCacheLock tag tile column) :=
  congrArg Host.Outcome.next (State.present_of_takes s tick _ _ h)

theorem exec_cacheUnlock_of_takes {tile column : Item} (h : s.takes (commandFrame tag 0x31 0 tile column)) :
    exec (.cacheUnlock tag tile column tick) s = .next ((s.taken tick).takeCacheUnlock tag tile column) :=
  congrArg Host.Outcome.next (State.present_of_takes s tick _ _ h)

theorem exec_cacheInvalidateKey_of_takes {form : Byte} {tile column : Item}
    (h : s.takes (commandFrame tag 0x32 form tile column)) :
    exec (.cacheInvalidateKey tag form tile column tick) s =
      .next ((s.taken tick).takeInvalidateKey tag form tile column) :=
  congrArg Host.Outcome.next (State.present_of_takes s tick _ _ h)

theorem exec_cacheInvalidateAll_of_takes (h : s.takes (commandFrame tag 0x32 1 0 0)) :
    exec (.cacheInvalidateAll tag tick) s = .next ((s.taken tick).takeInvalidateAll tag) :=
  congrArg Host.Outcome.next (State.present_of_takes s tick _ _ h)

theorem exec_cacheQuery_of_takes {slot : Byte} (h : s.takes (commandFrame tag 0x33 slot 0 0)) :
    exec (.cacheQuery tag slot tick) s = .next ((s.taken tick).takeCacheQuery tag slot) :=
  congrArg Host.Outcome.next (State.present_of_takes s tick _ _ h)

end

/-! ## The slot in which a key is RESIDENT -/

section
variable {s : State} {k : Key}

theorem State.residentSlot_of_miss (hmiss : s.lookup k = none) : s.residentSlot k = none := by
  rw [State.residentSlot, hmiss]

variable {n : Fin 64} (hhit : s.lookup k = some n)
include hhit

theorem State.residentSlot_of_filling (hstate : s.cca.slots[n].state ≠ .resident) : s.residentSlot k = none := by
  rw [State.residentSlot, hhit]
  exact if_neg hstate

theorem State.residentSlot_of_resident (hstate : s.cca.slots[n].state = .resident) : s.residentSlot k = some n := by
  rw [State.residentSlot, hhit]
  exact if_pos hstate

end

/-! ## CACHE_LOCK and CACHE_UNLOCK (R61, R63) -/

section
variable {s : State} {k : Key}

theorem State.lockKey_of_absent (h : s.residentSlot k = none) : s.lockKey k = (s, .absent) := by
  rw [State.lockKey, h]

theorem State.unlockKey_of_absent (h : s.residentSlot k = none) : s.unlockKey k = (s, .absent) := by
  rw [State.unlockKey, h]

variable {n : Fin 64} (h : s.residentSlot k = some n)
include h

theorem State.lockKey_of_locked (hlock : s.cca.slots[n].lock = true) : s.lockKey k = (s, .accepted) := by
  rw [State.lockKey, h]
  exact if_pos hlock

theorem State.lockKey_of_conflict (hlock : s.cca.slots[n].lock = false)
    (hother : s.cca.slots[otherSlot n].lock = true) : s.lockKey k = (s, .conflict) := by
  rw [State.lockKey, h]
  exact (if_neg (Bool.eq_false_iff.1 hlock)).trans (if_pos hother)

theorem State.lockKey_of_free (hlock : s.cca.slots[n].lock = false)
    (hother : s.cca.slots[otherSlot n].lock = false) : s.lockKey k = (s.setLock n true, .accepted) := by
  rw [State.lockKey, h]
  exact (if_neg (Bool.eq_false_iff.1 hlock)).trans (if_neg (Bool.eq_false_iff.1 hother))

theorem State.unlockKey_of_resident : s.unlockKey k = (s.setLock n false, .accepted) := by
  rw [State.unlockKey, h]

end

section
variable (s : State) (tag : Byte) {tile column : Item}

theorem State.takeCacheLock_of_key {k : Key} (hk : keyOf tile column = some k) {t : State} {r : Result}
    (h : s.lockKey k = (t, r)) : s.takeCacheLock tag tile column = (t.answer tag 0x30 r).within State.planningPass := by
  rw [State.takeCacheLock, hk]
  dsimp only
  rw [h]
  rfl

theorem State.takeCacheLock_of_no_key (hk : keyOf tile column = none) :
    s.takeCacheLock tag tile column = (s.answer tag 0x30 .range).within State.planningPass := by
  rw [State.takeCacheLock, hk]
  rfl

theorem State.takeCacheUnlock_of_key {k : Key} (hk : keyOf tile column = some k) {t : State} {r : Result}
    (h : s.unlockKey k = (t, r)) :
    s.takeCacheUnlock tag tile column = (t.answer tag 0x31 r).within State.planningPass := by
  rw [State.takeCacheUnlock, hk]
  dsimp only
  rw [h]
  rfl

theorem State.takeCacheUnlock_of_no_key (hk : keyOf tile column = none) :
    s.takeCacheUnlock tag tile column = (s.answer tag 0x31 .range).within State.planningPass := by
  rw [State.takeCacheUnlock, hk]
  rfl

end

/-- Settles O18: the key names its slot in the state in which the frame is taken as before it, and the tests follow. -/
theorem cacheLockFollowsItsTests : Obligations.CacheLockFollowsItsTests := by
  unfold Obligations.CacheLockFollowsItsTests
  intro s tag tile column tick htakes
  have hcca := s.taken_cca tick
  dsimp only
  rw [exec_cacheLock_of_takes tick htakes]
  refine ⟨fun hout => ?_, fun k htile hcolumn => ?_⟩
  · rw [State.takeCacheLock_of_no_key _ tag (keyOf_of_out_of_range hout)]
  · have hdone {t : State} {r : Result} (h : (s.taken tick).lockKey k = (t, r)) :=
      congrArg (Host.Outcome.next (φ := Fault) (ρ := Refusal))
        (State.takeCacheLock_of_key (s.taken tick) tag (keyOf_of_toNat htile hcolumn) h)
    rw [← State.lookup_of_cca hcca, ← hcca]
    refine ⟨fun hmiss => hdone (State.lockKey_of_absent (State.residentSlot_of_miss hmiss)), fun n hhit =>
      ⟨fun hstate => hdone (State.lockKey_of_absent (State.residentSlot_of_filling hhit hstate)),
        fun hstate hlock => ?_, fun hstate hlock hother => ?_, fun hstate hlock hother => ?_⟩⟩
    all_goals have hslot := State.residentSlot_of_resident hhit hstate
    · exact hdone (State.lockKey_of_locked hslot hlock)
    · exact hdone (State.lockKey_of_conflict hslot hlock hother)
    · exact hdone (State.lockKey_of_free hslot hlock hother)

/-- Settles O19: the key names its slot in the state in which the frame is taken as before it. -/
theorem cacheUnlockClearsLock : Obligations.CacheUnlockClearsLock := by
  unfold Obligations.CacheUnlockClearsLock
  intro s tag tile column tick htakes
  have hcca := s.taken_cca tick
  dsimp only
  rw [exec_cacheUnlock_of_takes tick htakes]
  refine ⟨fun hout => ?_, fun k htile hcolumn => ?_⟩
  · rw [State.takeCacheUnlock_of_no_key _ tag (keyOf_of_out_of_range hout)]
  · have hdone {t : State} {r : Result} (h : (s.taken tick).unlockKey k = (t, r)) :=
      congrArg (Host.Outcome.next (φ := Fault) (ρ := Refusal))
        (State.takeCacheUnlock_of_key (s.taken tick) tag (keyOf_of_toNat htile hcolumn) h)
    rw [← State.lookup_of_cca hcca, ← hcca]
    refine ⟨fun hmiss => hdone (State.unlockKey_of_absent (State.residentSlot_of_miss hmiss)), fun n hhit =>
      ⟨fun hstate => hdone (State.unlockKey_of_absent (State.residentSlot_of_filling hhit hstate)), fun hstate =>
        hdone (State.unlockKey_of_resident (State.residentSlot_of_resident hhit hstate))⟩⟩

/-! ## CACHE_INVALIDATE by key (R64) -/

section
variable (t : State × Nat × Nat) {n : Fin 64}

/-- A RESIDENT slot with no pin is emptied and counted. -/
theorem State.invalidateSlot_of_unpinned (hstate : t.1.cca.slots[n].state = .resident)
    (hpins : t.1.cca.slots[n].pins = 0) : State.invalidateSlot t n = (t.1.emptySlot n, t.2.1 + 1, t.2.2) := by
  have hempty : t.1.cca.slots[n].state ≠ .empty := by rw [hstate]; nofun
  have hinvalid : slotInvalid t.1.cca.slots[n] = true := by
    unfold slotInvalid
    rw [hstate, hpins]
    rfl
  exact (if_neg hempty).trans (if_pos hinvalid)

/-- A FILLING or pinned slot is left and counted. -/
theorem State.invalidateSlot_of_kept (hstate : t.1.cca.slots[n].state = .filling ∨
    (t.1.cca.slots[n].state = .resident ∧ 0 < t.1.cca.slots[n].pins)) :
    State.invalidateSlot t n = (t.1, t.2.1, t.2.2 + 1) := by
  have hempty : t.1.cca.slots[n].state ≠ .empty := by
    obtain h | ⟨h, -⟩ := hstate <;> rw [h] <;> nofun
  have hkept : ¬ slotInvalid t.1.cca.slots[n] = true := fun hinvalid => by
    obtain ⟨hresident, hpins⟩ := Bool.and_eq_true_iff.1 hinvalid
    obtain h | ⟨-, h⟩ := hstate
    · rw [h] at hresident
      cases hresident
    · rw [beq_iff_eq.1 hpins] at h
      exact absurd h (Nat.lt_irrefl 0)
  exact (if_neg hempty).trans (if_neg hkept)

end

section
variable {s : State} {k : Key}

theorem State.invalidateKey_of_miss (hmiss : s.lookup k = none) : s.invalidateKey k = (s, 0, 0) := by
  rw [State.invalidateKey, hmiss]

theorem State.invalidateKey_of_hit {n : Fin 64} (hhit : s.lookup k = some n) :
    s.invalidateKey k = State.invalidateSlot (s, 0, 0) n := by
  rw [State.invalidateKey, hhit]

/-- The key form on a key within range. -/
theorem State.takeInvalidateKey_of_key (s : State) (tag : Byte) {tile column : Item}
    (hk : keyOf tile column = some k) {t : State} {i j : Nat} (h : s.invalidateKey k = (t, i, j)) :
    s.takeInvalidateKey tag 0 tile column = (t.queueReply (countsReply tag i j)).within State.planningPass := by
  rw [State.takeInvalidateKey, if_pos rfl, hk]
  dsimp only
  rw [h]
  rfl

/-- A key out of range, or a form that is neither key nor all. -/
theorem State.takeInvalidateKey_refused (s : State) (tag : Byte) {form : Byte} {tile column : Item}
    (h : form ≠ 0 ∨ keyOf tile column = none) :
    s.takeInvalidateKey tag form tile column = (s.answer tag 0x32 .range).within State.planningPass := by
  by_cases hform : form = 0
  · rw [State.takeInvalidateKey, if_pos hform, h.resolve_left fun hne => hne hform]
    rfl
  · rw [State.takeInvalidateKey, if_neg hform]
    rfl

end

/-- Settles O20: the slot of the key is emptied or left as a RESIDENT slot with no pin or another. -/
theorem cacheInvalidateKeyEmptiesUnpinnedSlot : Obligations.CacheInvalidateKeyEmptiesUnpinnedSlot := by
  unfold Obligations.CacheInvalidateKeyEmptiesUnpinnedSlot
  refine ⟨fun s tag form tile column tick htakes _ hout => ?_, fun s tag tile column k tick htakes htile hcolumn => ?_⟩
  · rw [exec_cacheInvalidateKey_of_takes tick htakes,
      State.takeInvalidateKey_refused _ tag (hout.imp_right keyOf_of_out_of_range)]
  · have hcca : (s.taken tick).cca = s.cca := (s.taken_keeps tick).2.2.2.1
    dsimp only
    rw [exec_cacheInvalidateKey_of_takes tick htakes, ← State.lookup_of_cca hcca, ← hcca]
    generalize s.taken tick = u
    have hdone {t : State} {i j : Nat} (h : u.invalidateKey k = (t, i, j)) :=
      congrArg (Host.Outcome.next (φ := Fault) (ρ := Refusal))
        (State.takeInvalidateKey_of_key u tag (keyOf_of_toNat htile hcolumn) h)
    exact ⟨fun hmiss => hdone (State.invalidateKey_of_miss hmiss), fun n hhit =>
      ⟨fun hstate hpins => hdone ((State.invalidateKey_of_hit hhit).trans
          (State.invalidateSlot_of_unpinned (u, 0, 0) hstate hpins)),
        fun hstate => hdone ((State.invalidateKey_of_hit hhit).trans (State.invalidateSlot_of_kept (u, 0, 0) hstate))⟩⟩

/-! ## CACHE_INVALIDATE of all slots (R65) -/

/-- A slot that an invalidation skips and counts. -/
def slotSkipped (sl : Slot) : Bool := sl.state != .empty && !slotInvalid sl

/-- A slot after an invalidation. -/
def invalidatedSlot (sl : Slot) : Slot := if slotInvalid sl then Slot.empty else sl

/-- One slot invalidated: a change of that slot alone, and the counts. -/
theorem State.invalidateSlot_eq (s : State) (i j : Nat) (n : Fin 64) : State.invalidateSlot (s, i, j) n =
    ({ s with cca := { s.cca with slots := changeAt invalidatedSlot s.cca.slots n } },
      i + (if slotInvalid s.cca.slots[n] then 1 else 0), j + (if slotSkipped s.cca.slots[n] then 1 else 0)) := by
  unfold State.invalidateSlot slotSkipped invalidatedSlot changeAt
  dsimp only
  by_cases hempty : s.cca.slots[n].state = .empty
  · have hinvalid : slotInvalid s.cca.slots[n] = false := by
      unfold slotInvalid
      rw [hempty]
      rfl
    rw [if_pos hempty, hinvalid, hempty]
    simp
  · have hne : (s.cca.slots[n].state != SlotState.empty) = true := bne_iff_ne.2 hempty
    rw [if_neg hempty, hne]
    cases slotInvalid s.cca.slots[n]
    · simp
    · rfl

/-- The slots of a list without repetition invalidated one after the other. -/
theorem State.foldl_invalidateSlot_eq (ns : List (Fin 64)) : ns.Nodup → ∀ (s : State) (i j : Nat),
    ns.foldl State.invalidateSlot (s, i, j) =
      ({ s with cca := { s.cca with slots := ns.foldl (changeAt invalidatedSlot) s.cca.slots } },
        i + ns.countP (fun n => slotInvalid s.cca.slots[n]), j + ns.countP (fun n => slotSkipped s.cca.slots[n])) := by
  induction ns with
  | nil => exact fun _ _ _ _ => rfl
  | cons n ns ih =>
    intro hnodup s i j
    obtain ⟨hn, hns⟩ := List.nodup_cons.1 hnodup
    have hrest (p : Slot → Bool) : (ns.countP fun m => p (changeAt invalidatedSlot s.cca.slots n)[m]) =
        ns.countP fun m => p s.cca.slots[m] := by
      refine List.countP_congr fun m hm => ?_
      have hval : n.val ≠ m.val := fun he => hn (Fin.ext he ▸ hm)
      simp [changeAt, Vector.getElem_set_ne _ _ hval]
    rw [List.foldl_cons, State.invalidateSlot_eq, ih hns]
    simp only [hrest, List.countP_cons, List.foldl_cons, Nat.add_assoc, Nat.add_comm]

/-- The slots of the cache counted in order. -/
theorem countP_slotOrder (v : Vector Slot 64) (p : Slot → Bool) :
    (slotOrder.countP fun n => p v[n]) = v.toList.countP p := by
  have hlist : v.toList = slotOrder.map fun n => v[n] := by
    refine List.ext_getElem (by simp [slotOrder]) fun i _ _ => ?_
    simp [slotOrder]
  rw [hlist, List.countP_map]
  rfl

theorem State.invalidateAll_eq (s : State) : s.invalidateAll =
    ({ s with cca := { s.cca with slots := s.cca.slots.map invalidatedSlot } },
      s.cca.slots.toList.countP slotInvalid, s.cca.slots.toList.countP slotSkipped) := by
  have hslots : slotOrder.foldl (changeAt invalidatedSlot) s.cca.slots = s.cca.slots.map invalidatedSlot := by
    ext1 i hi
    have h := foldl_changeAt_getElem invalidatedSlot slotOrder (List.nodup_finRange 64) s.cca.slots ⟨i, hi⟩
    rw [if_pos (show _ ∈ slotOrder from List.mem_finRange _)] at h
    simpa using h
  rw [State.invalidateAll, State.foldl_invalidateSlot_eq slotOrder (List.nodup_finRange 64), hslots, countP_slotOrder,
    countP_slotOrder, Nat.zero_add, Nat.zero_add]

/-- Settles O21: each slot is visited once, so the visits are one change of all slots with their counts. -/
theorem cacheInvalidateAllEmptiesUnpinnedSlots : Obligations.CacheInvalidateAllEmptiesUnpinnedSlots := by
  unfold Obligations.CacheInvalidateAllEmptiesUnpinnedSlots
  intro s tag tick htakes
  have hcca := s.taken_cca tick
  dsimp only
  rw [exec_cacheInvalidateAll_of_takes tick htakes, ← hcca, State.takeInvalidateAll, State.invalidateAll_eq]
  rfl

/-! ## CACHE_QUERY (R66) -/

/-- Settles O22: the reply carries the report of the slot, which the taking of the frame leaves. -/
theorem cacheQueryReturnsSlotRecord : Obligations.CacheQueryReturnsSlotRecord := by
  unfold Obligations.CacheQueryReturnsSlotRecord
  intro s tag slot tick htakes
  have hcca := s.taken_cca tick
  rw [exec_cacheQuery_of_takes tick htakes]
  refine ⟨fun hout => ?_, fun n hn => ?_⟩
  · have hnone : slotOfByte slot = none := dif_neg (by omega)
    rw [State.takeCacheQuery, hnone]
    rfl
  · have hsome : slotOfByte slot = some n := by
      unfold slotOfByte
      rw [dif_pos (by omega)]
      exact congrArg some (Fin.ext hn.symm)
    rw [← hcca]
    refine ⟨(s.taken tick).slotReport n, ?_, rfl, rfl, rfl, rfl, rfl, rfl, fun hempty => if_pos hempty,
      fun k hstate hkey => ?_⟩
    · rw [State.takeCacheQuery, hsome]
      rfl
    · refine (if_neg hstate).trans ?_
      rw [hkey]
      rfl

end Sys2Proof.Machine

/-! The reset state meets the invariants, and two commands that remove records: JOB_CLEAR and HEAD_STOP (R52, R112, R122,
R151). -/

namespace Sys2Proof.Machine

/-! ## Reset -/

/-- Settles O5: the invariants that have a law hold after every reset, and the others are read off the reset state. -/
theorem resetMeetsInvariants : Obligations.ResetMeetsInvariants := by
  unfold Obligations.ResetMeetsInvariants
  exact ⟨rfl, State.oneLock.law.reset _ rfl rfl, .of_empty (Nat.zero_le _) rfl rfl, rfl, fun _ => ⟨rfl, rfl⟩,
    .of_reset rfl, .of_reset rfl rfl, Tables.reset_inRange, State.pinsCounted.law.reset _ rfl rfl,
    State.queuesAgree.queuesBounded (State.queuesAgree.law.reset _ rfl rfl)⟩

/-! ## Records removed (R52) -/

/-- The slots after a list of records has been unpinned. -/
def Cache.unpinned (c : Cache) (rs : List TrackRecord) : Cache :=
  { c with slots := Vector.ofFn fun n : Fin 64 =>
      { c.slots[n] with pins := c.slots[n].pins - rs.countP (TrackRecord.names n) } }

/-- Unpinning records changes the pin counts alone. -/
theorem State.foldl_unpinRecord_eq (rs : List TrackRecord) (s : State) :
    rs.foldl State.unpinRecord s = { s with cca := s.cca.unpinned rs } := by
  have hone (t : State) (r : TrackRecord) : t.unpinRecord r = { t with cca := (t.unpinRecord r).cca } := by
    unfold State.unpinRecord
    split <;> rfl
  have hcache (qs : List TrackRecord) : ∀ t : State,
      qs.foldl State.unpinRecord t = { t with cca := (qs.foldl State.unpinRecord t).cca } := by
    induction qs with
    | nil => exact fun _ => rfl
    | cons q qs ih =>
      intro t
      rw [List.foldl_cons, ih, hone]
  have hslots : (rs.foldl State.unpinRecord s).cca.slots = (s.cca.unpinned rs).slots := by
    ext1 i hi
    have hi' := State.Unpins.foldl_unpinRecord rs s ⟨i, hi⟩
    unfold Cache.unpinned
    rw [Vector.getElem_ofFn]
    exact hi'
  have hrest : (rs.foldl State.unpinRecord s).cca.lru = s.cca.lru ∧
      (rs.foldl State.unpinRecord s).cca.samples = s.cca.samples := by simp
  have hcca : (rs.foldl State.unpinRecord s).cca = s.cca.unpinned rs := by
    generalize (rs.foldl State.unpinRecord s).cca = c at hslots hrest
    obtain ⟨hlru, hsamples⟩ := hrest
    cases c
    simp only at hslots hlru hsamples
    rw [hslots, hlru, hsamples]
    rfl
  rw [hcache, hcca]

/-! ## HEAD_STOP (R122) -/

/-- A head STOPPED at once: its PLANNED records are gone, each with its pin. -/
theorem State.stopNow_eq (s : State) (h : Head) : s.stopNow h =
    { s with
      cca := s.cca.unpinned (s.heads[h].queue.filter fun r => !r.active)
      heads := s.heads.set h
        { s.heads[h] with state := .stopped, queue := s.heads[h].queue.filter fun r => r.active } } := by
  unfold State.stopNow State.dropPlanned
  rw [State.foldl_unpinRecord_eq]
  simp [State.setHeadState, State.modHead]

/-- The change of a head that HEAD_STOP makes, where it leaves no action due and the head unfinished in a job that is not
HALTING: JCU's check and the actions change nothing (R147). -/
theorem State.within_stopHead {s t : State} {h : Head} (hstop : State.stopHead h (s.setDue []) = t)
    (hdue : t.evr.due = []) (hjcu : t.jcu = s.jcu) (htlm : t.tlm = s.tlm) (hjob : s.jcu.state ≠ .halting)
    (henabled : s.enabled h = true) (hstate : t.heads[h].state ≠ .finished) :
    (s.within fun u => u.withCheck h (State.stopHead h)) = t.setDue s.evr.due := by
  have henabled' : t.enabled h = true := by rwa [State.enabled, htlm]
  rw [← hjcu] at hjob
  subst hstop
  exact State.within_eq_of_no_due (State.withCheck_of_unfinished hjob henabled' hstate) hdue

/-- Settles O14: the command passes its test, and neither JCU's check nor a routing action follows the head's change. -/
theorem headStopStopsHead : Obligations.HeadStopStopsHead := by
  unfold Obligations.HeadStopStopsHead
  intro s tag head h tick hh htakes hjob henabled
  dsimp only
  have hreads : ((s.taken tick).answer tag 0x10 .accepted).heads = s.heads ∧
      ((s.taken tick).answer tag 0x10 .accepted).cca = s.cca ∧
      ((s.taken tick).answer tag 0x10 .accepted).jcu = s.jcu ∧
      ((s.taken tick).answer tag 0x10 .accepted).tlm = s.tlm := by simp
  have hstep (hstop : s.heads[h].state.stoppable = true) : exec (.headStop tag head tick) s =
      .next (((s.taken tick).answer tag 0x10 .accepted).within fun u => u.withCheck h (State.stopHead h)) := by
    have htest : (s.taken tick).heads[h].state.stoppable = true := by simpa using hstop
    rw [exec_headStop_of_takes tick htakes, State.takeHeadStop, State.forHead_of_toNat _ _ _ hh, if_pos htest]
  generalize (s.taken tick).answer tag 0x10 .accepted = u at hreads hstep
  obtain ⟨hheads, hcca, hjcu, htlm⟩ := hreads
  have henabled' : u.enabled h = true := by rwa [State.enabled, htlm]
  rw [← hheads] at hstep ⊢
  rw [← hcca]
  rw [← hjcu] at hjob
  refine ⟨fun hengraves => ?_, fun hrests => ?_⟩
  · have hstop : State.stopHead h (u.setDue []) = (u.setDue []).setHeadState h .stopping := by
      have hstate : (u.setDue []).heads[h].state = .engraving := hengraves
      rw [State.stopHead, hstate]
    rw [hstep (by rw [hengraves]; rfl), State.within_stopHead hstop rfl rfl rfl hjob henabled' (by simp)]
    rfl
  · have hstop : State.stopHead h (u.setDue []) = (u.setDue []).stopNow h := by
      unfold State.stopHead
      obtain hstate | hstate := hrests
      all_goals
        have hstate' : (u.setDue []).heads[h].state = _ := hstate
        rw [hstate']
    rw [State.stopNow_eq] at hstop
    rw [hstep (by obtain hstate | hstate := hrests <;> rw [hstate] <;> rfl),
      State.within_stopHead hstop rfl rfl rfl hjob henabled' (by simp)]
    rfl

/-! ## JOB_CLEAR (R112, R151) -/

theorem State.Unpins.clearHead (h : Head) (s : State) : State.Unpins s.heads[h].queue s (State.clearHead h s) := by
  have hqueue : (s.setHeadState h .idle).heads[h].queue = s.heads[h].queue := by simp
  have hclear := State.Unpins.foldl_unpinRecord (s.setHeadState h .idle).heads[h].queue (s.setHeadState h .idle)
  rw [hqueue] at hclear
  exact State.Unpins.keep hclear (by rw [← hqueue]; rfl)

theorem State.Only.clearHead (h : Head) (s : State) : State.Only h s (State.clearHead h s) := by
  have hset : State.Only h s (s.setHeadState h .idle) := .modHead s h _
  have hunpin : State.Only h (s.setHeadState h .idle)
      ((s.setHeadState h .idle).heads[h].queue.foldl State.unpinRecord (s.setHeadState h .idle)) :=
    .of_same (by simp) (by simp) (by simp)
  exact ((hset.trans hunpin).trans (.modHead _ h _)).trans (.modPipe _ h _)

/-- A head's own part in JOB_CLEAR. -/
theorem State.clearHead_self (h : Head) (s : State) :
    (State.clearHead h s).heads[h] = { s.heads[h] with state := .idle, queue := [] } ∧
      (State.clearHead h s).pipes[h] = { s.pipes[h] with wearTerm := none } := by
  simp [State.clearHead, State.clearQueue]

/-- What clearing the heads leaves. -/
theorem State.eachHead_clearHead_keeps (s : State) :
    (s.eachHead State.clearHead).jcu = s.jcu ∧ (s.eachHead State.clearHead).lnk = s.lnk ∧
    (s.eachHead State.clearHead).tlm = s.tlm ∧ (s.eachHead State.clearHead).stu = s.stu ∧
    (s.eachHead State.clearHead).cca.lru = s.cca.lru ∧ (s.eachHead State.clearHead).cca.samples = s.cca.samples ∧
    (s.eachHead State.clearHead).cfu = s.cfu ∧ (s.eachHead State.clearHead).ports = s.ports ∧
    (s.eachHead State.clearHead).evr = s.evr := by
  simp [State.eachHead_eq]

/-- What clearing the heads makes of each of them. -/
theorem State.eachHead_clearHead (s : State) (h : Head) :
    (s.eachHead State.clearHead).heads[h] = { s.heads[h] with state := .idle, queue := [] } ∧
      (s.eachHead State.clearHead).pipes[h] = { s.pipes[h] with wearTerm := none } := by
  obtain ⟨u, ⟨hhead, -, hpipe⟩, -, ⟨hhead', -, hpipe'⟩⟩ :=
    State.eachHead_only State.Only.clearHead (by simp) h s
  obtain ⟨hself, hterm⟩ := State.clearHead_self h u
  rw [hhead', hself, hpipe', hterm, hhead, hpipe]
  exact ⟨rfl, rfl⟩

/-- JOB_CLEAR in a state that takes it: the reply, JOB_STATE, and then every head cleared (R142, R151). -/
theorem State.takeJobClear_accepted {s u : State} (tag : Byte) {j : Job} (hclear : s.jcu.state.clearable = true)
    (hu : (s.answer tag 0x05 .accepted).raisePlain .jobState (jobStateDetail s.jcu.state .idle .clear) = u)
    (hj : { s.jcu with state := .idle } = j) :
    ∃ d, s.takeJobClear tag = ((u.withJobDue j d).eachHead State.clearHead).setDue s.evr.due := by
  obtain ⟨d, hraise⟩ := (s.answer tag 0x05 .accepted).raisePlain_withJobDue j [] .jobState
    (jobStateDetail s.jcu.state .idle .clear)
  rw [hu] at hraise
  have hjcu : ((s.answer tag 0x05 .accepted).setDue []).jcu = s.jcu := by simp
  have hset : ((s.answer tag 0x05 .accepted).setDue []).setJob .idle .clear = u.withJobDue j d := by
    unfold State.setJob
    rw [hjcu, if_neg (by simp [JobState.ended]), ← hraise, hj]
    rfl
  have hidle : (u.withJobDue j d).jcu.state.inMotion = false := by
    subst hj
    rfl
  refine ⟨d, ?_⟩
  generalize u.withJobDue j d = w at hset hidle
  obtain ⟨hkept, -⟩ := w.eachHead_clearHead_keeps
  have hclearJob : ((s.answer tag 0x05 .accepted).setDue []).clearJob = w.eachHead State.clearHead := by
    rw [State.clearJob, hset]
    exact State.headsCheck_of_not_inMotion (by rw [hkept]; exact hidle)
  rw [State.takeJobClear, if_pos hclear, State.within_of_not_inMotion, hclearJob]
  · simp
  · rw [hclearJob, hkept]
    exact hidle

/-- Settles O12: no action can move the job that becomes IDLE, and each head is cleared from its channel as it stood. -/
theorem jobClearEmptiesQueues : Obligations.JobClearEmptiesQueues := by
  unfold Obligations.JobClearEmptiesQueues
  intro s tag tick htakes hstate u
  have hjob : (s.taken tick).jcu = s.jcu := by simp
  have hclear : (s.taken tick).jcu.state.clearable = true := by
    rw [hjob]
    obtain h | h | h | h := hstate <;> rw [h] <;> rfl
  obtain ⟨d, htaken⟩ := State.takeJobClear_accepted (u := u) (j := { s.jcu with state := .idle }) tag hclear
    (by rw [hjob]) (by rw [hjob])
  refine ⟨_, by rw [exec_jobClear_of_takes tick htakes, htaken], ?_⟩
  generalize hw : u.withJobDue { s.jcu with state := .idle } d = w
  obtain ⟨hjcu, hlink, hrecords⟩ :
      w.jcu = { s.jcu with state := .idle } ∧ w.lnk = u.lnk ∧ w.evr.records = u.evr.records := by
    subst hw
    exact ⟨rfl, rfl, rfl⟩
  obtain ⟨hheads, hpipes, hports, htlm, hstu, hcca, hcfu⟩ :
      w.heads = s.heads ∧ w.pipes = s.pipes ∧ w.ports = s.ports ∧ w.tlm = s.tlm ∧ w.stu = s.stu ∧ w.cca = s.cca ∧
        w.cfu = s.cfu := by
    subst hw
    simp [State.withJobDue, u]
  obtain ⟨kjcu, klnk, ktlm, kstu, klru, ksamples, kcfu, kports, kevr⟩ := w.eachHead_clearHead_keeps
  have hcleared (h : Head) := w.eachHead_clearHead h
  have hunpins := State.Unpins.eachHead Channel.queue (fun g t => State.Unpins.clearHead g t) State.Only.clearHead w
  rw [← State.flatMap_queue w] at hunpins
  rw [hheads, hpipes] at hcleared
  unfold State.Unpins at hunpins
  rw [hheads, hcca] at hunpins
  generalize w.eachHead State.clearHead = v at *
  refine ⟨kjcu.trans hjcu, fun h => (hcleared h).1, fun h => (hcleared h).2, hunpins, ?_⟩
  rw [← hlink, ← hrecords, ← htlm, ← hstu, ← hcca, ← hcfu, ← hports]
  exact ⟨klru, ksamples, klnk, by rw [← kevr]; rfl, ktlm, kstu, kcfu, kports⟩

end Sys2Proof.Machine

/-! Accepted segments: the words stored, the entry advanced, and the completion of a fill, of a request or of a preload
(R56 to R58, R62, R77, R78, R82). -/

namespace Sys2Proof.Machine

/-! ## The entry of a segment (R74) -/

/-- No two entries hold one key, so the entry of a segment's id and key is the one that it matches. -/
theorem State.fillsListed.matchEntry {s : State} (h : s.fillsListed) {sg : Segment} {r : Request}
    (hk : keyOf sg.tile sg.column = some r.key) (hr : r ∈ s.cfu.requests) (hid : r.id = sg.id) :
    s.matchEntry sg = some r := by
  rw [State.matchEntry_of_keyOf s hk]
  cases hfind : s.cfu.requests.find? fun q => q.isFor sg.id r.key with
  | none =>
    have hnone := List.find?_eq_none.1 hfind r hr
    simp [Request.isFor, hid] at hnone
  | some q =>
    have hfor := List.find?_some hfind
    obtain ⟨-, hkey⟩ : q.id = sg.id ∧ q.key = r.key := by simpa [Request.isFor] using hfor
    rw [(s.fillsListed_iff.1 h).eq_of_key (List.mem_of_find?_eq_some hfind) hr hkey]

/-- A matched segment at the next offset that fits. -/
theorem State.takeSegment_of_accepted {s : State} {sg : Segment} {r : Request} (hmatch : s.matchEntry sg = some r)
    (hoffset : sg.offset.toNat = r.next) (hwords : sg.words ≠ []) (hfits : r.next + sg.words.length ≤ r.length) :
    s.takeSegment sg = s.acceptSegment r sg := by
  have hnone : r.orderFault sg = none := by
    unfold Request.orderFault
    rw [if_neg (not_not_intro hoffset), if_neg]
    have hlength : sg.words.length ≠ 0 := fun h => hwords (List.length_eq_zero_iff.1 h)
    omega
  simp [State.takeSegment, hmatch, State.matchedSegment, hnone]

/-! ## Storing and completing (R77, R78) -/

/-- The words stored and the entry advanced. -/
def State.stored (s : State) (r : Request) (sg : Segment) : State :=
  (s.storeSegment r.slot sg).modRequest r.key fun _ => r.accept sg s.now

theorem State.acceptSegment_of_partial {s : State} {r : Request} {sg : Segment}
    (h : r.received + sg.words.length ≠ r.length) : s.acceptSegment r sg = s.stored r sg := if_neg h

theorem State.acceptSegment_of_last {s : State} {r : Request} {sg : Segment}
    (h : r.received + sg.words.length = r.length) : s.acceptSegment r sg =
      ((s.stored r sg).within fun u => u.completeFill (r.accept sg s.now)).within State.planningPass := if_pos h

/-- A completion with no conflict of locks. -/
theorem State.completeFill_of_free {s : State} {r : Request}
    (h : r.lock = false ∨ s.cca.slots[otherSlot r.slot].lock = false) : s.completeFill r =
      (s.modSlot r.slot fun sl => { sl with state := .resident, lock := sl.lock || r.lock }).removeRequest r := by
  unfold State.completeFill
  dsimp only
  cases hlock : r.lock with
  | false => simp
  | true =>
    have hfree : s.cca.slots[otherSlot r.slot].lock = false := h.resolve_left (by rw [hlock]; nofun)
    have hval : r.slot.val ≠ (otherSlot r.slot).val := fun he => (otherSlot_otherSlot r.slot).2 (Fin.ext he.symm)
    have hother : ¬ (s.modSlot r.slot fun sl => { sl with state := .resident }).cca.slots[otherSlot r.slot].lock = true := by
      rw [State.modSlot_cca_slots, Fin.getElem_fin, Vector.getElem_set_ne _ _ hval]
      exact Bool.eq_false_iff.1 hfree
    rw [if_pos rfl, State.lockAtCompletion, if_neg hother]
    simp [State.modSlot]

/-- A completion whose lock conflicts: CACHE_CONFLICT, and the slot stays unlocked (R62). -/
theorem State.completeFill_of_conflict {s : State} {r : Request} (hlock : r.lock = true)
    (hother : s.cca.slots[otherSlot r.slot].lock = true) : s.completeFill r =
      ((s.modSlot r.slot fun sl => { sl with state := .resident }).raisePlain .cacheConflict
        (conflictDetail (setOfSlot r.slot).val r.key.tile.val r.key.column.val)).removeRequest r := by
  have hval : r.slot.val ≠ (otherSlot r.slot).val := fun he => (otherSlot_otherSlot r.slot).2 (Fin.ext he.symm)
  have hother' : (s.modSlot r.slot fun sl => { sl with state := .resident }).cca.slots[otherSlot r.slot].lock = true := by
    rw [State.modSlot_cca_slots, Fin.getElem_fin, Vector.getElem_set_ne _ _ hval]
    exact hother
  unfold State.completeFill
  dsimp only
  rw [if_pos hlock, State.lockAtCompletion, if_pos hother']

/-- With no routing action the conflict of a completion leaves no action due. -/
theorem State.within_completeFill {s : State} (hno : s.noActions) (r : Request) :
    (s.within fun u => u.completeFill r) = ((s.setDue []).completeFill r).setDue s.evr.due := by
  refine State.within_of_no_due _ _ ?_
  by_cases h : r.lock = false ∨ s.cca.slots[otherSlot r.slot].lock = false
  · rw [State.completeFill_of_free (s := s.setDue []) h]
    rfl
  · obtain ⟨hlock, hother⟩ : r.lock = true ∧ s.cca.slots[otherSlot r.slot].lock = true := by simpa using h
    rw [State.completeFill_of_conflict (s := s.setDue []) hlock hother]
    have hno' : ((s.setDue []).modSlot r.slot fun sl => { sl with state := .resident }).noActions := hno
    exact State.raise_due hno' _ _ _

/-- The slot after a completion (R78). -/
def Slot.completed (sl : Slot) (locks : Bool) : Slot := { sl with state := .resident, lock := sl.lock || locks }

/-- The cache after a completion: locked where the entry asks for it and the other way is not locked (R62). -/
def Cache.completed (c : Cache) (r : Request) : Cache :=
  { c with slots := c.slots.set r.slot (c.slots[r.slot].completed (r.lock && !c.slots[otherSlot r.slot].lock)) }

/-- The other slot of a slot just written. -/
theorem other_of_set {c : Cache} {v : Vector Slot 64} {n : Fin 64} {sl : Slot} (h : c.slots = v.set n sl) :
    c.slots[otherSlot n] = v[otherSlot n] := by
  have hval : n.val ≠ (otherSlot n).val := fun he => (otherSlot_otherSlot n).2 (Fin.ext he.symm)
  simp [h, Vector.getElem_set_ne _ _ hval]

/-- The slots after the completion of a slot just written. -/
theorem Cache.completed_slots {c : Cache} {r : Request} {v : Vector Slot 64} {sl : Slot}
    (h : c.slots = v.set r.slot sl) :
    (c.completed r).slots = v.set r.slot (sl.completed (r.lock && !v[otherSlot r.slot].lock)) := by
  have hother := other_of_set h
  unfold Cache.completed
  rw [hother]
  simp [h]

/-- What a completion makes of the cache and the entries, and what it leaves. -/
theorem State.within_completeFill_reads {s : State} (hno : s.noActions) (r : Request) :
    ∃ t, (s.within fun u => u.completeFill r) = t ∧
      t.cca = s.cca.completed r ∧
      t.cfu = { s.cfu with requests := s.cfu.requests.filter fun q => q.key != r.key } ∧
      t.jcu = s.jcu ∧ t.tlm = s.tlm ∧ t.stu = s.stu ∧ t.heads = s.heads ∧ t.pipes = s.pipes ∧ t.ports = s.ports ∧
      (r.lock = false ∨ s.cca.slots[otherSlot r.slot].lock = false → t.evr = s.evr ∧
        t.lnk = { s.lnk with requestQueue := s.lnk.requestQueue.filter fun q => r.id == 0 || q.id != r.id }) := by
  refine ⟨_, rfl, ?_⟩
  rw [State.within_completeFill hno]
  by_cases h : r.lock = false ∨ s.cca.slots[otherSlot r.slot].lock = false
  · have hlocks : (r.lock && !s.cca.slots[otherSlot r.slot].lock) = r.lock := by
      obtain h | h := h
      · rw [h]
        rfl
      · rw [h]
        exact Bool.and_true _
    rw [State.completeFill_of_free (s := s.setDue []) h, Cache.completed, hlocks]
    exact ⟨rfl, rfl, rfl, rfl, rfl, rfl, rfl, rfl, fun _ => ⟨rfl, rfl⟩⟩
  · obtain ⟨hlock, hother⟩ : r.lock = true ∧ s.cca.slots[otherSlot r.slot].lock = true := by simpa using h
    rw [State.completeFill_of_conflict (s := s.setDue []) hlock hother]
    have hraised (v : State) (k : EventKind) (d : Word32) : ((v.raisePlain k d).removeRequest r).cca = v.cca ∧
        ((v.raisePlain k d).removeRequest r).cfu =
          { v.cfu with requests := v.cfu.requests.filter fun q => q.key != r.key } ∧
        ((v.raisePlain k d).removeRequest r).jcu = v.jcu ∧ ((v.raisePlain k d).removeRequest r).tlm = v.tlm ∧
        ((v.raisePlain k d).removeRequest r).stu = v.stu ∧ ((v.raisePlain k d).removeRequest r).heads = v.heads ∧
        ((v.raisePlain k d).removeRequest r).pipes = v.pipes ∧ ((v.raisePlain k d).removeRequest r).ports = v.ports := by
      simp [State.removeRequest]
    obtain ⟨hcca, hcfu, hjcu, htlm, hstu, hheads, hpipes, hports⟩ := hraised
      ((s.setDue []).modSlot r.slot fun sl => { sl with state := .resident }) .cacheConflict
      (conflictDetail (setOfSlot r.slot).val r.key.tile.val r.key.column.val)
    refine ⟨hcca.trans ?_, hcfu, hjcu, htlm, hstu, hheads, hpipes, hports, fun hfree => absurd hfree h⟩
    rw [Cache.completed, hlock, hother]
    simp [State.modSlot, Slot.completed]

/-! ## Segments of a request (R57, R77, R78) -/

/-- The entries after one has advanced. -/
theorem requests_map_accept {rs : List Request} {r : Request} (hkeys : ∀ q ∈ rs, q.key = r.key → q = r) (sg : Segment)
    (now : Nat) : (rs.map fun q => if q.key = r.key then r.accept sg now else q) =
      rs.map fun q => if q.key = r.key then
        { q with next := r.next + sg.words.length, received := r.received + sg.words.length, lock := r.lock || sg.lock,
                 active := now } else q := by
  refine List.map_congr_left fun q hq => ?_
  by_cases hkey : q.key = r.key
  · obtain rfl := hkeys q hq hkey
    rfl
  · rw [if_neg hkey, if_neg hkey]

/-- Settles O31: the segment matches its entry in order, and the words are read back from the run that has been written. -/
theorem segmentIsStored : Obligations.SegmentIsStored := by
  unfold Obligations.SegmentIsStored
  intro s sg k r tick htakes hsamples hlisted htile hcolumn hr hid hkey hoffset hwords hreceived hmore a
  subst hkey
  obtain ⟨-, -, -, hcca, hcfu, -, -, -, -, -, hnow⟩ := s.taken_keeps tick
  have hmatch : (s.taken tick).matchEntry sg = some r :=
    State.fillsListed.matchEntry (State.fillsListed_of_filling hlisted hcfu (by unfold State.filling; rw [hcca]))
      (keyOf_of_toNat htile hcolumn) (hcfu ▸ hr) hid
  have htaken : (s.taken tick).takeSegment sg = (s.taken tick).stored r sg := by
    rw [State.takeSegment_of_accepted hmatch hoffset hwords hmore.le]
    exact State.acceptSegment_of_partial (by omega)
  have hread (b : Nat) := sampleRead_writeAll sg.words s.cca.samples a b hsamples
  have hkeys : ∀ q ∈ s.cfu.requests, q.key = r.key → q = r :=
    fun q hq he => (s.fillsListed_iff.1 hlisted).eq_of_key hq hr he
  refine ⟨_, by rw [exec_columnData_of_takes tick htakes, htaken], ?_⟩
  rw [← hcca, ← hcfu] at *
  rw [← hnow, ← requests_map_accept hkeys]
  generalize s.taken tick = u at *
  refine ⟨fun i hi => ?_, fun b hb => ?_, rfl, rfl, rfl⟩
  · have hi' := hread (a + i)
    rw [if_pos (by omega), Nat.add_sub_cancel_left] at hi'
    exact hi'
  · have hb' := hread b
    rw [if_neg (by omega)] at hb'
    exact hb'

/-- The other entries are not touched by an accepted segment. -/
theorem filter_map_accept (rs : List Request) (r : Request) (sg : Segment) (now : Nat) :
    ((rs.map fun q => if q.key = r.key then r.accept sg now else q).filter fun q => q.key != r.key) =
      rs.filter fun q => q.key != r.key := by
  induction rs with
  | nil => rfl
  | cons q rs ih =>
    rw [List.map_cons, List.filter_cons, List.filter_cons, ih]
    by_cases hkey : q.key = r.key
    · rw [if_pos hkey, hkey]
      simp [Request.accept]
    · rw [if_neg hkey]

/-- Settles O32: the slot is FILLING and so not locked, and the completion is the part of the event before the pass. -/
theorem lastSegmentCompletesFill : Obligations.LastSegmentCompletesFill := by
  unfold Obligations.LastSegmentCompletesFill
  intro s sg k r tick htakes hlock hlisted hno htile hcolumn hr hid hkey hoffset hwords hreceived hlast locks
  subst hkey
  obtain ⟨hjcu, htlm, hstu, hcca, hcfu, hheads, hpipes, hports, hevr, -, -⟩ := s.taken_keeps tick
  have hmatch : (s.taken tick).matchEntry sg = some r :=
    State.fillsListed.matchEntry (State.fillsListed_of_filling hlisted hcfu (by unfold State.filling; rw [hcca]))
      (keyOf_of_toNat htile hcolumn) (hcfu ▸ hr) hid
  have htaken := State.takeSegment_of_accepted hmatch hoffset hwords hlast.le
  rw [State.acceptSegment_of_last (by omega)] at htaken
  have hno' : ((s.taken tick).stored r sg).noActions :=
    State.noActions_of_route (s := s) (congrArg Tables.route htlm) hno
  obtain ⟨t, ht, tcca, tcfu, tjcu, ttlm, tstu, theads, tpipes, tports, tevr⟩ :=
    State.within_completeFill_reads hno' (r.accept sg (s.taken tick).now)
  have hunlocked : s.cca.slots[r.slot].lock = false := Bool.eq_false_iff.2 fun hon => by
    obtain ⟨-, -, -, -, hentries, -⟩ := hlisted
    obtain ⟨hfilling, -⟩ := hentries r hr
    rw [(hlock _ hon).1] at hfilling
    cases hfilling
  have hstored : ((s.taken tick).stored r sg).cca.slots = s.cca.slots.set r.slot
      { s.cca.slots[r.slot] with fill := s.cca.slots[r.slot].fill + sg.words.length } := by
    rw [← hcca]
    rfl
  have hslots := Cache.completed_slots (r := r.accept sg (s.taken tick).now) hstored
  have hrequests : (((s.taken tick).stored r sg).cfu.requests.filter fun q => q.key != r.key) =
      s.cfu.requests.filter fun q => q.key != r.key := by
    rw [← hcfu]
    exact filter_map_accept _ r sg _
  refine ⟨t, by rw [exec_columnData_of_takes tick htakes, htaken, ht], ?_, ?_, ?_, ?_, tjcu.trans hjcu, ttlm.trans htlm,
    tstu.trans hstu, theads.trans hheads, tpipes.trans hpipes, tports.trans hports, fun hfree => ?_⟩
  · rw [tcca, hslots]
    simp only [Slot.completed, hunlocked, Bool.false_or]
    rfl
  · rw [tcfu, ← hrequests, ← hcfu]
    rfl
  · rw [tcca, ← hcca]
    rfl
  · rw [tcca, ← hcca]
    rfl
  · rw [← other_of_set hstored] at hfree
    exact (tevr hfree).1.trans hevr

/-! ## The first segment of a preload (R56, R82) -/

/-- The entry of a preload after its first segment. -/
def State.preloadedEntry (s : State) (k : Key) (n : Fin 64) (sg : Segment) : Request :=
  { id := 0, key := k, slot := n, length := tileLength s.tlm.tiles[k.tile], next := sg.words.length,
    received := sg.words.length, lock := sg.lock, active := s.now }

/-- The state after the first segment of a preload, its way allocated and its words stored. -/
def State.preloaded (s : State) (k : Key) (n : Fin 64) (sg : Segment) : State :=
  { s with
    cca :=
      { slots := s.cca.slots.set n
          { state := .filling, key := some k, lock := false, pins := 0, fill := sg.words.length }
        lru := s.cca.lru.set (setOfSlot n) (wayOfSlot n).other
        samples := sampleWriteAll s.cca.samples (8192 * n.val) sg.words }
    cfu := { s.cfu with requests := s.cfu.requests ++ [s.preloadedEntry k n sg] } }

/-- The way allocated and the entry created. -/
def State.preloadBegun (s : State) (k : Key) (n : Fin 64) : State :=
  { s.allocate n k 0 with cfu := { s.cfu with requests := s.cfu.requests ++ [s.preloadEntry k n] } }

section
variable {s : State} {sg : Segment} {k : Key} {n : Fin 64}

/-- A preload that passes the tests. -/
theorem State.preloadSegment_of_begun (hk : keyOf sg.tile sg.column = some k)
    (hvalid : tileValid s.tlm.tiles[k.tile] = true) (hcolumn : k.column.val < tileColumns s.tlm.tiles[k.tile])
    (hwords : sg.words ≠ []) (hlength : sg.words.length ≤ tileLength s.tlm.tiles[k.tile]) (hmiss : s.lookup k = none)
    (hroom : s.cfu.requests.length < 16) (hvictim : s.victim (keySet k) = some n) :
    s.preloadSegment sg = (s.preloadBegun k n).acceptSegment (s.preloadEntry k n) sg := by
  have hfull : ¬ Config.requestEntries ≤ s.cfu.requests.length := Nat.not_le.2 hroom
  unfold State.preloadSegment
  rw [hk]
  dsimp only
  rw [if_neg (by simpa using And.intro hvalid hcolumn), if_neg (by simpa [hwords] using hlength),
    if_neg (by simp [hmiss]), if_neg hfull, hvictim]
  rfl

/-- The entry of a preload takes its first segment. -/
theorem State.preloadEntry_accept (s : State) (k : Key) (n : Fin 64) (sg : Segment) :
    (s.preloadEntry k n).accept sg s.now = s.preloadedEntry k n sg := by
  simp [Request.accept, State.preloadEntry, State.preloadedEntry]

/-- Its words are stored in the way just allocated. -/
theorem State.begun_stored (hoffset : sg.offset = 0) (hkeys : ∀ r ∈ s.cfu.requests, r.key ≠ k) :
    (s.preloadBegun k n).stored (s.preloadEntry k n) sg = s.preloaded k n sg := by
  have hrequests : ((s.cfu.requests ++ [s.preloadEntry k n]).map fun q =>
      if q.key = k then (s.preloadEntry k n).accept sg s.now else q) =
        s.cfu.requests ++ [s.preloadedEntry k n sg] := by
    have hself : (s.preloadEntry k n).key = k := rfl
    rw [List.map_append, List.map_singleton, if_pos hself, s.preloadEntry_accept]
    congr 1
    exact (List.map_congr_left fun q hq => if_neg (hkeys q hq)).trans (List.map_id _)
  have hstored : (s.preloadBegun k n).stored (s.preloadEntry k n) sg =
      { (s.allocate n k 0).storeSegment n sg with
        cfu := { s.cfu with requests := (s.cfu.requests ++ [s.preloadEntry k n]).map fun q =>
          if q.key = k then (s.preloadEntry k n).accept sg s.now else q } } := rfl
  rw [hstored, hrequests]
  simp [State.storeSegment, State.allocate, State.touch, State.setLru, State.modSlot, State.preloaded, sampleAddress,
    Config.slotWords, hoffset]

end

/-- An entry of a key that no other holds is taken out again. -/
theorem filter_append_entry {rs : List Request} {e : Request} {k : Key} (hkeys : ∀ q ∈ rs, q.key ≠ k) (he : e.key = k) :
    ((rs ++ [e]).filter fun q => q.key != k) = rs := by
  rw [List.filter_append, List.filter_eq_self.2 fun q hq => bne_iff_ne.2 (hkeys q hq)]
  simp [he]

/-- Settles O34: the admission and the words stored are one state, and a segment of all L words completes it. -/
theorem preloadBeginsFill : Obligations.PreloadBeginsFill := by
  unfold Obligations.PreloadBeginsFill
  intro s sg k n tick htakes hid hoffset htile hcolumn hkeys hvalid hin hwords hmiss hroom hvictim lru samples locks
  obtain ⟨hjcu, htlm, hstu, hcca, hcfu, hheads, hpipes, hports, hevr, -, hnow⟩ := s.taken_keeps tick
  have hnone : (s.taken tick).matchEntry sg = none := by
    rw [State.matchEntry_of_keyOf _ (keyOf_of_toNat htile hcolumn), hcfu, List.find?_eq_none]
    intro r hr hfor
    exact hkeys r hr (by simpa [Request.isFor] using (Bool.and_eq_true_iff.1 hfor).2)
  have htaken (hlength : sg.words.length ≤ tileLength s.tlm.tiles[k.tile]) : (s.taken tick).takeSegment sg =
      ((s.taken tick).preloadBegun k n).acceptSegment ((s.taken tick).preloadEntry k n) sg := by
    rw [State.takeSegment_of_preload hnone hid hoffset]
    exact State.preloadSegment_of_begun (keyOf_of_toNat htile hcolumn) (by rw [htlm]; exact hvalid)
      (by rw [htlm]; exact hin) hwords (by rw [htlm]; exact hlength) (by rw [State.lookup_of_cca hcca]; exact hmiss)
      (by rw [hcfu]; exact hroom) (by rw [State.victim_of_cca hcca]; exact hvictim)
  have hstored := State.begun_stored (n := n) hoffset (by rw [hcfu]; exact hkeys : ∀ r ∈ (s.taken tick).cfu.requests, _)
  rw [exec_columnData_of_takes tick htakes]
  refine ⟨fun hpart => ?_, fun hall hno => ?_⟩
  · rw [htaken hpart.le, State.acceptSegment_of_partial, hstored]
    · simp only [State.preloaded, State.preloadedEntry, hcca, hcfu, htlm, hnow, samples, lru]
    · simp only [State.preloadEntry, htlm]
      omega
  · have hlast : ((s.taken tick).preloadEntry k n).received + sg.words.length =
        ((s.taken tick).preloadEntry k n).length := by
      simp only [State.preloadEntry, htlm]
      omega
    have haccept : ((s.taken tick).preloadEntry k n).accept sg ((s.taken tick).preloadBegun k n).now =
        (s.taken tick).preloadedEntry k n sg := State.preloadEntry_accept _ k n sg
    have hno' : ((s.taken tick).preloaded k n sg).noActions :=
      State.noActions_of_route (s := s) (congrArg Tables.route htlm) hno
    obtain ⟨t, ht, tcca, tcfu, tjcu, ttlm, tstu, theads, tpipes, tports, tevr⟩ :=
      State.within_completeFill_reads hno' ((s.taken tick).preloadedEntry k n sg)
    rw [htaken hall.le, State.acceptSegment_of_last hlast, hstored, haccept, ht]
    have hslots := Cache.completed_slots (c := ((s.taken tick).preloaded k n sg).cca)
      (r := (s.taken tick).preloadedEntry k n sg) rfl
    refine ⟨t, rfl, ?_, ?_, tjcu.trans hjcu, ttlm.trans htlm, tstu.trans hstu, theads.trans hheads, tpipes.trans hpipes,
      tports.trans hports, fun hfree => ?_⟩
    · have hcompleted : t.cca = { lru, samples, slots := t.cca.slots } := by
        rw [tcca]
        simp only [Cache.completed, State.preloaded, hcca, lru, samples]
      rw [hcompleted, tcca, hslots, hcca]
      rfl
    · rw [tcfu]
      have hkey : ((s.taken tick).preloadedEntry k n sg).key = k := rfl
      simp only [State.preloaded, hkey, hcfu, filter_append_entry hkeys hkey]
    · have hfree' : ((s.taken tick).preloadedEntry k n sg).lock = false ∨
          ((s.taken tick).preloaded k n sg).cca.slots[otherSlot n].lock = false := by
        rw [other_of_set (c := ((s.taken tick).preloaded k n sg).cca) rfl, hcca]
        exact hfree
      obtain ⟨hevents, hlink⟩ := tevr hfree'
      refine ⟨hlink.trans ?_, hevents.trans hevr⟩
      simp [State.preloaded, State.preloadedEntry]

end Sys2Proof.Machine
